-- ==== Sys2Proof/Word.lean ====
section
/-! DEFINITION. The word types of the Cenzora 4160 and their plainest arithmetic. -/

namespace Sys2Proof

/-- One byte of host memory or of a ring record. -/
abbrev Byte := BitVec 8

/-- A 32-bit register, field or host address. -/
abbrev Word32 := BitVec 32

/-- Add `k` to a saturating count (00_scope.md: it stops at its largest value and stays there). -/
def satAdd {w : Nat} (c : BitVec w) (k : Nat) : BitVec w :=
  BitVec.ofNat w (min (c.toNat + k) (2 ^ w - 1))

end Sys2Proof
end

