-- ==== Sys2Proof/Syntax.lean ====
section
/-! DEFINITION. The commands of the part: one constructor per row of spec/opcode_table.json. -/

namespace Sys2Proof

/-- A host write to a register as the bus presents it: the value and which of its four bytes are
written, lane 0 the lowest (R1). -/
structure HostWrite where
  value : Word32
  lanes : BitVec 4
  deriving DecidableEq, Repr

/-- A frame received on the engine link, as R165 and R192 lay it out: the fields between the start
pair and the CRC, and the CRC that came with it. -/
structure RxFrame where
  kind : BitVec 4
  seq : BitVec 8
  length : BitVec 15
  payload : List Word32
  crc : BitVec 16
  deriving DecidableEq, Repr

/-- The five panel buttons (R183). -/
inductive Button where
  | start
  | stop
  | topOfForm
  | line
  | lampTest
  deriving DecidableEq, Repr

/-- The commands. Read completions carry the bytes the bus hands over, in increasing address order. An answer of the bus
is for the transfer that stands there, or comes `late`, for one that has ended at its limit (R157; log 58). -/
inductive Instr where
  | powerOn
  | runSet (w : HostWrite)
  | runClear (w : HostWrite)
  | deviceReset (w : HostWrite)
  | glyphFlush (w : HostWrite)
  | sweepInterval (w : HostWrite)
  | attention (w : HostWrite)
  | eventsWrite (w : HostWrite)
  | eventMaskWrite (w : HostWrite)
  | areaBaseWrite (w : HostWrite)
  | registerWriteIgnored (offset : Nat) (w : HostWrite)
  | deviceResetDone
  | sweepTimerExpiry
  | areaHeaderRead (data : List Byte) (late : Bool := false)
  | descriptorRead (data : List Byte) (late : Bool := false)
  | openRequest
  | closeRequest
  | cancelRequest
  | rushRequest
  | resetRequest
  | badRequest
  | fontDirectoryRead (data : List Byte) (late : Bool := false)
  | ringRead (data : List Byte) (late : Bool := false)
  | lineRecord
  | jobRecord
  | endRecord
  | markRecord
  | wrapRecord
  | discardRecord
  | formTransfer (data : List Byte) (late : Bool := false)
  | flushTimerExpiry
  | descriptorWrite (late : Bool := false)
  | requestFieldWrite (late : Bool := false)
  | deviceRecordWrite (late : Bool := false)
  | busError (late : Bool := false)
  | limitTimerExpiry
  | bandBegin
  | subBlockRead (data : List Byte) (late : Bool := false)
  | flushDirectoryRead (data : List Byte) (late : Bool := false)
  | messageHandover
  | pollTimerExpiry
  | answerTimerExpiry
  | status (f : RxFrame)
  | exitFrame (f : RxFrame)
  | refusedFrame (f : RxFrame)
  | badFrame (f : RxFrame)
  | startButton
  | stopButton
  | topOfForm
  | lineButton
  | lampTest
  | buttonRelease (b : Button)
  | repeatTimerExpiry
  | lingerTimerExpiry
  | blinkHalf
  deriving DecidableEq, Repr

end Sys2Proof
end

