-- ==== Sys2Proof/Config.lean ====
section
/-! DEFINITION. What the part fixes: the constants of the manual, and the two values that the manual
leaves open and the model leaves free. -/

namespace Sys2Proof.Config

/-- FREE VALUE, log 48: the tag a FAULTED report gives to a JOB record whose tag the part has not read (R41, step 4).
It is asked for by stream and by how many such tags were shown before. -/
opaque unreadTag : Fin 8 → Nat → Word32

/-- FREE VALUE, log 23: whether the part refuses a form whose check comes before the first directory read has completed
(R140), or lets that check wait for a directory (step 4 of R76). The two rules contradict each other there. -/
opaque refusesUnread : Bool

/-- IDENT part code (R1, R16). -/
def partCode : Nat := 0x4160
/-- IDENT revision (R1, R16). -/
def revision : Nat := 2
/-- Bytes of the read buffer (R29). -/
def bufferBytes : Nat := 512
/-- Most bytes of one transfer (R154). -/
def maxTransfer : Nat := 64
/-- Bytes a discard read asks for: header and tag of a JOB, the longest tag place. DESIGN CHOICE, log 16. -/
def discardBytes : Nat := 16
/-- Strike pool entries (R100). -/
def poolSize : Nat := 1024
/-- Most strikes on one line (R64). -/
def lineStrikes : Nat := 4
/-- Most messages in the sent list (R164). -/
def sentMax : Nat := 4
/-- Dots across the engine (00_scope.md). -/
def engineWidth : Nat := 4096
/-- Dot rows of a whole band (R87). -/
def bandRows : Nat := 64
/-- The longest flush interval in seconds (R7). -/
def maxFlush : Nat := 60
/-- Poll timer in ms (R167). -/
def pollMs : Nat := 20
/-- Answer timer in ms (R167). -/
def answerMs : Nat := 5
/-- Limit timer in ms (R155). -/
def limitMs : Nat := 1
/-- First LINE repeat in ms (R187). -/
def repeatDelayMs : Nat := 500
/-- Further LINE repeats in ms (R187). -/
def repeatMs : Nat := 100
/-- Linger timer in ms (R189). -/
def lingerMs : Nat := 5000
/-- Half a period of the 4 Hz blink in ms (R189). -/
def blinkMs : Nat := 125
/-- Rows of a LINE advance while no pitch is mounted (R186). -/
def bareAdvance : Nat := 50
/-- Page numbers run from 0 to 999,999 (R59). -/
def pageNumbers : Nat := 1000000
/-- Translate entry for SPACE (chapter 11). -/
def spaceEntry : Nat := 0xFFFF
/-- Translate entry for SUBSTITUTE (chapter 11). -/
def substituteEntry : Nat := 0xFFFE
/-- Code of a space (R84). -/
def codeSpace : Byte := 32
/-- Code of the digit 0 (R84). -/
def codeZero : Nat := 48
/-- Code of an asterisk (R84). -/
def codeAsterisk : Byte := 42

end Sys2Proof.Config
end

