-- ==== Sys2Proof/Machine/State.lean ====
section
/-! DEFINITION. The state of the part, block by block, as plain data, and its value after power-on. -/

namespace Sys2Proof.Machine

/-! ## Names of the control area's codes -/

/-- Stream states (R18). -/
inductive StreamState where
  | closed
  | idle
  | queued
  | active
  | faulted
  deriving DecidableEq, Repr

/-- Fault codes of a stream (R18). -/
inductive FaultCode where
  | none
  | badFill
  | badRecord
  | badCarriage
  | noJob
  | badForm
  | missingStop
  | memRead
  | formRead
  deriving DecidableEq, Repr

/-- Wait reasons of a stream and of the engine (R20, R181). -/
inductive WaitReason where
  | none
  | forms
  | operatorStop
  | jam
  | notReady
  | offline
  | hostPause
  | slotWait
  deriving DecidableEq, Repr

/-- Results of a request (R21 to R27). -/
inductive RequestResult where
  | noneYet
  | accepted
  | refusedState
  | badRequest
  | badRing
  | nothingToCancel
  deriving DecidableEq, Repr

/-- Outcomes of a job (R39); `noneYet` also stands in the report list for a job still in progress. -/
inductive JobOutcome where
  | noneYet
  | done
  | cancelled
  | faulted
  deriving DecidableEq, Repr

/-- The six request codes of a descriptor, and any other (R21). -/
inductive RequestCode where
  | none
  | openRing
  | close
  | cancel
  | rush
  | reset
  | unknown
  deriving DecidableEq, Repr

/-! ## Register Window -/

/-- The registers of R1, with the sweep timer (remaining ms while it runs, R9). -/
structure RegisterWindow where
  run : Bool
  resetBusy : Bool
  sweepInterval : BitVec 8
  events : BitVec 11
  eventMask : BitVec 11
  areaBase : Word32
  rstimg : Bool
  sweepTimer : Option Nat
  deriving DecidableEq, Repr

/-! ## Stream Controller -/

/-- One entry of a stream's report list (R39). The entry stands from the acceptance of its job; its
outcome is `noneYet` while the job is in progress, and `due` is set when the report falls due. -/
structure Report where
  tag : Word32
  outcome : JobOutcome
  due : Bool
  pages : BitVec 32
  deriving DecidableEq, Repr

/-- The stream record of R18. The last four fields are what R44 and R45 say a discard remembers, and how many of
the stream's pages stood behind the records it last skipped: their exits leave release where it is (R33, R44). -/
structure StreamRec where
  state : StreamState
  ringBase : Word32
  ringSize : Nat
  fill : Nat
  take : Nat
  release : Nat
  rush : Bool
  discard : Bool
  fault : FaultCode
  wait : WaitReason
  result : RequestResult
  flushSecs : Nat
  recordsTaken : BitVec 32
  pagesExited : BitVec 32
  reprints : BitVec 16
  late : BitVec 16
  excess : BitVec 16
  overrun : BitVec 16
  substitutes : BitVec 16
  pageNo : Nat
  cursorLine : Nat
  markTag : Word32
  jobTag : Word32
  jobOutcome : JobOutcome
  jobPages : BitVec 32
  reports : List Report
  clearOwed : Bool
  discardReports : Bool
  discardTag : Option Word32
  discardStalled : Bool
  heldExits : Nat
  deriving DecidableEq, Repr

/-- Scan states (R8). -/
inductive ScanState where
  | noScan
  | scanning
  | scanningOwed
  deriving DecidableEq, Repr

/-- What a descriptor read brought, held while its request is acted on (R7). -/
structure Taken where
  fill : Nat
  code : RequestCode
  flush : Nat
  deriving DecidableEq, Repr

/-- How far the scan in progress has come (R7): the header read, the read of descriptor `n`, the ring
read of an OPEN, a request to be acted on (with the ring base and size an OPEN read), its result
writes, and the directory read at the scan's end. -/
inductive ScanPhase where
  | none
  | header
  | descriptor (n : Fin 8)
  | openRead (n : Fin 8) (t : Taken)
  | request (n : Fin 8) (t : Taken) (base : Word32) (size : Nat)
  | acting (n : Fin 8) (t : Taken)
  | directory
  deriving DecidableEq, Repr

/-- The record a discard read brought, held apart from the read buffer (R29). -/
structure HeldRecord where
  stream : Fin 8
  bytes : List Byte
  deriving DecidableEq, Repr

/-- The Stream Controller and its Stream Reader. `cut` is set when RUN 0 ends the scan after the read or the
descriptor it stands at (R4); `moved` when AREA_BASE has changed since a directory read was issued (R6). -/
structure StreamController where
  streams : Vector StreamRec 8
  queue : List (Fin 8)
  scan : ScanState
  phase : ScanPhase
  cut : Bool
  moved : Bool
  streamCount : Nat
  formCount : Nat
  fontCount : Nat
  firstPage : BitVec 8
  dirOwed : Bool
  recordOwed : Bool
  buffer : List Byte
  readFailed : Bool
  held : Option HeldRecord
  lastWasScan : Bool
  lastStream : Fin 8
  deriving DecidableEq, Repr

/-! ## Composer -/

/-- Composer states (R47). -/
inductive ComposerState where
  | noOwner
  | loadingForm
  | ready
  | atFill
  | waitSlot
  | waitStrike
  deriving DecidableEq, Repr

/-- The JOB taken since the grant (R37); `started` is set once the job is in progress. -/
structure JobInfo where
  tag : Word32
  form : Nat
  firstPage : Nat
  started : Bool
  deriving DecidableEq, Repr

/-- What is left of the record that waits for a slot (R66). -/
inductive RecordRest where
  | openJob
  | strikeAndAfter
  | nothing
  deriving DecidableEq, Repr

/-- What the Composer holds in WAIT_SLOT (R66). -/
structure PendingOpen where
  line : Nat
  turns : Nat
  pageNo : Nat
  rest : RecordRest
  deriving DecidableEq, Repr

/-- The flush timer (R69, R71): `paused` keeps the remaining time while RUN is 0. -/
inductive FlushTimer where
  | stopped
  | running (ms : Nat)
  | paused (ms : Nat)
  | expired
  deriving DecidableEq, Repr

/-- The Composer. -/
structure Composer where
  state : ComposerState
  cursor : Option Nat
  flush : FlushTimer
  job : Option JobInfo
  waiting : Option PendingOpen
  deriving DecidableEq, Repr

/-! ## Form Unit -/

/-- A column rule (R90); position 0 is unused. -/
structure ColumnRule where
  position : Nat
  first : Nat
  last : Nat
  deriving DecidableEq, Repr

/-- A form as loaded (R75): the record's fields under the names of R78, with the clamps of R81, the
vertical format table and the translate table. -/
structure Form where
  number : Nat
  stock : Nat
  length : Nat
  lines : Nat
  pitch : Nat
  topMargin : Nat
  positions : Nat
  charPitch : Nat
  leftMargin : Nat
  strobePeriod : Nat
  e1 : Nat
  e2 : Nat
  e3 : Nat
  headerLine : Nat
  capturePos : Nat
  captureLen : Nat
  firstPos : Nat
  lastPos : Nat
  numberPos : Nat
  numberWidth : Nat
  substitute : Nat
  ruleCode : Byte
  rules : List ColumnRule
  vft : List Byte
  translate : List (BitVec 16)
  deriving DecidableEq, Repr

/-- Steps 3 to 6 of a load (R76). -/
inductive LoadStep where
  | recordLow
  | recordHigh
  | check
  | vft
  | translate
  deriving DecidableEq, Repr

/-- A load under way: the form number, the step, and what has been read so far (R75, R76). -/
structure Load where
  number : Nat
  step : LoadStep
  recordBytes : List Byte
  vftBytes : List Byte
  translateBytes : List Byte
  deriving DecidableEq, Repr

/-- The Form Unit (R75). -/
inductive FormUnit where
  | empty
  | loading (l : Load)
  | loaded (f : Form)
  deriving DecidableEq, Repr

/-! ## Page Store -/

/-- Page slot states (R98). -/
inductive SlotState where
  | free
  | composing
  | closed
  | imaging
  | sent
  deriving DecidableEq, Repr

/-- What the Band Builder draws at one position (R109). -/
inductive GlyphRef where
  | blank
  | glyph (typeface index : Nat)
  deriving DecidableEq, Repr

/-- A strike (R61), with its glyph references once it has been translated (R109). -/
structure Strike where
  line : Nat
  place : Nat
  seq : Nat
  typeface : Nat
  keyed : Bool
  template : Bool
  codes : List Byte
  glyphs : Option (List GlyphRef)
  deriving DecidableEq, Repr

/-- The strobe triple with its period (R92). -/
structure Strobe where
  e1 : Nat
  e2 : Nat
  e3 : Nat
  period : Nat
  deriving DecidableEq, Repr

/-- The slot's copy of the form (R93). -/
structure FormCopy where
  stock : Nat
  length : Nat
  lines : Nat
  pitch : Nat
  topMargin : Nat
  positions : Nat
  charPitch : Nat
  leftMargin : Nat
  strobe : Strobe
  rules : List ColumnRule
  deriving DecidableEq, Repr

/-- The rows of a slot that wait to be handed to the engine: first row and end row (R97). -/
structure Entry where
  first : Nat
  last : Nat
  deriving DecidableEq, Repr

/-- A job whose last page a slot is (R97). -/
structure JobEnd where
  tag : Word32
  outcome : JobOutcome
  deriving DecidableEq, Repr

/-- A page slot (R97). -/
structure Slot where
  state : SlotState
  mark : Bool
  stream : Fin 8
  jobTag : Word32
  firstOfJob : Bool
  pageNo : Nat
  copy : FormCopy
  ruleRef : Option GlyphRef
  strikes : List Strike
  seqCount : Nat
  split : Nat
  entry : Option Entry
  fillMade : Bool
  firstClose : Bool
  releaseOff : Nat
  markTag : Option Word32
  jobEnds : List JobEnd
  pageSeq : Option (BitVec 8)
  deriving DecidableEq, Repr

/-- The Page Store (R97). -/
structure PageStore where
  slots : Vector Slot 4
  imaging : List (Fin 4)
  poolUsed : Nat
  lastOpened : Fin 4
  deriving DecidableEq, Repr

/-! ## Band Builder -/

/-- Band Builder states (R122). -/
inductive BuilderState where
  | still
  | building
  | fillWait
  | offering
  deriving DecidableEq, Repr

/-- Page marks of a message (R130). -/
structure PageMarks where
  first : Bool
  last : Bool
  hold : Bool
  deriving DecidableEq, Repr

/-- The dots of a band that hold at least one mark, each with its count: key row × 4,096 + column, keys
strictly rising (R121). -/
abbrev DotMap := List (Nat × Nat)

/-- What a message carries besides its rows' place: dots or a bare advance (R129). -/
inductive MessageBody where
  | band (dots : DotMap)
  | slew
  deriving DecidableEq, Repr

/-- A BAND or SLEW message before it is numbered (R129 to R132). `slot` is none for a LINE advance (R186). -/
structure Message where
  slot : Option (Fin 4)
  row : Nat
  count : Nat
  body : MessageBody
  marks : PageMarks
  strobe : Option Strobe
  deriving DecidableEq, Repr

/-- A glyph cell to be drawn: its top row, its left column and its glyph reference (R124). -/
structure Cell where
  top : Nat
  col : Nat
  typeface : Nat
  index : Nat
  deriving DecidableEq, Repr

/-- A refused BAND as the Engine Controller orders it rebuilt (R137). -/
structure Rebuild where
  seq : BitVec 16
  marks : PageMarks
  deriving DecidableEq, Repr

/-- The band in hand (R121): the range, the marks counted so far and the cells still to be drawn. -/
structure BandWork where
  slot : Fin 4
  first : Nat
  last : Nat
  dots : DotMap
  cells : List Cell
  rebuild : Option Rebuild
  deriving DecidableEq, Repr

/-- A pending slew (R121): the first of its blank rows, and how many. -/
structure PendingSlew where
  row : Nat
  count : Nat
  first : Bool
  deriving DecidableEq, Repr

/-- A rebuilt band offered alone, with the message it replaces (R137). -/
structure RebuiltOffer where
  seq : BitVec 16
  message : Message
  deriving DecidableEq, Repr

/-- The Band Builder (R121). `rebuilt` holds the rebuilt bands offered, the latest first (R137; log 27). -/
structure BandBuilder where
  state : BuilderState
  slot : Option (Fin 4)
  nextRow : Nat
  work : Option BandWork
  slew : Option PendingSlew
  offer : List Message
  rebuilt : List RebuiltOffer
  deriving DecidableEq, Repr

/-! ## Glyph Cache -/

/-- A typeface record (R140). -/
structure FontRec where
  base : Word32
  count : Nat
  width : Nat
  height : Nat
  deriving DecidableEq, Repr

/-- A font directory (R140). -/
structure Directory where
  count : Nat
  fonts : List FontRec
  deriving DecidableEq, Repr

/-- A cache entry (R143): a sub-block is present exactly when its bytes are held. -/
structure CacheEntry where
  tag : Option (Nat × Nat)
  subs : Vector (Option (List Byte)) 4
  deriving DecidableEq, Repr

/-- A set of four ways with its recency order, most recent first (R143). -/
structure CacheSet where
  ways : Vector CacheEntry 4
  order : List (Fin 4)
  deriving DecidableEq, Repr

/-- The fill in flight (R146, R149). `font` is the typeface record in force when it began, which it keeps to its
end; `todo` starts with the sub-block being read; `got` holds its bytes. -/
structure Fill where
  set : Fin 32
  way : Fin 4
  typeface : Nat
  index : Nat
  font : FontRec
  todo : List (Fin 4)
  got : List Byte
  wanted : Bool
  deriving DecidableEq, Repr

/-- How far a GLYPH_FLUSH has come (R148). -/
inductive FlushPhase where
  | none
  | owed
  | waitFill
  | reading
  deriving DecidableEq, Repr

/-- The Glyph Cache. -/
structure GlyphCache where
  sets : Vector CacheSet 32
  inForce : Option Directory
  aside : Option Directory
  fill : Option Fill
  flush : FlushPhase
  hits : BitVec 32
  misses : BitVec 32
  faults : BitVec 32
  deriving DecidableEq, Repr

/-! ## Memory Transfer Unit and Status Writer -/

/-- The requesters in the order of the round (R155). -/
inductive Requester where
  | streamReader
  | formLoader
  | glyphFiller
  | statusWriter
  deriving DecidableEq, Repr

/-- What a transfer is for (R154): `deviceRecord` and `deviceRecordHigh` are the two transfers of a device record
write, the lower half first. -/
inductive TransferKind where
  | areaHeader
  | descriptor (n : Fin 8)
  | openRead (n : Fin 8)
  | ring (n : Fin 8)
  | discardRing (n : Fin 8)
  | fontDirectory
  | formRecord
  | vft
  | translate
  | subBlock
  | flushDirectory
  | descriptorWrite (n : Fin 8)
  | requestField (n : Fin 8)
  | deviceRecord
  | deviceRecordHigh
  deriving DecidableEq, Repr

/-- A request (R153): the bytes are those of a write and empty for a read. -/
structure Request where
  kind : TransferKind
  addr : Word32
  len : Nat
  data : List Byte
  deriving DecidableEq, Repr

/-- A request place (R153). -/
inductive Place where
  | empty
  | pending (r : Request)
  | granted
  deriving DecidableEq, Repr

/-- The transfer on the bus; `wanted` is clear when its outcome is to be discarded (R158). -/
structure Transfer where
  who : Requester
  request : Request
  wanted : Bool
  deriving DecidableEq, Repr

/-- The Memory Transfer Unit (R153). -/
structure TransferUnit where
  reader : Place
  loader : Place
  filler : Place
  writer : Place
  inFlight : Option Transfer
  limit : Option Nat
  pointer : Requester
  deriving DecidableEq, Repr

/-- What an owed write of the Status Writer is (R160). -/
inductive OwedKind where
  | descriptor (n : Fin 8)
  | requestField (n : Fin 8)
  | deviceRecord
  deriving DecidableEq, Repr

/-- An owed write: whether its end owes STREAMn (R12), whether it carries a job report (R161) and
whether it carries a request result (R21). -/
structure Owed where
  kind : OwedKind
  event : Bool
  report : Bool
  result : Bool
  deriving DecidableEq, Repr

/-- The Status Writer (R160). The last two fields tell whether a failure has asked for the device record write that
waits, and for the one issued (R159). -/
structure StatusWriter where
  waiting : List Owed
  issued : Option Owed
  secondHalf : Bool
  failureWaits : Bool
  failureIssued : Bool
  deriving DecidableEq, Repr

/-! ## Engine Controller -/

/-- Hold reasons (R164). -/
inductive HoldReason where
  | operatorStop
  | notReady
  | hostPause
  | returned
  deriving DecidableEq, Repr

/-- Engine Controller states, HELD with its reason (R164). -/
inductive EngineState where
  | offline
  | idle
  | feeding
  | held (r : HoldReason)
  | formsWait
  | jammed
  deriving DecidableEq, Repr

/-- A hold owed (R164). -/
inductive OwedHold where
  | none
  | operatorStop
  | hostPause
  deriving DecidableEq, Repr

/-- Alignment of the paper (R170). -/
inductive Alignment where
  | set
  | off
  | unknown
  deriving DecidableEq, Repr

/-- The engine condition record: the fields of the latest STATUS taken (R175). -/
structure Condition where
  ready : Bool
  inMotion : Bool
  bandRoom : Nat
  jam : Bool
  formsOut : Bool
  coverOpen : Bool
  notReadySeen : Bool
  formsLow : Bool
  underruns : Nat
  lastExit : BitVec 8
  lastAccepted : BitVec 16
  deriving DecidableEq, Repr

/-- A message of the sent list (R164): what a resend needs of it, when it was sent, whether a refusal of
it has been taken and whether it still waits for its resend (R177). -/
structure SentMsg where
  seq : BitVec 16
  pageSeq : BitVec 8
  slot : Option (Fin 4)
  isBand : Bool
  row : Nat
  count : Nat
  marks : PageMarks
  strobe : Option Strobe
  sentAt : Nat
  refused : Bool
  awaiting : Bool
  deriving DecidableEq, Repr

/-- The Engine Controller (R164). -/
structure EngineController where
  state : EngineState
  holdOwed : OwedHold
  mountedStock : Nat
  mountedLength : Nat
  mountedPitch : Option Nat
  alignment : Alignment
  bandRoom : Nat
  handed : Nat
  pageSeq : BitVec 8
  bandSeq : BitVec 16
  frameSeq : BitVec 8
  expected : Option (BitVec 8)
  sent : List SentMsg
  halting : Bool
  cond : Condition
  lastExit : Option (BitVec 8)
  pollTimer : Option Nat
  answerTimer : Option Nat
  missed : Nat
  pollAt : Nat
  deriving DecidableEq, Repr

/-- The counts of the device record that a band boundary may show (R151, R181). -/
structure BoundaryCounts where
  underruns : BitVec 32
  linkErrors : BitVec 32
  refusals : BitVec 32
  bandsSent : BitVec 32
  pagesExited : BitVec 32
  hits : BitVec 32
  misses : BitVec 32
  faults : BitVec 32
  deriving DecidableEq, Repr

/-- The device-wide counts (R158, R181), and those that the latest issued device record write carried. -/
structure DeviceCounts where
  underruns : BitVec 32
  linkErrors : BitVec 32
  refusals : BitVec 32
  bandsSent : BitVec 32
  pagesExited : BitVec 32
  memFaults : BitVec 32
  lastFault : Word32
  shown : BoundaryCounts
  deriving DecidableEq, Repr

/-- What a frame of the part carries (R166, R192). -/
inductive TxBody where
  | mount (length : Nat)
  | band (seq : BitVec 16) (page : BitVec 8) (m : Message)
  | slew (seq : BitVec 16) (page : BitVec 8) (m : Message)
  | top
  | halt
  | poll
  deriving DecidableEq, Repr

/-- A frame the part has sent, with its sequence field (R165). -/
structure TxFrame where
  seq : BitVec 8
  body : TxBody
  deriving DecidableEq, Repr

/-! ## Panel Controller -/

/-- A button: DOWN, and armed (R183). -/
structure ButtonRec where
  down : Bool
  armed : Bool
  deriving DecidableEq, Repr

/-- The five buttons by name. -/
structure Buttons where
  start : ButtonRec
  stop : ButtonRec
  topOfForm : ButtonRec
  line : ButtonRec
  lampTest : ButtonRec
  deriving DecidableEq, Repr

/-- Repeat phases (R183). -/
inductive RepeatPhase where
  | none
  | delay
  | repeating
  deriving DecidableEq, Repr

/-- Lamp functions (R183, R188). -/
inductive LampFunction where
  | off
  | ready
  | attention
  | activity
  | formsLow
  | offline
  deriving DecidableEq, Repr

/-- The Panel Controller (R183). The blink clock counts halves of the 4 Hz blink, 0 to 3. -/
structure PanelController where
  buttons : Buttons
  repeatTimer : Option Nat
  repeatPhase : RepeatPhase
  lineOwed : Bool
  lamps : Vector LampFunction 4
  linger : Option Nat
  blinkPhase : Fin 4
  blinkTimer : Nat
  deriving DecidableEq, Repr

/-! ## The whole part -/

/-- Bytes of host memory that completed writes of the part have placed, addresses strictly rising; an
address not listed holds a byte the part does not know (log 5). -/
abbrev Memory := List Host.Cell

/-- The machine's state. The last five fields are the model's own: host memory as the part's writes left it, the
frames sent, the elapsed milliseconds, how many tags that were never read have been shown (log 48), and the queue
of waiting commands. -/
structure State where
  regs : RegisterWindow
  sc : StreamController
  comp : Composer
  form : FormUnit
  store : PageStore
  builder : BandBuilder
  cache : GlyphCache
  mtu : TransferUnit
  writer : StatusWriter
  engine : EngineController
  counts : DeviceCounts
  panel : PanelController
  hostMem : Memory
  linkOut : List TxFrame
  now : Nat
  unreadTags : Nat
  pending : List Instr
  deriving DecidableEq, Repr

/-- No meaning of this model faults: every condition the manual describes is a state or an event of the
part. The one constructor is raised by nobody; it exists so that a fault could be named. Safe. -/
inductive Fault where
  /-- Raised by no meaning. Safe. -/
  | unused
  deriving DecidableEq, Repr

/-- Why a command has no meaning. -/
inductive Refusal where
  /-- Raised by `exec` for a row whose meaning has not been written; safe. No arm uses it. -/
  | notModelled (mnemonic : String)
  deriving DecidableEq, Repr

/-! ## Power-on values -/

/-- A stream record after power-on (R18). DESIGN CHOICE for the flush interval, the ring base and the ring size,
which no rule gives a power-on value: 0, log 47. -/
def StreamRec.initial : StreamRec where
  state := .closed
  ringBase := 0
  ringSize := 0
  fill := 0
  take := 0
  release := 0
  rush := false
  discard := false
  fault := .none
  wait := .none
  result := .noneYet
  flushSecs := 0
  recordsTaken := 0
  pagesExited := 0
  reprints := 0
  late := 0
  excess := 0
  overrun := 0
  substitutes := 0
  pageNo := 0
  cursorLine := 0
  markTag := 0
  jobTag := 0
  jobOutcome := .noneYet
  jobPages := 0
  reports := []
  clearOwed := false
  discardReports := false
  discardTag := none
  discardStalled := false
  heldExits := 0

/-- The Stream Controller after power-on (R6, R15, R17). DESIGN CHOICE for the two turn fields, log 8. -/
def StreamController.initial : StreamController where
  streams := Vector.replicate 8 StreamRec.initial
  queue := []
  scan := .noScan
  phase := .none
  cut := false
  moved := false
  streamCount := 1
  formCount := 1
  fontCount := 1
  firstPage := 0
  dirOwed := true
  recordOwed := true
  buffer := []
  readFailed := false
  held := none
  lastWasScan := false
  lastStream := 7

/-- The Composer after power-on and device reset (R47). -/
def Composer.initial : Composer where
  state := .noOwner
  cursor := none
  flush := .stopped
  job := none
  waiting := none

/-- No strobe triple. -/
def Strobe.zero : Strobe := ⟨0, 0, 0, 0⟩

/-- No form copy: the cleared item of a FREE slot (R97). -/
def FormCopy.cleared : FormCopy where
  stock := 0
  length := 0
  lines := 0
  pitch := 0
  topMargin := 0
  positions := 0
  charPitch := 0
  leftMargin := 0
  strobe := .zero
  rules := []

/-- A FREE slot with every item cleared (R97). -/
def Slot.free : Slot where
  state := .free
  mark := false
  stream := 0
  jobTag := 0
  firstOfJob := false
  pageNo := 0
  copy := .cleared
  ruleRef := none
  strikes := []
  seqCount := 0
  split := 0
  entry := none
  fillMade := false
  firstClose := false
  releaseOff := 0
  markTag := none
  jobEnds := []
  pageSeq := none

/-- The Page Store after power-on and device reset (R97). -/
def PageStore.initial : PageStore where
  slots := Vector.replicate 4 Slot.free
  imaging := []
  poolUsed := 0
  lastOpened := 3

/-- The Band Builder after power-on and device reset (R121). DESIGN CHOICE for next row, which R121 gives no value
there: 0, log 52. -/
def BandBuilder.initial : BandBuilder where
  state := .still
  slot := none
  nextRow := 0
  work := none
  slew := none
  offer := []
  rebuilt := []

/-- An empty cache entry (R143). -/
def CacheEntry.empty : CacheEntry := ⟨none, Vector.replicate 4 none⟩

/-- An emptied set, order 0, 1, 2, 3 (R143). -/
def CacheSet.empty : CacheSet := ⟨Vector.replicate 4 CacheEntry.empty, [0, 1, 2, 3]⟩

/-- The Glyph Cache after power-on and device reset (R140, R143, R149, R151). -/
def GlyphCache.initial : GlyphCache where
  sets := Vector.replicate 32 CacheSet.empty
  inForce := none
  aside := none
  fill := none
  flush := .none
  hits := 0
  misses := 0
  faults := 0

/-- The MTU after power-on (R153). -/
def TransferUnit.initial : TransferUnit where
  reader := .empty
  loader := .empty
  filler := .empty
  writer := .empty
  inFlight := none
  limit := none
  pointer := .streamReader

/-- The Status Writer after power-on and device reset (R160). -/
def StatusWriter.initial : StatusWriter where
  waiting := []
  issued := none
  secondHalf := false
  failureWaits := false
  failureIssued := false

/-- The cleared condition record (R164). -/
def Condition.cleared : Condition where
  ready := false
  inMotion := false
  bandRoom := 0
  jam := false
  formsOut := false
  coverOpen := false
  notReadySeen := false
  formsLow := false
  underruns := 0
  lastExit := 0
  lastAccepted := 0

/-- The Engine Controller after power-on (R15, R164). DESIGN CHOICE for the poll timer, log 7: nothing
remains of it, so that the first frame sent is a POLL. -/
def EngineController.initial : EngineController where
  state := .offline
  holdOwed := .none
  mountedStock := 0
  mountedLength := 0
  mountedPitch := none
  alignment := .unknown
  bandRoom := 0
  handed := 0
  pageSeq := 0
  bandSeq := 0
  frameSeq := 0
  expected := none
  sent := []
  halting := false
  cond := .cleared
  lastExit := none
  pollTimer := some 0
  answerTimer := none
  missed := 0
  pollAt := 0

/-- No counts shown yet. -/
def BoundaryCounts.zero : BoundaryCounts := ⟨0, 0, 0, 0, 0, 0, 0, 0⟩

/-- The device record counts after power-on and device reset (R15). -/
def DeviceCounts.zero : DeviceCounts := ⟨0, 0, 0, 0, 0, 0, 0, .zero⟩

/-- A button UP, not armed. -/
def ButtonRec.up : ButtonRec := ⟨false, false⟩

/-- The Panel Controller after power-on (R183). DESIGN CHOICE for the buttons and the blink clock, log 8. -/
def PanelController.initial : PanelController where
  buttons := ⟨.up, .up, .up, .up, .up⟩
  repeatTimer := none
  repeatPhase := .none
  lineOwed := false
  lamps := #v[.ready, .attention, .activity, .formsLow]
  linger := none
  blinkPhase := 0
  blinkTimer := Config.blinkMs

/-- The Register Window after power-on (R1, R17). -/
def RegisterWindow.initial : RegisterWindow where
  run := false
  resetBusy := false
  sweepInterval := 0
  events := 0
  eventMask := 0
  areaBase := 0
  rstimg := false
  sweepTimer := none

/-- The machine right after power-on (R17), with nothing waiting. -/
def State.reset : State where
  regs := .initial
  sc := .initial
  comp := .initial
  form := .empty
  store := .initial
  builder := .initial
  cache := .initial
  mtu := .initial
  writer := .initial
  engine := .initial
  counts := .zero
  panel := .initial
  hostMem := []
  linkOut := []
  now := 0
  unreadTags := 0
  pending := []

end Sys2Proof.Machine
end

