-- ==== Sys2Proof/Machine/Operands.lean ====
section
/-! DEFINITION. The operand forms: bytes of host memory (R191), register words (R1), ring records (chapter
11.2), the area header and descriptor reads, form records, font directories, link frames (R192), carriage
bytes (R50). -/

namespace Sys2Proof

/-- One lane of a host write: its byte when it is written, 0 otherwise (R1). -/
def HostWrite.lane (w : HostWrite) (i : Nat) : Nat :=
  if w.lanes.getLsbD i then (w.value.toNat / 256 ^ i) % 256 else 0

/-- The 32-bit word a host write stands for: bytes not written are 0 (R1). -/
def HostWrite.word (w : HostWrite) : Word32 :=
  BitVec.ofNat 32 (w.lane 0 + 256 * w.lane 1 + 65536 * w.lane 2 + 16777216 * w.lane 3)

namespace Machine

/-! ## Little-endian fields (R191) -/

/-- The byte at offset `i`; 0 past the end. -/
def byteAt (b : List Byte) (i : Nat) : Nat := (b.getD i 0).toNat

/-- The 16-bit field at offset `i`. -/
def le16 (b : List Byte) (i : Nat) : Nat := byteAt b i + 256 * byteAt b (i + 1)

/-- The 24-bit field at offset `i`. -/
def le24 (b : List Byte) (i : Nat) : Nat := le16 b i + 65536 * byteAt b (i + 2)

/-- The 32-bit field at offset `i`. -/
def le32 (b : List Byte) (i : Nat) : Nat := le16 b i + 65536 * le16 b (i + 2)

/-- The `k` low bytes of `v`, least significant first. -/
def leBytes : Nat → Nat → List Byte
  | 0, _ => []
  | k + 1, v => BitVec.ofNat 8 v :: leBytes k (v / 256)

/-- Lengths a read may have: a multiple of 4 from 4 to 64 (R154). -/
def transferLength (n : Nat) : Bool := decide (n % 4 = 0 ∧ 4 ≤ n ∧ n ≤ Config.maxTransfer)

/-- A host address `k` bytes on; addresses are 32 bits and wrap. DESIGN CHOICE, log 6. -/
def addrAt (base : Word32) (k : Nat) : Word32 := base + BitVec.ofNat 32 k

/-- `a` forward to `b` around a ring of `size` bytes (00_scope.md). -/
def forward (size a b : Nat) : Nat := (b + size - a) % size

/-- Round up to a multiple of 4. -/
def roundUp4 (n : Nat) : Nat := (n + 3) / 4 * 4

/-- The smallest `k` with `k * d ≥ n`. -/
def ceilDiv (n d : Nat) : Nat := (n + d - 1) / d

/-! ## Codes of chapter 11 -/

/-- Request codes; any other value is unknown (R21). -/
def requestCode : Nat → RequestCode
  | 0 => .none
  | 1 => .openRing
  | 2 => .close
  | 3 => .cancel
  | 4 => .rush
  | 5 => .reset
  | _ => .unknown

/-- Lamp functions; a code outside the six is OFF (R6). -/
def lampFunction : Nat → LampFunction
  | 1 => .ready
  | 2 => .attention
  | 3 => .activity
  | 4 => .formsLow
  | 5 => .offline
  | _ => .off

/-- Stream state codes. -/
def StreamState.code : StreamState → Nat
  | .closed => 0
  | .idle => 1
  | .queued => 2
  | .active => 3
  | .faulted => 4

/-- Wait reason codes. -/
def WaitReason.code : WaitReason → Nat
  | .none => 0
  | .forms => 1
  | .operatorStop => 2
  | .jam => 3
  | .notReady => 4
  | .offline => 5
  | .hostPause => 6
  | .slotWait => 7

/-- Request result codes. -/
def RequestResult.code : RequestResult → Nat
  | .noneYet => 0
  | .accepted => 1
  | .refusedState => 2
  | .badRequest => 3
  | .badRing => 4
  | .nothingToCancel => 5

/-- Fault codes. -/
def FaultCode.code : FaultCode → Nat
  | .none => 0
  | .badFill => 1
  | .badRecord => 2
  | .badCarriage => 3
  | .noJob => 4
  | .badForm => 5
  | .missingStop => 6
  | .memRead => 7
  | .formRead => 8

/-- Last job outcome codes. -/
def JobOutcome.code : JobOutcome → Nat
  | .noneYet => 0
  | .done => 1
  | .cancelled => 2
  | .faulted => 3

/-- Page slot state codes (R119: shown without the composing mark). -/
def SlotState.code : SlotState → Nat
  | .free => 0
  | .composing => 1
  | .closed => 2
  | .imaging => 3
  | .sent => 4

/-- Engine state codes. -/
def EngineState.code : EngineState → Nat
  | .offline => 0
  | .idle => 1
  | .feeding => 2
  | .held _ => 3
  | .formsWait => 4
  | .jammed => 5

/-! ## The control area (chapter 11.1) -/

/-- Offset of descriptor `n` in the control area. -/
def descriptorOffset (n : Fin 8) : Nat := 64 + 64 * n.val
/-- Offset of the font directory. -/
def directoryOffset : Nat := 576
/-- Offset of form record `k`. -/
def formOffset (k : Nat) : Nat := 640 + 128 * k
/-- Offset of the device record. -/
def deviceRecordOffset : Nat := 2688

/-- A count of the area header clamped to 1..`top` (R6). -/
def clampCount (top v : Nat) : Nat := min (max v 1) top

/-- What a descriptor read at a scan brings: fill pointer, request code, flush interval clamped to 60 (R7). -/
def takenOf (b : List Byte) : Taken where
  fill := le32 b 0
  code := requestCode (le16 b 4)
  flush := min (le16 b 6) Config.maxFlush

/-- A directory of 64 bytes with the header's font count; each field clamped as R140 gives. -/
def directoryOf (count : Nat) (b : List Byte) : Directory where
  count := count
  fonts := [0, 1, 2, 3].map fun t =>
    { base := BitVec.ofNat 32 (le32 b (16 * t))
      count := clampCount 192 (le16 b (16 * t + 4))
      width := min (max (byteAt b (16 * t + 6)) 8) 48
      height := min (max (byteAt b (16 * t + 7)) 8) 64 }

/-- The directory taken before any is in force: one typeface of no glyphs and cell 8 × 8 (R140). -/
def Directory.beforeFirst : Directory := ⟨1, [⟨0, 0, 8, 8⟩]⟩

/-- Typeface record `t` of a directory. -/
def Directory.font (d : Directory) (t : Nat) : FontRec := d.fonts.getD t ⟨0, 0, 8, 8⟩

/-- The typeface that draws a reference or a strike of typeface `t` (R83, R144). -/
def Directory.drawing (d : Directory) (t : Nat) : Nat := if t < d.count then t else 0

/-! ## Ring records (chapter 11.2) -/

/-- Record kinds (R31). -/
inductive RecordKind where
  | line
  | job
  | endJob
  | mark
  | wrap
  | unknown
  deriving DecidableEq, Repr

/-- The kind a record's first byte names. -/
def recordKind : Nat → RecordKind
  | 1 => .line
  | 2 => .job
  | 3 => .endJob
  | 4 => .mark
  | 5 => .wrap
  | _ => .unknown

/-- The header of a ring record. -/
structure RecordHeader where
  kind : RecordKind
  keyed : Bool
  template : Bool
  length : Nat
  before : Nat
  after : Nat
  typeface : Nat
  textCount : Nat
  deriving DecidableEq, Repr

/-- Read a header from the first 8 bytes of a record. -/
def recordHeader (b : List Byte) : RecordHeader where
  kind := recordKind (byteAt b 0)
  keyed := (byteAt b 1).testBit 0
  template := (byteAt b 1).testBit 1
  length := le16 b 2
  before := byteAt b 4
  after := byteAt b 5
  typeface := byteAt b 6
  textCount := byteAt b 7

/-- The length R31 asks of a kind. -/
def RecordHeader.ruleLength (h : RecordHeader) : Nat :=
  match h.kind with
  | .line => 8 + roundUp4 h.textCount
  | .job => 16
  | .endJob => 12
  | .mark => 12
  | .wrap => 8
  | .unknown => 0

/-- The first three checks of R31: kind, length, text count. -/
def RecordHeader.sound (h : RecordHeader) : Bool :=
  decide (h.kind ≠ .unknown ∧ h.length = h.ruleLength ∧ (h.kind = .line → h.textCount ≤ 160))

/-- The records of a run of bytes reach a WRAP whose header is in hand, `fuel` bounding their number (R32). -/
def wrapAhead : Nat → List Byte → Bool
  | 0, _ => false
  | fuel + 1, b =>
    let h := recordHeader b
    if b.length < 8 ∨ h.sound = false then false
    else decide (h.kind = .wrap) || (decide (h.length ≤ b.length) && wrapAhead fuel (b.drop h.length))

/-- The tag of an END or MARK record. -/
def shortTag (b : List Byte) : Word32 := BitVec.ofNat 32 (le32 b 8)

/-- The tag of a JOB record. -/
def jobTagOf (b : List Byte) : Word32 := BitVec.ofNat 32 (le32 b 12)

/-- The JOB a record names: form, first page number, tag (R37). -/
def jobOf (b : List Byte) : JobInfo where
  tag := jobTagOf b
  form := byteAt b 8
  firstPage := le24 b 9
  started := false

/-- The host codes of a LINE record. -/
def lineCodes (h : RecordHeader) (b : List Byte) : List Byte := (b.drop 8).take h.textCount

/-! ## Carriage control (R50 to R56) -/

/-- A movement of the carriage (R50). -/
inductive Carriage where
  | space (n : Nat)
  | top
  | stop (s : Nat)
  deriving DecidableEq, Repr

/-- A carriage byte; any other value is BAD_CARRIAGE (R31, R50). -/
def carriageOf (v : Nat) : Option Carriage :=
  if v ≤ 3 then some (.space v)
  else if v = 0x40 then some .top
  else if 0x41 ≤ v ∧ v ≤ 0x48 then some (.stop (v - 0x40))
  else none

/-- Line `n` of the form carries stop `s` (R82). -/
def Form.carries (f : Form) (s n : Nat) : Bool := (f.vft.getD (n - 1) 0).getLsbD (s - 1)

/-- Lines `lo` to the form's last, in order. -/
def Form.linesFrom (f : Form) (lo : Nat) : List Nat := List.range' lo (f.lines + 1 - lo)

/-- The first line of the form that carries stop `s`, from line `lo` on. -/
def Form.firstStop (f : Form) (s lo : Nat) : Option Nat := (f.linesFrom lo).find? (f.carries s)

/-- Some line of the table carries the stop a byte names (R55); spacing and the top need none. -/
def Form.hasStop (f : Form) : Carriage → Bool
  | .stop s => (f.firstStop s 1).isSome
  | _ => true

/-- A movement from line `c`: how many pages it turns and the line it ends on (R51 to R56). -/
def Form.move (f : Form) (c : Nat) : Carriage → Nat × Nat
  | .space n =>
    if c + n ≤ f.lines then (0, c + n)
    else ((c + n - 1) / f.lines, c + n - (c + n - 1) / f.lines * f.lines)
  | .top => (1, 1)
  | .stop s =>
    match f.firstStop s (c + 1) with
    | some l => (0, l)
    | none => (1, (f.firstStop s 1).getD 1)

/-! ## Forms (R78 to R81, R85) -/

/-- A span of `len` positions from `pos` within 1..`n` (R80). -/
def spanFits (n pos len : Nat) : Bool := decide (1 ≤ pos ∧ pos + len - 1 ≤ n)

/-- Column rule `r` of a form record. -/
def columnRuleAt (b : List Byte) (r : Nat) : ColumnRule :=
  ⟨byteAt b (32 + 4 * r), byteAt b (33 + 4 * r), byteAt b (34 + 4 * r)⟩

/-- A column rule is usable on a form of `n` positions and `f` lines (R80). -/
def ColumnRule.fits (n f : Nat) (r : ColumnRule) : Bool :=
  decide (r.position = 0 ∨ (r.position ≤ n ∧ 1 ≤ r.first ∧ r.first ≤ r.last ∧ r.last ≤ f))

/-- The field ranges of R78. -/
def formRanges (b : List Byte) : Bool :=
  decide (1 ≤ byteAt b 0 ∧
    600 ≤ le16 b 2 ∧ le16 b 2 ≤ 7200 ∧
    1 ≤ byteAt b 1 ∧ byteAt b 1 ≤ 192 ∧
    3 ≤ byteAt b 8 ∧ byteAt b 8 ≤ 12 ∧
    le16 b 4 ≤ 600 ∧
    1 ≤ byteAt b 9 ∧ byteAt b 9 ≤ 160 ∧
    12 ≤ byteAt b 10 ∧ byteAt b 10 ≤ 40 ∧
    le16 b 6 ≤ 1023 ∧
    16 ≤ byteAt b 11 ∧ byteAt b 11 ≤ 63 ∧
    1 ≤ byteAt b 12 ∧ byteAt b 12 ≤ 63 ∧
    1 ≤ byteAt b 13 ∧ byteAt b 13 ≤ 63 ∧
    1 ≤ byteAt b 14 ∧ byteAt b 14 ≤ 63 ∧
    byteAt b 25 ≤ 32 ∧
    1 ≤ byteAt b 15 ∧ byteAt b 15 ≤ byteAt b 1 ∧
    byteAt b 30 ≤ 191)

/-- The top row of line `n` (R85). -/
def topRow (margin pitch n : Nat) : Nat := margin + 300 * (n - 1) / pitch

/-- Vertical and horizontal fit (R79). -/
def formFits (b : List Byte) : Bool :=
  decide (topRow (le16 b 4) (byteAt b 8) (byteAt b 1) < le16 b 2 ∧
    le16 b 6 + byteAt b 9 * byteAt b 10 ≤ Config.engineWidth)

/-- The positions and references of R80, with typeface 0's glyph count. -/
def formPlaces (glyphs : Nat) (b : List Byte) : Bool :=
  let n := byteAt b 9
  let len := byteAt b 25
  let width := min (byteAt b 29) 6
  (len == 0 || (spanFits n (byteAt b 24) len && spanFits n (byteAt b 26) len && spanFits n (byteAt b 27) len)) &&
    (width == 0 || spanFits n (byteAt b 28) width) &&
    [0, 1, 2, 3].all (fun r => (columnRuleAt b r).fits n (byteAt b 1)) &&
    decide (le32 b 16 % 4 = 0 ∧ le32 b 20 % 4 = 0 ∧ byteAt b 30 < glyphs)

/-- A form record passes every check of R78 to R80. -/
def formAccepted (glyphs : Nat) (b : List Byte) : Bool :=
  formRanges b && formFits b && formPlaces glyphs b

/-- The 16-bit entries of a translate table. -/
def translateEntries (b : List Byte) : List (BitVec 16) :=
  (List.range 256).map fun c => BitVec.ofNat 16 (le16 b (2 * c))

/-- The form a load gives: the record with the clamps of R81, and its two tables. -/
def formOf (number : Nat) (b vft xlate : List Byte) : Form where
  number := number
  stock := byteAt b 0
  length := le16 b 2
  lines := byteAt b 1
  pitch := byteAt b 8
  topMargin := le16 b 4
  positions := byteAt b 9
  charPitch := byteAt b 10
  leftMargin := le16 b 6
  strobePeriod := byteAt b 11
  e1 := min (byteAt b 12) (byteAt b 11 - 4)
  e2 := min (max (byteAt b 13) (min (byteAt b 12) (byteAt b 11 - 4))) (byteAt b 11 - 4)
  e3 := min (max (byteAt b 14) (min (max (byteAt b 13) (min (byteAt b 12) (byteAt b 11 - 4))) (byteAt b 11 - 4)))
    (byteAt b 11 - 4)
  headerLine := byteAt b 15
  capturePos := byteAt b 24
  captureLen := byteAt b 25
  firstPos := byteAt b 26
  lastPos := byteAt b 27
  numberPos := byteAt b 28
  numberWidth := min (byteAt b 29) 6
  substitute := byteAt b 30
  ruleCode := b.getD 31 0
  rules := [0, 1, 2, 3].map (columnRuleAt b)
  vft := vft.take (byteAt b 1)
  translate := translateEntries xlate

/-- The top row of line `n` of a form. -/
def Form.top (f : Form) (n : Nat) : Nat := topRow f.topMargin f.pitch n

/-- The slot's copy of a form (R93). -/
def Form.copy (f : Form) : FormCopy where
  stock := f.stock
  length := f.length
  lines := f.lines
  pitch := f.pitch
  topMargin := f.topMargin
  positions := f.positions
  charPitch := f.charPitch
  leftMargin := f.leftMargin
  strobe := ⟨f.e1, f.e2, f.e3, f.strobePeriod⟩
  rules := f.rules

/-- The top row of line `n` of a slot's copy. -/
def FormCopy.top (c : FormCopy) (n : Nat) : Nat := topRow c.topMargin c.pitch n

/-- The left column of print position `p` (R85). -/
def FormCopy.left (c : FormCopy) (p : Nat) : Nat := c.leftMargin + (p - 1) * c.charPitch

/-! ## The engine link frame (R192) -/

/-- The `n` low bits of `v`, least significant first. -/
def bitsOf (n v : Nat) : List Bool := (List.range n).map v.testBit

/-- One bit into the CRC register (R192). -/
def crcStep (r : BitVec 16) (b : Bool) : BitVec 16 :=
  if r.msb != b then (r <<< 1) ^^^ 0x1021 else r <<< 1

/-- The CRC over a run of bits (R192). -/
def crcOf (bits : List Bool) : BitVec 16 := bits.foldl crcStep 0xFFFF

/-- The bits from the kind through the payload, in the order sent (R192). -/
def frameBits (kind seq length : Nat) (payload : List Word32) : List Bool :=
  bitsOf 4 kind ++ bitsOf 8 seq ++ bitsOf 15 length ++ payload.flatMap fun w => bitsOf 32 w.toNat

/-- The length each kind of engine frame must carry; none for a kind the part does not take (R165). -/
def engineFrameLength : Nat → Option Nat
  | 8 => some 2
  | 9 => some 1
  | 10 => some 1
  | _ => none

/-- Fields of a STATUS (chapter 11.5); a band room of 3 is taken as 2 (R193). -/
def conditionOf (w0 w1 : Word32) : Condition where
  ready := w0.getLsbD 0
  inMotion := w0.getLsbD 1
  bandRoom := min (w0.toNat / 4 % 4) 2
  jam := w0.getLsbD 4
  formsOut := w0.getLsbD 5
  coverOpen := w0.getLsbD 6
  notReadySeen := w0.getLsbD 7
  formsLow := w0.getLsbD 8
  underruns := w0.toNat / 65536 % 256
  lastExit := BitVec.ofNat 8 (w0.toNat / 16777216)
  lastAccepted := BitVec.ofNat 16 w1.toNat

/-- Word `i` of a frame's payload. -/
def payloadWord (p : List Word32) (i : Nat) : Word32 := p.getD i 0

/-- Band sequence `a` is at or before `b` (R193). -/
def seqAtOrBefore (a b : BitVec 16) : Bool := decide ((b - a).toNat < 32768)

/-- The page marks' bits of word 1 (R192). -/
def PageMarks.bits (m : PageMarks) : Nat :=
  (if m.first then 2 ^ 24 else 0) + (if m.last then 2 ^ 25 else 0) + (if m.hold then 2 ^ 26 else 0)

/-- The triple's bits of word 1, 0 where the message carries none (R132, R192). -/
def strobeBits : Option Strobe → Nat
  | some t => t.e1 + t.e2 * 2 ^ 6 + t.e3 * 2 ^ 12 + t.period * 2 ^ 18
  | none => 0

/-- The density of dot `col` of page row `row` (R125). -/
def densityAt (dots : DotMap) (row col : Nat) : Nat :=
  match dots.find? (fun d => d.1 = row * Config.engineWidth + col) with
  | some d => d.2
  | none => 0

/-- Word `k` of a row of a BAND (R192). -/
def rowWord (dots : DotMap) (row k : Nat) : Word32 :=
  BitVec.ofNat 32 ((List.range 16).foldr (fun i v => densityAt dots row (16 * k + i) + 4 * v) 0)

/-- Words 0 and 1 of a BAND or SLEW (R192); the row count of a SLEW is in word 2. -/
def messageWords (seq : BitVec 16) (page : BitVec 8) (rows : Nat) (m : Message) : List Word32 :=
  [BitVec.ofNat 32 (seq.toNat + page.toNat * 2 ^ 16 + rows * 2 ^ 24),
    BitVec.ofNat 32 (strobeBits m.strobe + m.marks.bits)]

/-- The dots a message carries. -/
def MessageBody.dots : MessageBody → DotMap
  | .band d => d
  | .slew => []

/-- The kind code of a frame the part sends (R192). -/
def TxBody.kind : TxBody → Nat
  | .mount _ => 1
  | .band _ _ _ => 2
  | .slew _ _ _ => 3
  | .top => 4
  | .halt => 5
  | .poll => 6

/-- The payload of a frame the part sends (R192). -/
def TxBody.payload : TxBody → List Word32
  | .mount d => [BitVec.ofNat 32 d]
  | .band seq page m =>
    messageWords seq page m.count m ++
      (List.range m.count).flatMap fun r => (List.range 256).map (rowWord m.body.dots (m.row + r))
  | .slew seq page m => messageWords seq page 0 m ++ [BitVec.ofNat 32 m.count]
  | .top => []
  | .halt => []
  | .poll => []

/-- The bits of a frame as they go on the line: preamble, start pair, fields, payload and CRC (R192). -/
def TxFrame.line (f : TxFrame) : List Bool :=
  let body := frameBits f.body.kind f.seq.toNat f.body.payload.length f.body.payload
  List.replicate 16 true ++ [false, true] ++ body ++ (bitsOf 16 (crcOf body).toNat).reverse

/-! ## What the part shows in host memory (chapter 11.1) -/

/-- The 48 part-owned bytes of a descriptor (R19). -/
def StreamRec.shown (r : StreamRec) : List Byte :=
  leBytes 1 r.state.code ++ leBytes 1 r.wait.code ++ leBytes 1 r.result.code ++ leBytes 1 r.fault.code ++
    leBytes 4 r.take ++ leBytes 4 r.release ++ leBytes 4 r.recordsTaken.toNat ++ leBytes 4 r.pagesExited.toNat ++
    leBytes 4 r.pageNo ++ leBytes 4 r.markTag.toNat ++ leBytes 4 r.jobTag.toNat ++ leBytes 1 r.jobOutcome.code ++
    leBytes 1 r.cursorLine ++ leBytes 2 r.reprints.toNat ++ leBytes 2 r.late.toNat ++ leBytes 2 r.excess.toNat ++
    leBytes 2 r.overrun.toNat ++ leBytes 2 r.substitutes.toNat ++ leBytes 4 r.jobPages.toNat

end Machine

/-- A frame passes the checks of R165: its kind is one of the engine's, its length matches, and its CRC is
the one of R192 over its fields. -/
def RxFrame.passes (f : RxFrame) : Bool :=
  decide (Machine.engineFrameLength f.kind.toNat = some f.length.toNat ∧ f.payload.length = f.length.toNat ∧
    Machine.crcOf (Machine.frameBits f.kind.toNat f.seq.toNat f.length.toNat f.payload) = f.crc)

/-- The frame the engine sends with these fields, its CRC formed as R192 says. -/
def RxFrame.make (kind seq : Nat) (payload : List Word32) : RxFrame where
  kind := BitVec.ofNat 4 kind
  seq := BitVec.ofNat 8 seq
  length := BitVec.ofNat 15 payload.length
  payload := payload
  crc := Machine.crcOf (Machine.frameBits (kind % 16) (seq % 256) (payload.length % 32768) payload)

end Sys2Proof
end

