-- ==== Sys2Proof/Machine/Ops.lean ====
section
/-! DEFINITION. The named operations every block uses: access to streams, slots and places, host memory as
the part's writes leave it, time, events, frames sent, owed writes. -/

namespace Sys2Proof.Machine

/-- The streams 0 to 7. -/
def allStreams : List (Fin 8) := [0, 1, 2, 3, 4, 5, 6, 7]

/-- The page slots 0 to 3. -/
def allSlots : List (Fin 4) := [0, 1, 2, 3]

/-! ## Host memory (R157, R191) -/

/-- What is known of the byte at `a`. -/
def Memory.read : Memory → Nat → Option Byte
  | [], _ => none
  | c :: m, a => if c.1 = a then some c.2 else if a < c.1 then none else Memory.read m a

/-- Place a byte, keeping the addresses strictly rising. -/
def Memory.write : Memory → Nat → Byte → Memory
  | [], a, v => [(a, v)]
  | c :: m, a, v =>
    if a < c.1 then (a, v) :: c :: m
    else if a = c.1 then (a, v) :: m
    else c :: Memory.write m a v

/-- Forget the byte at `a`: the part no longer knows what stands there (R157). -/
def Memory.forget : Memory → Nat → Memory
  | [], _ => []
  | c :: m, a => if c.1 = a then m else if a < c.1 then c :: m else c :: Memory.forget m a

/-- The canonical form: addresses strictly rising. -/
def Memory.wf : Memory → Bool
  | [] => true
  | [_] => true
  | c :: d :: m => decide (c.1 < d.1) && Memory.wf (d :: m)

/-- Place a run of bytes from address `a`; addresses wrap at 32 bits (log 6). -/
def Memory.writeRun (m : Memory) (a : Word32) : List Byte → Memory
  | [] => m
  | b :: bs => Memory.writeRun (Memory.write m a.toNat b) (a + 1) bs

/-- Forget a run of `k` bytes from address `a`. -/
def Memory.forgetRun (m : Memory) (a : Word32) : Nat → Memory
  | 0 => m
  | k + 1 => Memory.forgetRun (Memory.forget m a.toNat) (a + 1) k

/-! ## Streams -/

/-- Stream record `n`. -/
def State.stream (s : State) (n : Fin 8) : StreamRec := s.sc.streams[n]

/-- Change stream record `n`. -/
def State.modStream (s : State) (n : Fin 8) (f : StreamRec → StreamRec) : State :=
  { s with sc := { s.sc with streams := s.sc.streams.set n (f s.sc.streams[n]) } }

/-- The ACTIVE stream, if there is one (R35). -/
def State.owner (s : State) : Option (Fin 8) :=
  allStreams.find? fun n => decide ((s.stream n).state = .active)

/-- Bytes from take forward to fill (R30). -/
def StreamRec.span (r : StreamRec) : Nat := forward r.ringSize r.take r.fill

/-- The ring offset just after a record of `len` bytes at take; one that reaches the ring size is 0 (R30). -/
def StreamRec.after (r : StreamRec) (len : Nat) : Nat :=
  if r.take + len = r.ringSize then 0 else r.take + len

/-! ## Page slots -/

/-- Page slot `i`. -/
def State.slot (s : State) (i : Fin 4) : Slot := s.store.slots[i]

/-- The slots of stream `n` that are not FREE. -/
def State.slotsOf (s : State) (n : Fin 8) : List (Fin 4) :=
  allSlots.filter fun i => decide ((s.slot i).stream = n ∧ (s.slot i).state ≠ .free)

/-- Change page slot `i`. -/
def State.modSlot (s : State) (i : Fin 4) (f : Slot → Slot) : State :=
  { s with store := { s.store with slots := s.store.slots.set i (f s.store.slots[i]) } }

/-- The composing page's slot: the one that carries the composing mark (R98). -/
def State.composing (s : State) : Option (Fin 4) := allSlots.find? fun i => (s.slot i).mark

/-- The head of imaging: the first slot of the imaging list that has an entry (R101). -/
def State.head (s : State) : Option (Fin 4) :=
  s.store.imaging.find? fun i => (s.slot i).entry.isSome

/-- A slot with rows on the engine: IMAGING or SENT. -/
def Slot.onEngine (sl : Slot) : Bool := decide (sl.state = .imaging ∨ sl.state = .sent)

/-- A slot whose paper has been begun: IMAGING, SENT, or COMPOSING with a split row above 0 (R16, R185). -/
def Slot.begun (sl : Slot) : Bool :=
  decide (sl.state = .imaging ∨ sl.state = .sent ∨ (sl.state = .composing ∧ 0 < sl.split))

/-- Some slot is IMAGING or SENT (R172). -/
def State.anyOnEngine (s : State) : Bool := allSlots.any fun i => (s.slot i).onEngine

/-- Some slot has begun paper (R16, R185). -/
def State.anyBegun (s : State) : Bool := allSlots.any fun i => (s.slot i).begun

/-! ## Registers, area and events -/

/-- The part has an area (R5). -/
def State.hasArea (s : State) : Bool :=
  decide (s.regs.areaBase ≠ 0 ∧ s.regs.areaBase.toNat % 4096 = 0)

/-- EVENTS bits (chapter 11.4). -/
def eventBit (k : Nat) : BitVec 11 := BitVec.ofNat 11 (2 ^ k)
/-- STREAMn. -/
def streamBit (n : Fin 8) : BitVec 11 := eventBit n.val
/-- OPERATOR. -/
def operatorBit : BitVec 11 := eventBit 8
/-- OFFLINE. -/
def offlineBit : BitVec 11 := eventBit 9
/-- MEMFAULT. -/
def memfaultBit : BitVec 11 := eventBit 10

/-- Raise an event (R11); during a device reset no block raises one. -/
def State.raise (s : State) (bit : BitVec 11) : State :=
  if s.regs.resetBusy then s else { s with regs := { s.regs with events := s.regs.events ||| bit } }

/-! ## Time (log 2, log 3) -/

/-- What is left of a timer after `d` ms. -/
def lapse (d : Nat) : Option Nat → Option Nat
  | some r => some (r - d)
  | none => none

/-- The flush timer after `d` ms: only a running one loses time (R71). -/
def FlushTimer.lapse (d : Nat) : FlushTimer → FlushTimer
  | .running r => .running (r - d)
  | t => t

/-- `d` milliseconds pass: every running timer loses them, down to nothing remaining. -/
def State.elapse (s : State) (d : Nat) : State :=
  { s with
    now := s.now + d
    regs := { s.regs with sweepTimer := lapse d s.regs.sweepTimer }
    comp := { s.comp with flush := s.comp.flush.lapse d }
    mtu := { s.mtu with limit := lapse d s.mtu.limit }
    engine := { s.engine with pollTimer := lapse d s.engine.pollTimer, answerTimer := lapse d s.engine.answerTimer }
    panel := { s.panel with
      repeatTimer := lapse d s.panel.repeatTimer
      linger := lapse d s.panel.linger
      blinkTimer := s.panel.blinkTimer - d } }

/-! ## Frames to the engine (R165) -/

/-- Send a frame: it carries the part frame counter, which then rises by one. -/
def State.send (s : State) (body : TxBody) : State :=
  { s with
    linkOut := s.linkOut ++ [⟨s.engine.frameSeq, body⟩]
    engine := { s.engine with frameSeq := s.engine.frameSeq + 1 } }

/-- Send HALT: the band room count becomes 0 and nothing counts as handed over since (R169). -/
def State.sendHalt (s : State) : State :=
  let s := s.send .halt
  { s with engine := { s.engine with bandRoom := 0, handed := 0 } }

/-- Send TOP: alignment becomes SET (R170). -/
def State.sendTop (s : State) : State :=
  let s := s.send .top
  { s with engine := { s.engine with alignment := .set } }

/-- Send MOUNT with the mounted key's D: alignment becomes UNKNOWN (R170). -/
def State.sendMount (s : State) : State :=
  let s := s.send (.mount s.engine.mountedLength)
  { s with engine := { s.engine with alignment := .unknown } }

/-! ## Owed writes (R160) -/

/-- Ask for an owed write: a waiting write of the same kind and stream carries it, with what it owes. -/
def askOwed (o : Owed) : List Owed → List Owed
  | [] => [o]
  | w :: ws =>
    if w.kind = o.kind then
      ⟨w.kind, w.event || o.event, w.report || o.report, w.result || o.result⟩ :: ws
    else w :: askOwed o ws

/-- Ask the Status Writer for a write. -/
def State.ask (s : State) (o : Owed) : State :=
  { s with writer := { s.writer with waiting := askOwed o s.writer.waiting } }

/-- Ask for a descriptor write of stream `n`; `event` when its end owes STREAMn (R12). -/
def State.askDescriptor (s : State) (n : Fin 8) (event : Bool) : State :=
  s.ask ⟨.descriptor n, event, false, false⟩

/-- Ask for a device record write (R100, R151, R158, R181). -/
def State.askRecord (s : State) : State := s.ask ⟨.deviceRecord, false, false, false⟩

/-- A change of state; one to IDLE, FAULTED or CLOSED owes STREAMn (R12). -/
def State.enterState (s : State) (n : Fin 8) (st : StreamState) : State :=
  let old := (s.stream n).state
  let s' := s.modStream n fun r => { r with state := st }
  if old ≠ st ∧ (st = .idle ∨ st = .faulted ∨ st = .closed) then s'.askDescriptor n true else s'

/-! ## The Job Queue (R34) -/

/-- Whether some entry has its rush flag set. -/
def State.anyRushed (s : State) (q : List (Fin 8)) : Bool := q.any fun m => (s.stream m).rush

/-- Put `n` directly behind the last rushed entry, or at the head if there is none. -/
def State.insertRushed (s : State) (n : Fin 8) : List (Fin 8) → List (Fin 8)
  | [] => [n]
  | m :: q => if s.anyRushed (m :: q) then m :: s.insertRushed n q else n :: m :: q

/-- A stream enters the Job Queue: at the tail, or with its rush flag set behind the rushed entries. -/
def State.enqueue (s : State) (n : Fin 8) : State :=
  { s with sc := { s.sc with queue :=
      if (s.stream n).rush then s.insertRushed n s.sc.queue else s.sc.queue ++ [n] } }

/-- A stream leaves the Job Queue; the entries behind it close up. -/
def State.dequeue (s : State) (n : Fin 8) : State :=
  { s with sc := { s.sc with queue := s.sc.queue.filter (· ≠ n) } }

/-! ## Withdrawing reads (R153, R158, R163) -/

/-- Withdraw a PENDING request that `p` names. -/
def Place.withdraw (p : TransferKind → Bool) : Place → Place
  | .pending r => if p r.kind then .empty else .pending r
  | q => q

/-- The transfer in flight, no longer wanted when `p` names it. -/
def Transfer.unwant (p : TransferKind → Bool) (t : Transfer) : Transfer :=
  if p t.request.kind then { t with wanted := false } else t

/-- The reads that `p` names are no longer wanted: PENDING ones are withdrawn, a GRANTED one runs to its
end and its outcome is discarded. -/
def State.dropReads (s : State) (p : TransferKind → Bool) : State :=
  { s with mtu := { s.mtu with
      reader := s.mtu.reader.withdraw p
      loader := s.mtu.loader.withdraw p
      inFlight := s.mtu.inFlight.map (·.unwant p) } }

/-- Ring reads of stream `n`. -/
def TransferKind.isRing (n : Fin 8) : TransferKind → Bool
  | .ring m => m = n
  | .discardRing m => m = n
  | _ => false

/-- Transfers of a form load. -/
def TransferKind.isForm : TransferKind → Bool
  | .formRecord => true
  | .vft => true
  | .translate => true
  | _ => false

/-- Reads of a scan before the directory is put aside. -/
def TransferKind.isScan : TransferKind → Bool
  | .areaHeader => true
  | .descriptor _ => true
  | .openRead _ => true
  | .fontDirectory => true
  | _ => false

/-! ## The Job reports (R39, R161) -/

/-- One more exited page for the oldest job whose report has not fallen due (R39; log 20). -/
def countExit : List Report → List Report
  | [] => []
  | r :: rs => if r.due then r :: countExit rs else { r with pages := satAdd r.pages 1 } :: rs

/-- The report of the oldest job not yet due falls due with the outcome its job end names. -/
def fallDue (o : JobOutcome) : List Report → List Report
  | [] => []
  | r :: rs => if r.due then r :: fallDue o rs else { r with due := true, outcome := o } :: rs

/-- The job in progress gets its outcome; its report is owed from now on (R38, R41). -/
def settleJob (o : JobOutcome) (rs : List Report) : List Report :=
  rs.map fun r => if r.outcome = .noneYet then { r with outcome := o } else r

/-- Every report still owed falls due: DONE and the job in progress become CANCELLED, FAULTED stays (R25, R27). -/
def cancelReports (rs : List Report) : List Report :=
  rs.map fun r =>
    if r.due then r
    else { r with due := true, outcome := if r.outcome = .faulted then .faulted else .cancelled }

end Sys2Proof.Machine
end

