-- ==== Sys2Proof/Machine/Flags.lean ====
section
/-! DEFINITION. The status a reader sees: register words (R1), the interrupt line (R14), wait reasons (R20,
R181), the image gate and the leave (R171, R172), lamps (R188), the device record (chapter 11.1). -/

namespace Sys2Proof.Machine

/-! ## Registers -/

/-- The interrupt line is asserted exactly while EVENTS AND EVENT_MASK is not zero (R14). -/
def State.interrupt (s : State) : Bool := decide (s.regs.events &&& s.regs.eventMask ≠ 0)

/-- GLYPH_FLUSH reads 1 from the asking write until the flush is done (R148). -/
def State.flushBusy (s : State) : Bool := decide (s.cache.flush ≠ .none)

/-- A read of the register at an I/O offset (R1, chapter 11.4); any other offset reads 0. It changes nothing. -/
def State.readRegister (s : State) (offset : Nat) : Word32 :=
  if offset = 0x00 then
    BitVec.ofNat 32 (s.regs.run.toNat + 2 * s.regs.resetBusy.toNat + 4 * s.flushBusy.toNat +
      256 * s.regs.sweepInterval.toNat)
  else if offset = 0x08 then BitVec.ofNat 32 s.regs.events.toNat
  else if offset = 0x0C then BitVec.ofNat 32 s.regs.eventMask.toNat
  else if offset = 0x10 then s.regs.areaBase
  else if offset = 0x14 then
    BitVec.ofNat 32 (Config.partCode + 65536 * Config.revision + 2147483648 * s.regs.rstimg.toNat)
  else 0

/-! ## Wait reasons -/

/-- The wait reason a hold shows (R20). -/
def HoldReason.wait : HoldReason → WaitReason
  | .operatorStop => .operatorStop
  | .notReady => .notReady
  | .hostPause => .hostPause
  | .returned => .offline

/-- The engine wait reason (R181). -/
def EngineState.wait : EngineState → WaitReason
  | .formsWait => .forms
  | .jammed => .jam
  | .offline => .offline
  | .held r => r.wait
  | .idle => .none
  | .feeding => .none

/-- The wait reason of the ACTIVE stream: the engine's where it has one, else the Composer's (R20). -/
def State.activeWait (s : State) : WaitReason :=
  if s.engine.state.wait ≠ .none then s.engine.state.wait
  else if s.comp.state = .waitSlot ∨ s.comp.state = .waitStrike then .slotWait
  else .none

/-- The wait reason of stream `n` (R20). -/
def State.waitOf (s : State) (n : Fin 8) : WaitReason :=
  if (s.stream n).state = .active then s.activeWait else .none

/-- Every stream record shows its wait reason (R20). -/
def State.syncWaits (s : State) : State :=
  { s with sc := { s.sc with streams := s.sc.streams.map fun r =>
      { r with wait := if r.state = .active then s.activeWait else .none } } }

/-! ## The image gate and the leave to image -/

/-- The key of slot `i` equals the mounted key (R94). -/
def State.keyMatches (s : State) (i : Fin 4) : Bool :=
  decide ((s.slot i).copy.stock = s.engine.mountedStock ∧ (s.slot i).copy.length = s.engine.mountedLength)

/-- The state the image gate gives (R172). -/
def State.gate (s : State) : EngineState :=
  match s.head with
  | some i => if s.keyMatches i || s.anyOnEngine then .feeding else .formsWait
  | none => if s.anyOnEngine then .feeding else .idle

/-- The leave to image but for a refusal that waits for its resend (R171). -/
def State.leaveButRefusal (s : State) : Bool :=
  decide (s.engine.state = .feeding ∧ s.engine.holdOwed = .none ∧ s.engine.halting = false) &&
    match s.head with
    | some i => s.keyMatches i
    | none => false

/-- A refusal taken waits for its resend (R177). -/
def State.refusalWaits (s : State) : Bool := s.engine.sent.any (·.awaiting)

/-- The leave to image (R171). -/
def State.leave (s : State) : Bool := s.leaveButRefusal && !s.refusalWaits

/-- The Band Builder is at a band boundary (R122). -/
def State.atBoundary (s : State) : Bool :=
  decide (s.builder.state = .still ∨ s.builder.state = .offering)

/-- The Engine Controller enters HELD; from any other state it raises OPERATOR (R13). -/
def State.enterHeld (s : State) (r : HoldReason) : State :=
  let s' := { s with engine := { s.engine with state := .held r, holdOwed := .none } }
  match s.engine.state with
  | .held _ => s'
  | _ => s'.raise operatorBit

/-- The states among which the image gate moves the Engine Controller (R172). -/
def EngineState.gated : EngineState → Bool
  | .idle => true
  | .feeding => true
  | .formsWait => true
  | _ => false

/-- The Engine Controller takes the state the image gate gives; entry to FORMS_WAIT raises OPERATOR (R13, R172). -/
def State.moveGate (s : State) : State :=
  let s' := { s with engine := { s.engine with state := s.gate } }
  if s.gate = .formsWait ∧ s.engine.state ≠ .formsWait then s'.raise operatorBit else s'

/-- The Engine Controller takes the state the gate gives; while RUN is 0 one that would be IDLE or FEEDING is HELD with
HOST_PAUSE (R4). -/
def State.enterGate (s : State) : State :=
  if s.gate = .formsWait ∨ s.regs.run = true then s.moveGate else s.enterHeld .hostPause

/-! ## The panel -/

/-- TOP OF FORM and LINE are allowed (R185). -/
def State.paperFree (s : State) : Bool :=
  (match s.engine.state with
    | .idle => true
    | .held _ => true
    | _ => false) && !s.anyBegun

/-- The record of a button. -/
def Buttons.get (b : Buttons) : Button → ButtonRec
  | .start => b.start
  | .stop => b.stop
  | .topOfForm => b.topOfForm
  | .line => b.line
  | .lampTest => b.lampTest

/-- Change the record of a button. -/
def Buttons.set (b : Buttons) (r : ButtonRec) : Button → Buttons
  | .start => { b with start := r }
  | .stop => { b with stop := r }
  | .topOfForm => { b with topOfForm := r }
  | .line => { b with line := r }
  | .lampTest => { b with lampTest := r }

/-- A 4 Hz lamp is lit in the even quarters of the blink clock (R189). -/
def PanelController.fastLit (p : PanelController) : Bool := decide (p.blinkPhase.val % 2 = 0)

/-- A 2 Hz lamp is lit in the first two quarters of the blink clock (R189). -/
def PanelController.slowLit (p : PanelController) : Bool := decide (p.blinkPhase.val / 2 = 0)

/-- A lamp driven by a function (R188). -/
def State.functionLit (s : State) : LampFunction → Bool
  | .off => false
  | .ready => decide (s.engine.state = .idle ∨ s.engine.state = .feeding)
  | .attention =>
    match s.engine.state with
    | .held _ => true
    | .jammed => true
    | .formsWait => s.panel.slowLit
    | _ => false
  | .activity => s.panel.linger.isSome && s.panel.fastLit
  | .formsLow => s.engine.cond.formsLow && decide (s.engine.state ≠ .offline)
  | .offline => decide (s.engine.state = .offline)

/-- Lamp `k` is lit; LAMP TEST lights all four (R188). -/
def State.lampLit (s : State) (k : Fin 4) : Bool :=
  s.panel.buttons.lampTest.down || s.functionLit s.panel.lamps[k]

/-! ## The device record -/

/-- The counts that a band boundary may show, as they stand (R151, R181). -/
def State.boundaryCounts (s : State) : BoundaryCounts where
  underruns := s.counts.underruns
  linkErrors := s.counts.linkErrors
  refusals := s.counts.refusals
  bandsSent := s.counts.bandsSent
  pagesExited := s.counts.pagesExited
  hits := s.cache.hits
  misses := s.cache.misses
  faults := s.cache.faults

/-- The first 64 bytes of the device record (chapter 11.1). -/
def State.deviceRecord (s : State) : List Byte :=
  leBytes 1 s.engine.state.code ++ leBytes 1 s.engine.state.wait.code ++ leBytes 1 s.engine.mountedStock ++
    leBytes 1 0 ++ leBytes 2 s.engine.mountedLength ++ leBytes 2 s.store.poolUsed ++
    (allSlots.flatMap fun i => leBytes 1 (s.slot i).state.code) ++
    leBytes 4 s.counts.underruns.toNat ++ leBytes 4 s.counts.linkErrors.toNat ++
    leBytes 4 s.counts.refusals.toNat ++ leBytes 4 s.counts.bandsSent.toNat ++
    leBytes 4 s.counts.pagesExited.toNat ++ leBytes 4 s.cache.hits.toNat ++ leBytes 4 s.cache.misses.toNat ++
    leBytes 4 s.cache.faults.toNat ++ leBytes 4 s.counts.memFaults.toNat ++ leBytes 4 s.counts.lastFault.toNat ++
    leBytes 12 0

end Sys2Proof.Machine
end

