-- ==== Sys2Proof/Machine/Pages.lean ====
section
/-! DEFINITION. The Page Store: opening a slot (R99), closing a page (R104 to R111), release unused (R115),
exit (R103), and what discards and reversions do to slots (R116, R117). -/

namespace Sys2Proof.Machine

/-- The font directory in force (R140). -/
def State.directory (s : State) : Directory := s.cache.inForce.getD .beforeFirst

/-- A form with nothing on it: what the loaded form reads as when none is loaded. -/
def Form.none : Form := formOf 0 [] [] []

/-- The loaded form (R75). -/
def State.loadedForm (s : State) : Form :=
  match s.form with
  | .loaded f => f
  | _ => Form.none

/-! ## Translation (R83, R84, R109) -/

/-- One code of a strike of typeface `t`: its glyph reference, and whether it became the substitute. -/
def translateCode (f : Form) (d : Directory) (t : Nat) (code : Byte) : GlyphRef × Bool :=
  let e := (f.translate.getD code.toNat 0).toNat
  if e = Config.spaceEntry then (.blank, false)
  else if e = Config.substituteEntry ∨ (d.font (d.drawing t)).count ≤ e then (.glyph 0 f.substitute, true)
  else (.glyph (d.drawing t) e, false)

/-- The glyph references of a strike's codes. -/
def translateCodes (f : Form) (d : Directory) (t : Nat) (codes : List Byte) : List GlyphRef :=
  codes.map fun c => (translateCode f d t c).1

/-- How many of the codes become the substitute. -/
def substitutesIn (f : Form) (d : Directory) (t : Nat) (codes : List Byte) : Nat :=
  codes.countP fun c => (translateCode f d t c).2

/-- A strike is translated once, at the first close after it was placed (R109). -/
def Strike.translated (f : Form) (d : Directory) (k : Strike) : Strike :=
  match k.glyphs with
  | some _ => k
  | none => { k with glyphs := some (translateCodes f d k.typeface k.codes) }

/-- The substitutes a translation of this strike counts: none when it has been translated before. -/
def Strike.newSubstitutes (f : Form) (d : Directory) (k : Strike) : Nat :=
  match k.glyphs with
  | some _ => 0
  | none => substitutesIn f d k.typeface k.codes

/-! ## The header fill (R105 to R108) -/

/-- A run of `len` codes from position `pos` of a strike; positions beyond its codes are spaces (R106). -/
def captureRun (pos len : Nat) (k : Strike) : List Byte :=
  (List.range len).map fun i => k.codes.getD (pos - 1 + i) Config.codeSpace

/-- The FIRST and LAST runs of a page: none when the capture length is 0 or there is no candidate (R106). -/
def captures (f : Form) (sl : Slot) : Option (List Byte × List Byte) :=
  let keyed := sl.strikes.filter (·.keyed)
  if f.captureLen = 0 then none
  else
    match keyed.head?, keyed.getLast? with
    | some a, some z => some (captureRun f.capturePos f.captureLen a, captureRun f.capturePos f.captureLen z)
    | _, _ => none

/-- Write `run` at positions `pos` on; the codes are lengthened with spaces first where they end before it (R107). -/
def writeCodes (pos : Nat) (run codes : List Byte) : List Byte :=
  let long := codes ++ List.replicate (pos - 1 + run.length - codes.length) Config.codeSpace
  long.take (pos - 1) ++ run ++ long.drop (pos - 1 + run.length)

/-- Decimal digits of `n` without leading zeros, most significant first, with `fuel` digits at most. -/
def digitsOf : Nat → Nat → List Nat
  | 0, _ => []
  | fuel + 1, n => if n < 10 then [n] else digitsOf fuel (n / 10) ++ [n % 10]

/-- The page number as `width` codes: right-justified, or asterisks when it does not fit (R108). -/
def numberCodes (width n : Nat) : List Byte :=
  let ds := digitsOf 6 n
  if ds.length ≤ width then
    List.replicate (width - ds.length) Config.codeSpace ++ ds.map fun d => BitVec.ofNat 8 (Config.codeZero + d)
  else List.replicate width Config.codeAsterisk

/-- The codes of the header template after the fill, in the order FIRST, LAST, page number (R107). -/
def filledCodes (f : Form) (suppress : Bool) (sl : Slot) (codes : List Byte) : List Byte :=
  let withRuns :=
    match captures f sl with
    | some (a, z) => writeCodes f.lastPos z (writeCodes f.firstPos a codes)
    | none => codes
  if f.numberWidth = 0 ∨ suppress then withRuns
  else writeCodes f.numberPos (numberCodes f.numberWidth sl.pageNo) withRuns

/-- The sequence of the header template: the first HEADER_TEMPLATE strike of the header line (R107). -/
def templateSeq (f : Form) (sl : Slot) : Option Nat :=
  (sl.strikes.find? fun k => k.template && decide (k.line = f.headerLine)).map (·.seq)

/-- The header fill (R107): the template's codes are filled; fill made is set in any case. -/
def Slot.fillHeader (f : Form) (suppress : Bool) (sl : Slot) : Slot :=
  match templateSeq f sl with
  | some q =>
    { sl with
      fillMade := true
      strikes := sl.strikes.map fun k =>
        if k.seq = q then { k with codes := filledCodes f suppress sl k.codes } else k }
  | none => { sl with fillMade := true }

/-- A page is suppressed: first of its job, and the stream's first-page flag set (R6, R108). -/
def State.suppressed (s : State) (sl : Slot) : Bool := sl.firstOfJob && s.sc.firstPage.getLsbD sl.stream.val

/-! ## Closing (R104) -/

/-- Steps 2 and 3 and the rule glyph of step 4 on the slot, for a close with end row `endRow`. -/
def State.closedSlot (s : State) (endRow : Nat) (sl : Slot) : Slot :=
  let f := s.loadedForm
  let d := s.directory
  let sl := if !sl.fillMade && decide (f.top f.headerLine < endRow) then sl.fillHeader f (s.suppressed sl) else sl
  { sl with
    strikes := sl.strikes.map (·.translated f d)
    ruleRef := if sl.firstClose then sl.ruleRef else some (translateCode f d 0 f.ruleCode).1
    firstClose := true }

/-- The substitutes a close counts on the page's stream (R84, R109). -/
def State.closeSubstitutes (s : State) (endRow : Nat) (sl : Slot) : Nat :=
  let f := s.loadedForm
  let d := s.directory
  let filled := if !sl.fillMade && decide (f.top f.headerLine < endRow) then sl.fillHeader f (s.suppressed sl) else sl
  (filled.strikes.map (·.newSubstitutes f d)).sum +
    if sl.firstClose then 0 else if (translateCode f d 0 f.ruleCode).2 then 1 else 0

/-- The entry and state of a final close (R110); the composing mark is cleared. -/
def Slot.finalEntry (sl : Slot) : Slot :=
  let d := sl.copy.length
  match sl.state, sl.entry with
  | .composing, _ =>
    { sl with
      mark := false
      entry := some ⟨sl.split, d⟩
      state := if sl.split = 0 then .closed else .imaging }
  | _, some e => { sl with mark := false, entry := some ⟨e.first, d⟩ }
  | _, none => { sl with mark := false }

/-- The entry and state of a FLUSH close with end row `s'` (R111). -/
def Slot.flushEntry (endRow : Nat) (sl : Slot) : Slot :=
  match sl.state, sl.entry with
  | .composing, _ =>
    { sl with
      entry := some ⟨sl.split, endRow⟩
      state := if sl.split = 0 then .closed else .imaging
      split := endRow }
  | _, some e => { sl with entry := some ⟨e.first, endRow⟩, split := endRow }
  | _, none => { sl with split := endRow }

/-- Steps 1 to 4 of a close of slot `i`: header fill, translation, rule glyph, and at the first close the
tail of the imaging list (R104). -/
def State.closeSteps (s : State) (i : Fin 4) (endRow : Nat) : State :=
  let sl := s.slot i
  let s1 := s.modStream sl.stream fun r => { r with substitutes := satAdd r.substitutes (s.closeSubstitutes endRow sl) }
  let s2 := s1.modSlot i (s.closedSlot endRow)
  if sl.firstClose then s2 else { s2 with store := { s2.store with imaging := s2.store.imaging ++ [i] } }

/-- A final close of slot `i`, with the job it ends if it ends one (R104, R110). -/
def State.closeFinal (s : State) (i : Fin 4) (job : Option JobEnd) : State :=
  (s.closeSteps i (s.slot i).copy.length).modSlot i fun sl =>
    { sl.finalEntry with jobEnds := sl.jobEnds ++ job.toList }

/-- The end row of a FLUSH close: the top row of the line below the last struck one, or D (R89). -/
def Slot.flushRow (sl : Slot) : Nat :=
  let m := (sl.strikes.map (·.line)).foldl max 0
  if sl.copy.lines ≤ m then sl.copy.length else sl.copy.top (m + 1)

/-- A FLUSH close of slot `i` (R104, R111). -/
def State.closeFlush (s : State) (i : Fin 4) : State :=
  let row := (s.slot i).flushRow
  (s.closeSteps i row).modSlot i (·.flushEntry row)

/-- The page holds a strike not yet sent: one on a line at or below the split row (R120). -/
def Slot.unsent (sl : Slot) : Bool := sl.strikes.any fun k => decide (sl.split ≤ sl.copy.top k.line)

/-! ## Opening (R99) -/

/-- The slots in ring order, beginning after the one opened last. -/
def ringOrder (l : Fin 4) : List (Fin 4) := [l + 1, l + 2, l + 3, l]

/-- The slot R99 gives: the first FREE one in ring order. -/
def State.freeSlot (s : State) : Option (Fin 4) :=
  (ringOrder s.store.lastOpened).find? fun i => decide ((s.slot i).state = .free)

/-- A slot just opened for stream `n` (R99). -/
def State.openedSlot (s : State) (n : Fin 8) (tag : Word32) (number : Nat) (first : Bool) : Slot where
  state := .composing
  mark := true
  stream := n
  jobTag := tag
  firstOfJob := first
  pageNo := number
  copy := s.loadedForm.copy
  ruleRef := none
  strikes := []
  seqCount := 0
  split := 0
  entry := none
  fillMade := false
  firstClose := false
  releaseOff := (s.stream n).take
  markTag := none
  jobEnds := []
  pageSeq := none

/-- Open slot `i` for stream `n`; the stream record shows the page number (R59). -/
def State.openAt (s : State) (i : Fin 4) (n : Fin 8) (tag : Word32) (number : Nat) (first : Bool) : State :=
  let s1 := s.modSlot i fun _ => s.openedSlot n tag number first
  let s2 := { s1 with store := { s1.store with lastOpened := i } }
  s2.modStream n fun r => { r with pageNo := number }

/-! ## Slots that become FREE -/

/-- Slot `i` becomes FREE: its strikes return to the pool, its items are cleared, it leaves the imaging list. -/
def State.clearSlot (s : State) (i : Fin 4) : State :=
  { s with store := { s.store with
      slots := s.store.slots.set i Slot.free
      poolUsed := s.store.poolUsed - (s.slot i).strikes.length
      imaging := s.store.imaging.filter (· ≠ i) } }

/-- The Stream Controller takes a mark report: the tag is the last mark tag, and STREAMn is owed (R40). -/
def State.reportMark (s : State) (n : Fin 8) : Option Word32 → State
  | some tag => (s.modStream n fun r => { r with markTag := tag }).askDescriptor n true
  | none => s

/-- The reports of the jobs whose last page left fall due in the order of the list (R39, R115). -/
def State.reportsFall (s : State) (n : Fin 8) (ends : List JobEnd) : State :=
  s.modStream n fun r => { r with reports := ends.foldl (fun rs e => fallDue e.outcome rs) r.reports }

/-- Release at the exit of a page with release offset `off`: it moves there, but for a page that a discard's skips
have passed, which leaves it where it is (R33, R44; log 39). -/
def StreamRec.exitRelease (r : StreamRec) (off : Nat) : Nat := if r.heldExits = 0 then off else r.release

/-- A page of stream `n` exits: release moves on, pages exited and the oldest owed job's count rise by one, and the
MARK and job reports are made (R33, R39, R40). -/
def State.pageExit (s : State) (n : Fin 8) (sl : Slot) : State :=
  let s1 := s.modStream n fun r =>
    { r with
      release := r.exitRelease sl.releaseOff
      heldExits := r.heldExits - 1
      pagesExited := satAdd r.pagesExited 1
      reports := countExit r.reports }
  (s1.reportMark n sl.markTag).reportsFall n sl.jobEnds

/-- Free slot `i` at its page's exit (R103); the device record's pages exited rises by one (R176). -/
def State.freeExited (s : State) (i : Fin 4) : State :=
  let sl := s.slot i
  let s1 := (s.pageExit sl.stream sl).clearSlot i
  { s1 with counts := { s1.counts with pagesExited := satAdd s1.counts.pagesExited 1 } }

/-- The SENT slots of the imaging list up to and including `i`, oldest first (R103, R176). -/
def State.exitNames (s : State) (i : Fin 4) : List (Fin 4) :=
  (s.store.imaging.takeWhile (· ≠ i)).filter (fun j => decide ((s.slot j).state = .sent)) ++ [i]

/-- The SENT slot that holds a page sequence number (R176). -/
def State.sentSlot (s : State) (q : BitVec 8) : Option (Fin 4) :=
  s.store.imaging.find? fun i => decide ((s.slot i).state = .sent ∧ (s.slot i).pageSeq = some q)

/-- The newest slot of stream `n` in the imaging list, but for `i` (R115). -/
def State.newestSlot (s : State) (n : Fin 8) (i : Option (Fin 4)) : Option (Fin 4) :=
  s.store.imaging.reverse.find? fun j =>
    decide ((s.slot j).stream = n ∧ (s.slot j).state ≠ .free ∧ some j ≠ i)

/-- Slot `i` is released unused: its records pass to the newest slot of its stream, whose exit then moves release
whatever a discard skipped before, or its release offset and reports are handed to the Stream Controller at once
(R33, R115). -/
def State.releaseUnused (s : State) (i : Fin 4) (job : Option JobEnd) : State :=
  let sl := s.slot i
  let n := sl.stream
  match s.newestSlot n (some i) with
  | some j =>
    ((s.modSlot j fun t =>
      { t with
        releaseOff := sl.releaseOff
        markTag := sl.markTag.or t.markTag
        jobEnds := t.jobEnds ++ job.toList }).modStream n fun r =>
      { r with heldExits := min r.heldExits ((s.slotsOf n).length - 2) }).clearSlot i
  | none =>
    let s1 := s.modStream n fun r => { r with release := sl.releaseOff }
    ((s1.reportMark n sl.markTag).reportsFall n job.toList).clearSlot i

/-! ## Reversion (R117) -/

/-- The slot after a reversion (R117). -/
def Slot.reverted (sl : Slot) : Slot :=
  match sl.state, sl.mark with
  | .imaging, true => { sl with state := .composing, split := 0, entry := none, pageSeq := none }
  | .imaging, false => { sl with state := .closed, split := 0, entry := some ⟨0, sl.copy.length⟩, pageSeq := none }
  | .sent, _ => { sl with state := .closed, split := 0, entry := some ⟨0, sl.copy.length⟩, pageSeq := none }
  | .composing, _ => if 0 < sl.split then { sl with split := 0, pageSeq := none } else sl
  | _, _ => sl

/-- Revert slot `i` where it has handed rows to the engine and has not been reported out, counting a reprint on its
stream (R179). -/
def State.revertSlot (s : State) (i : Fin 4) : State :=
  if (s.slot i).begun then
    (s.modSlot i (·.reverted)).modStream (s.slot i).stream fun r => { r with reprints := satAdd r.reprints 1 }
  else s

/-- Revert every slot that has begun (R117). -/
def State.revertSlots (s : State) : State := allSlots.foldl State.revertSlot s

end Sys2Proof.Machine
end

