-- ==== Sys2Proof/Machine/Glyphs.lean ====
section
/-! DEFINITION. The Glyph Cache: lookups (R144, R145), fills (R146, R147), emptying, the directory in force
and set aside (R141, R148). -/

namespace Sys2Proof.Machine

/-! ## Sub-blocks (R142, R143) -/

/-- Rows of a quarter of a glyph: q = ceil(h / 4). -/
def FontRec.quarter (r : FontRec) : Nat := ceilDiv r.height 4

/-- Bytes of a glyph row. -/
def FontRec.rowBytes (r : FontRec) : Nat := ceilDiv r.width 8

/-- The first row of sub-block `k`. -/
def FontRec.subFirst (r : FontRec) (k : Nat) : Nat := k * r.quarter

/-- The row after the last of sub-block `k`. -/
def FontRec.subEnd (r : FontRec) (k : Nat) : Nat := min ((k + 1) * r.quarter) r.height

/-- The needed sub-blocks of a cell with top row `top` for the rows `first` to `last` − 1, empty ones left
out (R144). -/
def FontRec.needed (r : FontRec) (top first last : Nat) : List (Fin 4) :=
  ([0, 1, 2, 3] : List (Fin 4)).filter fun k =>
    decide (min 3 ((first - top) / r.quarter) ≤ k.val ∧ k.val ≤ min 3 ((last - 1 - top) / r.quarter) ∧
      r.subFirst k.val < r.height)

/-- Host address of the first byte of sub-block `k` of glyph `g`, before widening (R142, R146). -/
def FontRec.subAddr (r : FontRec) (g k : Nat) : Word32 :=
  addrAt r.base (g * r.height * r.rowBytes + r.subFirst k * r.rowBytes)

/-- Bytes of sub-block `k`. -/
def FontRec.subBytes (r : FontRec) (k : Nat) : Nat := (r.subEnd k - r.subFirst k) * r.rowBytes

/-- The widened span of a sub-block read: bytes added in front, and its whole length (R146). -/
def FontRec.widened (r : FontRec) (g k : Nat) : Nat × Nat :=
  let lead := (r.subAddr g k).toNat % 4
  (lead, roundUp4 (lead + r.subBytes k))

/-! ## Dots of a cell (R125, R126, R142, R147) -/

/-- Dot `col` of a row of bytes is set: the leftmost dot is bit 7 of the first byte. -/
def rowDot (b : List Byte) (col : Nat) : Bool := (b.getD (col / 8) 0).getLsbD (7 - col % 8)

/-- Row `r` of a glyph from the present sub-blocks of its entry. -/
def CacheEntry.row (e : CacheEntry) (f : FontRec) (r : Nat) : List Byte :=
  match e.subs.toList.getD (r / f.quarter) none with
  | some b => (b.drop ((r - f.subFirst (r / f.quarter)) * f.rowBytes)).take f.rowBytes
  | none => []

/-- The page dots a cell marks in rows `first` to `last` − 1, `isSet` telling the glyph's dots; columns at
4,096 and beyond are dropped. Keys are row × 4,096 + column. -/
def cellDots (w h : Nat) (c : Cell) (first last : Nat) (isSet : Nat → Nat → Bool) : List Nat :=
  (List.range h).flatMap fun r =>
    if first ≤ c.top + r ∧ c.top + r < last then
      (List.range w).filterMap fun k =>
        if isSet r k ∧ c.col + k < Config.engineWidth then some ((c.top + r) * Config.engineWidth + (c.col + k)) else none
    else []

/-- The dots of the fault box: the one-dot outline of the cell (R147). -/
def boxDot (w h r k : Nat) : Bool := decide (r = 0 ∨ r + 1 = h ∨ k = 0 ∨ k + 1 = w)

/-- One mark on a dot; a count of 3 stays 3 (R125). -/
def addMark (key : Nat) : DotMap → DotMap
  | [] => [(key, 1)]
  | d :: m =>
    if key < d.1 then (key, 1) :: d :: m
    else if key = d.1 then (key, min (d.2 + 1) 3) :: m
    else d :: addMark key m

/-- One mark on each dot of a cell. -/
def addMarks (keys : List Nat) (m : DotMap) : DotMap := keys.foldl (fun m k => addMark k m) m

/-! ## Sets and recency (R143) -/

/-- The set a glyph belongs to. -/
def setOf (t g : Nat) : Fin 32 := ⟨(g + 7 * t) % 32, Nat.mod_lt _ (by decide)⟩

/-- A way moves to the most recent end. -/
def toFront (w : Fin 4) (o : List (Fin 4)) : List (Fin 4) := w :: o.filter (· ≠ w)

/-- The way that holds a tag. -/
def CacheSet.find (c : CacheSet) (tag : Nat × Nat) : Option (Fin 4) :=
  allSlots.find? fun w => decide (c.ways[w].tag = some tag)

/-- The least recent way. -/
def CacheSet.oldest (c : CacheSet) : Fin 4 := c.order.getLast?.getD 3

/-- Change one set of the cache. -/
def GlyphCache.modSet (c : GlyphCache) (k : Fin 32) (f : CacheSet → CacheSet) : GlyphCache :=
  { c with sets := c.sets.set k (f c.sets[k]) }

/-- Way `w` is used: it moves to the most recent end. -/
def CacheSet.touch (c : CacheSet) (w : Fin 4) : CacheSet := { c with order := toFront w c.order }

/-- A tag miss takes way `w`: its entry is emptied, takes the tag, and moves to the most recent end (R145). -/
def CacheSet.claim (c : CacheSet) (w : Fin 4) (tag : Nat × Nat) : CacheSet where
  ways := c.ways.set w ⟨some tag, Vector.replicate 4 none⟩
  order := toFront w c.order

/-- The needed sub-blocks that are absent from an entry. -/
def CacheEntry.absent (e : CacheEntry) (needed : List (Fin 4)) : List (Fin 4) :=
  needed.filter fun k => (e.subs[k]).isNone

/-! ## Lookups (R144, R145) -/

/-- What a judged lookup gives: the page dots to mark, or a fill begun. -/
inductive Lookup where
  | dots (keys : List Nat)
  | miss
  deriving DecidableEq, Repr

/-- Judge the lookup of a cell for rows `first` to `last` − 1: index beyond the directory is a box and
counts nothing; else a hit, a sub-block miss or a tag miss. -/
def GlyphCache.judge (c : GlyphCache) (d : Directory) (cell : Cell) (first last : Nat) : Lookup × GlyphCache :=
  let t := d.drawing cell.typeface
  let f := d.font t
  if f.count ≤ cell.index then (.dots (cellDots f.width f.height cell first last (boxDot f.width f.height)), c)
  else
    let k := setOf t cell.index
    let needed := f.needed cell.top first last
    match c.sets[k].find (t, cell.index) with
    | some w =>
      let entry := c.sets[k].ways[w]
      let c1 := c.modSet k (·.touch w)
      if (entry.absent needed).isEmpty then
        (.dots (cellDots f.width f.height cell first last fun r col => rowDot (entry.row f r) col),
          { c1 with hits := satAdd c1.hits 1 })
      else
        (.miss, { c1 with
          misses := satAdd c1.misses 1
          fill := some ⟨k, w, t, cell.index, f, entry.absent needed, [], true⟩ })
    | none =>
      let w := c.sets[k].oldest
      let c1 := c.modSet k (·.claim w (t, cell.index))
      (.miss, { c1 with
        misses := satAdd c1.misses 1
        fill := some ⟨k, w, t, cell.index, f, needed, [], true⟩ })

/-- The dots of the fault box drawn in a cell's place (R147). -/
def boxFor (d : Directory) (cell : Cell) (first last : Nat) : List Nat :=
  let f := d.font (d.drawing cell.typeface)
  cellDots f.width f.height cell first last (boxDot f.width f.height)

/-- The dots of a cell from the entry a fill has just completed (R146). -/
def GlyphCache.filledDots (c : GlyphCache) (fl : Fill) (cell : Cell) (first last : Nat) : List Nat :=
  let f := fl.font
  let entry := c.sets[fl.set].ways[fl.way]
  cellDots f.width f.height cell first last fun r col => rowDot (entry.row f r) col

/-! ## Fills -/

/-- Sub-block `k` of an entry that still holds the fill's glyph becomes present; one that has been emptied while
the fill ran stays empty (R141, R146; log 28). -/
def CacheEntry.filled (e : CacheEntry) (fl : Fill) (k : Fin 4) (bytes : List Byte) : CacheEntry :=
  if e.tag = some (fl.typeface, fl.index) then ⟨e.tag, e.subs.set k (some bytes)⟩ else e

/-- Store the rows of a completed sub-block; its mark becomes present (R146). -/
def GlyphCache.storeSub (c : GlyphCache) (fl : Fill) (k : Fin 4) (bytes : List Byte) : GlyphCache :=
  c.modSet fl.set fun st => { st with ways := st.ways.set fl.way (st.ways[fl.way].filled fl k bytes) }

/-- The bytes of a transfer reach the fill in flight: the sub-block goes on, or is stored, and the fill goes
on with the next or has completed (R146). The second result tells that the fill has completed. -/
def GlyphCache.fillStep (c : GlyphCache) (fl : Fill) (data : List Byte) : GlyphCache × Bool :=
  match fl.todo with
  | [] => ({ c with fill := none }, true)
  | k :: ks =>
    let f := fl.font
    let span := f.widened fl.index k.val
    let got := fl.got ++ data
    if got.length < span.2 then ({ c with fill := some { fl with got := got } }, false)
    else
      let c1 := c.storeSub fl k ((got.drop span.1).take (f.subBytes k.val))
      match ks with
      | [] => ({ c1 with fill := none }, true)
      | _ => ({ c1 with fill := some { fl with todo := ks, got := [] } }, false)

/-- The Band Builder gives up the lookup it waits on; the fill goes on (R150). -/
def GlyphCache.giveUp (c : GlyphCache) : GlyphCache :=
  { c with fill := c.fill.map fun fl => { fl with wanted := false } }

/-! ## Emptying and directories (R141, R148) -/

/-- Every entry is emptied and every order restored. -/
def GlyphCache.emptied (c : GlyphCache) : GlyphCache := { c with sets := Vector.replicate 32 CacheSet.empty }

/-- The directory set aside is put in force, and the cache emptied (R141). -/
def GlyphCache.putInForce (c : GlyphCache) : GlyphCache :=
  match c.aside with
  | some d => { c.emptied with inForce := some d, aside := none }
  | none => c

/-- An owed flush goes on at a band boundary: it waits for a fill in flight, and then empties the cache and has its
directory read (R148, steps 1 to 3). -/
def GlyphCache.beginFlush (c : GlyphCache) : GlyphCache :=
  match c.fill with
  | some _ => { c with flush := .waitFill }
  | none => { c.emptied with flush := .reading }

/-- What the cache does at a band boundary: it puts in force a directory set aside, and begins a flush that is owed
(R141, R148). While FLUSHING neither happens, since step 4 of R148 settles a directory set aside (R149). That the
directory goes first where both wait is DEDUCED (log 28). -/
def GlyphCache.atBoundary (c : GlyphCache) : GlyphCache :=
  match c.flush with
  | .none => c.putInForce
  | .owed => c.putInForce.beginFlush
  | .waitFill => c.putInForce.beginFlush
  | .reading => c

/-- The flush's directory read has completed: the new directory is in force, one set aside is dropped, and
the flush is done (R148). -/
def GlyphCache.flushRead (c : GlyphCache) (d : Directory) : GlyphCache :=
  { c with inForce := some d, aside := none, flush := .none }

/-- The flush's directory read has failed: a directory set aside is put in force instead, and the flush is
done (R148). -/
def GlyphCache.flushFailed (c : GlyphCache) : GlyphCache := { c.putInForce with flush := .none }

end Sys2Proof.Machine
end

