-- ==== Sys2Proof/Machine/Bands.lean ====
section
/-! DEFINITION. The Band Builder: the cells of a band (R123, R124), drawing against the cache (R127, R128),
judging (R129), page marks (R130, R131), rebuilds (R137), and dropping what is in hand (R136). -/

namespace Sys2Proof.Machine

/-! ## Cells (R124) -/

/-- The cell of a glyph reference at a position of a line; blank draws nothing. -/
def FormCopy.cell (c : FormCopy) (line pos : Nat) : GlyphRef → Option Cell
  | .blank => none
  | .glyph t g => some ⟨c.top line, c.left pos, t, g⟩

/-- The cells of a translated strike, positions from left to right. -/
def Strike.cells (c : FormCopy) (k : Strike) : List Cell :=
  match k.glyphs with
  | some gs => gs.zipIdx.filterMap fun g => c.cell k.line (g.2 + 1) g.1
  | none => []

/-- The cells of the column rules on a line, in order (R90). -/
def Slot.ruleCells (sl : Slot) (line : Nat) : List Cell :=
  sl.copy.rules.filterMap fun r =>
    if r.position ≠ 0 ∧ r.first ≤ line ∧ line ≤ r.last then
      sl.copy.cell line r.position (sl.ruleRef.getD .blank)
    else none

/-- All cells of a slot in the order of R124: line by line, strikes by place, then rules. -/
def Slot.cells (sl : Slot) : List Cell :=
  (List.range' 1 sl.copy.lines).flatMap fun n =>
    ((sl.strikes.filter fun k => k.line = n).flatMap fun k => k.cells sl.copy) ++ sl.ruleCells n

/-- A cell's rows meet the rows `first` to `last` − 1 (R124). -/
def Cell.meets (d : Directory) (first last : Nat) (c : Cell) : Bool :=
  decide (c.top < last ∧ first < c.top + (d.font (d.drawing c.typeface)).height)

/-- The band begun for rows `first` to `last` − 1 of slot `i`. -/
def State.bandWork (s : State) (i : Fin 4) (first last : Nat) (r : Option Rebuild) : BandWork where
  slot := i
  first := first
  last := last
  dots := []
  cells := (s.slot i).cells.filter (Cell.meets s.directory first last)
  rebuild := r

/-! ## Drawing (R127, R128) -/

/-- Draw cells in order until one waits for a fill: the dots, the cells left, and the cache. -/
def drawCells (d : Directory) (first last : Nat) : List Cell → DotMap → GlyphCache → DotMap × List Cell × GlyphCache
  | [], m, c => (m, [], c)
  | cell :: cells, m, c =>
    match c.judge d cell first last with
    | (.dots keys, c') => drawCells d first last cells (addMarks keys m) c'
    | (.miss, c') => (m, cell :: cells, c')

/-- Draw the band in hand. While a fill is in flight the lookup is held (R144). The Builder is left in
FILL_WAIT when a cell waits, and in BUILDING with no cell left when all are drawn. -/
def State.drawBand (s : State) : State :=
  match s.builder.work with
  | none => s
  | some w =>
    match s.cache.fill, w.cells with
    | some _, _ :: _ => { s with builder := { s.builder with state := .fillWait } }
    | _, _ =>
      let r := drawCells s.directory w.first w.last w.cells w.dots s.cache
      { s with
        cache := r.2.2
        builder := { s.builder with
          state := if r.2.1.isEmpty then .building else .fillWait
          work := some { w with dots := r.1, cells := r.2.1 } } }

/-- The cell that waited gets its dots: those of the glyph, or of the fault box. -/
def State.drawWaiting (s : State) (dotsOf : Cell → Nat → Nat → List Nat) : State :=
  match s.builder.work with
  | some w =>
    match w.cells with
    | c :: cs =>
      { s with builder := { s.builder with
          state := .building
          work := some { w with dots := addMarks (dotsOf c w.first w.last) w.dots, cells := cs } } }
    | [] => s
  | none => s

/-! ## Messages (R129 to R132) -/

/-- The page marks of a message of slot `sl` for rows `row` to `stop` − 1 (R130). -/
def Slot.marks (sl : Slot) (row stop : Nat) : PageMarks :=
  let ends := match sl.entry with
    | some e => decide (stop = e.last)
    | none => false
  { first := decide (row = 0), last := ends && !sl.mark, hold := ends && sl.mark }

/-- A slew message for `count` rows from `row`; it carries the triple when it carries first-of-page (R132). -/
def State.slewMessage (s : State) (i : Fin 4) (row count : Nat) : Message :=
  let m := (s.slot i).marks row (row + count)
  { slot := some i, row := row, count := count, body := .slew, marks := m
    strobe := if m.first then some (s.slot i).copy.strobe else none }

/-- A band message for rows `row` to `stop` − 1; every BAND carries the triple (R132). -/
def State.bandMessage (s : State) (i : Fin 4) (row stop : Nat) (dots : DotMap) (m : PageMarks) : Message :=
  { slot := some i, row := row, count := stop - row, body := .band dots, marks := m
    strobe := some (s.slot i).copy.strobe }

/-- The closing message of an entry with no rows left (R131). -/
def closingMessage (i : Fin 4) (row : Nat) : Message :=
  { slot := some i, row := row, count := 1, body := .slew, marks := ⟨false, true, false⟩, strobe := none }

/-- The pending slew with the rows of a blank band added (R129). -/
def BandBuilder.slewWith (b : BandBuilder) (first last : Nat) : PendingSlew :=
  match b.slew with
  | some p => { p with count := p.count + (last - first) }
  | none => ⟨first, last - first, decide (first = 0)⟩

/-- The messages of an offer: the pending slew, then the band (R129). -/
def State.offerFor (s : State) (i : Fin 4) (w : BandWork) : List Message :=
  (match s.builder.slew with
    | some p => [s.slewMessage i p.row p.count]
    | none => []) ++ [s.bandMessage i w.first w.last w.dots ((s.slot i).marks w.first w.last)]

/-- Judge the finished band (R129). A rebuilt band is offered alone (R137). A blank band joins the pending
slew, which is offered alone when the entry has no rows left and the leave to image stands (R138); else the
Builder is left STILL with the slew pending. -/
def State.judgeBand (s : State) : State :=
  match s.builder.work with
  | none => s
  | some w =>
    match w.rebuild with
    | some r =>
      { s with builder := { s.builder with
          state := .offering
          work := none
          rebuilt := ⟨r.seq, s.bandMessage w.slot w.first w.last w.dots r.marks⟩ :: s.builder.rebuilt } }
    | none =>
      if w.dots.isEmpty then
        let p := s.builder.slewWith w.first w.last
        if ((s.slot w.slot).entry.map (·.last)) = some w.last ∧ s.leave = true then
          { s with builder := { s.builder with
              state := .offering, work := none, slew := none, nextRow := w.last
              offer := [s.slewMessage w.slot p.row p.count] } }
        else
          { s with builder := { s.builder with state := .still, work := none, slew := some p, nextRow := w.last } }
      else
        { s with builder := { s.builder with
            state := .offering, work := none, slew := none, nextRow := w.last, offer := s.offerFor w.slot w } }

/-! ## Beginning a band (R123) -/

/-- The Builder takes slot `i` as its own; a new slot sets next row to the entry's first row. -/
def State.takeSlot (s : State) (i : Fin 4) (first : Nat) : State :=
  if s.builder.slot = some i then s
  else { s with builder := { s.builder with slot := some i, nextRow := first, slew := none } }

/-- The last message of an entry with no rows left: the slew that stayed pending (R138), or the closing message of
R131. -/
def State.endMessage (s : State) (i : Fin 4) (row : Nat) : Message :=
  match s.builder.slew with
  | some p => s.slewMessage i p.row p.count
  | none => closingMessage i row

/-- Begin one band of slot `i` (R123): the range, the cells, and the slot becomes IMAGING. An entry with no
rows left is ended by its last message. -/
def State.startBand (s : State) (i : Fin 4) (e : Entry) : State :=
  let s := s.takeSlot i e.first
  let s := s.modSlot i fun sl => { sl with state := if sl.state = .closed then .imaging else sl.state }
  let row := s.builder.nextRow
  if e.last ≤ row then
    { s with builder := { s.builder with state := .offering, slew := none, offer := [s.endMessage i row] } }
  else
    let stop := min (min (Config.bandRows * (row / Config.bandRows) + Config.bandRows) e.last) (s.slot i).copy.length
    { s with builder := { s.builder with state := .building, work := some (s.bandWork i row stop none) } }

/-- Begin a band of the head slot when the Builder is STILL with the leave to image and no flush under way
(R122, R148); otherwise nothing. -/
def State.beginBand (s : State) : State :=
  if s.builder.state = .still ∧ s.leave = true ∧ s.cache.flush = .none then
    match s.head with
    | some i =>
      match (s.slot i).entry with
      | some e => s.startBand i e
      | none => s
    | none => s
  else s

/-- Draw the band in hand, and judge it when no cell waits (R129). -/
def State.finishBand (s : State) : State :=
  let s1 := s.drawBand
  if s1.builder.state = .building then s1.judgeBand else s1

/-- The cache looks at a band boundary (R139, R141, R148). -/
def State.cacheBoundary (s : State) : State :=
  if s.atBoundary then { s with cache := s.cache.atBoundary } else s

/-- Finish the band in hand, and after a blank band go on with the next while the leave stands (R129); `fuel`
bounds the bands of one page. DESIGN CHOICE, log 54: the passage from a blank band to the next is a band boundary for
a directory set aside (R141) and for a flush that is owed (R139), though R122 names no state between the two bands. -/
def State.runBands : Nat → State → State
  | 0, s => s
  | fuel + 1, s =>
    let s1 := s.finishBand
    if s.builder.work.isSome ∧ s1.builder.state = .still then s1.cacheBoundary.beginBand.runBands fuel else s1

/-- More than the bands of the longest form (R88). -/
def bandFuel : Nat := 128

/-! ## Rebuilds and drops (R136, R137) -/

/-- The Band Builder leaves the lookup it waits on, if it waits (R150). -/
def State.leaveLookup (s : State) : State :=
  if s.builder.state = .fillWait then { s with cache := s.cache.giveUp } else s

/-- The state the Builder returns to with no band in hand: OFFERING while something is offered. -/
def BandBuilder.rest (b : BandBuilder) : BuilderState :=
  if b.offer.isEmpty && b.rebuilt.isEmpty then .still else .offering

/-- Drop the band in hand; next row stays at its first row (R137). -/
def State.dropWork (s : State) : State :=
  match s.builder.work with
  | none => s
  | some _ =>
    let s1 := s.leaveLookup
    { s1 with builder := { s1.builder with work := none, state := s1.builder.rest } }

/-- Drop the band, the pending slew and the offer; the Builder becomes STILL (R136). -/
def State.dropBuilder (s : State) : State := { s.leaveLookup with builder := BandBuilder.initial }

/-- The message `q` of the sent list is a refused BAND that waits for its rebuild (R177). -/
def State.ordered (s : State) (q : BitVec 16) : Bool :=
  s.engine.sent.any fun e => decide (e.seq = q) && e.awaiting && e.isBand

/-- Drop the rebuilds, in hand or offered, whose message no longer waits in the sent list (R137, R177, R180). -/
def State.dropRebuild (s : State) : State :=
  let s1 := match s.builder.work with
    | some w =>
      match w.rebuild with
      | some r => if s.ordered r.seq then s else s.dropWork
      | none => s
    | none => s
  let b := { s1.builder with rebuilt := s1.builder.rebuilt.filter fun r => s.ordered r.seq }
  { s1 with builder := { b with state := if b.work.isSome then b.state else b.rest } }

/-- The band in hand is a rebuilt one. -/
def BandBuilder.reworking (b : BandBuilder) : Bool :=
  match b.work with
  | some w => w.rebuild.isSome
  | none => false

/-- The rebuild of the message `q` is in hand or offered. -/
def BandBuilder.rebuilds (b : BandBuilder) (q : BitVec 16) : Bool :=
  (b.rebuilt.any fun r => decide (r.seq = q)) || (match b.work with
    | some w => decide (w.rebuild.map (·.seq) = some q)
    | none => false)

/-- The refused BAND that is rebuilt next: the oldest of the sent list whose rebuild is neither in hand nor offered
(R177; DESIGN CHOICE, log 27). -/
def State.rebuildOrder (s : State) : Option SentMsg :=
  s.engine.sent.find? fun m => m.awaiting && m.isBand && !s.builder.rebuilds m.seq

/-- A flush under way lets no band be begun (R148). -/
def GlyphCache.holdsBands (c : GlyphCache) : Bool := decide (c.flush = .waitFill ∨ c.flush = .reading)

/-- Build the band of a refused message anew (R137): the band in hand is dropped and the lookup it waits on given up
(R150), a directory set aside reaches the band begun now (R141; log 54), and an offer waits. -/
def State.rebuild (s : State) (m : SentMsg) : State :=
  match m.slot with
  | none => s
  | some i =>
    let s1 := s.dropWork
    let s2 := { s1 with cache := s1.cache.putInForce }
    { s2 with builder := { s2.builder with
        state := .building
        work := some (s2.bandWork i m.row (m.row + m.count) (some ⟨m.seq, m.marks⟩)) } }.finishBand

/-- A rebuild is taken at once, whatever band is in hand (R137, R150), but that at a band boundary a directory set aside
and an owed flush go first (R141, R148), and a flush under way lets no band be begun: then the rebuild waits. DESIGN
CHOICE, log 27: a rebuild in hand is dropped as any band, and made again afterwards. -/
def State.orderRebuild (s : State) (m : SentMsg) : State :=
  let s1 := s.cacheBoundary
  if s1.cache.holdsBands then s1 else s1.rebuild m

/-- The rebuilds still to be made are taken one after another, until one of them waits for a fill or a flush is due
(R137, R148; log 27); `fuel` bounds the sent list. -/
def State.startRebuild : Nat → State → State
  | 0, s => s
  | fuel + 1, s =>
    match s.rebuildOrder with
    | none => s
    | some m => if s.builder.reworking then s else (s.orderRebuild m).startRebuild fuel

end Sys2Proof.Machine
end

