-- ==== Sys2Proof/Machine/Engine.lean ====
section
/-! DEFINITION. The Engine Controller: reversions and halts (R117, R178 to R180), OFFLINE and the return
(R167, R168), handing messages over (R169 to R171), refusals (R177), exits (R176), STATUS (R175), the line
advance (R186), discards of slots (R116). -/

namespace Sys2Proof.Machine

/-! ## Reversion, jam, OFFLINE, halt -/

/-- Order the reversion of R117: the slots revert, the Builder drops what it holds for a reverted head, a
rebuild is dropped and the sent list is emptied (R167, R178, R180). -/
def State.revertAll (s : State) : State :=
  let headReverts := match s.builder.slot with
    | some b => (s.slot b).begun
    | none => false
  let s1 := { s with engine := { s.engine with sent := [] } }
  (if headReverts then s1.dropBuilder else s1.dropRebuild).revertSlots

/-- A jam is taken (R178): JAMMED, OPERATOR, the reversion, alignment UNKNOWN, no hold owed and no halt. -/
def State.takeJam (s : State) : State :=
  let s1 := ({ s with engine := { s.engine with state := .jammed } }.raise operatorBit).revertAll
  { s1 with
    engine := { s1.engine with alignment := .unknown, holdOwed := .none, halting := false, handed := 0 }
    panel := { s1.panel with lineOwed := false } }

/-- The engine is taken to be gone (R167). -/
def State.enterOffline (s : State) : State :=
  let s1 := ({ s with engine := { s.engine with state := .offline } }.raise offlineBit).revertAll
  { s1 with
    engine := { s1.engine with
      alignment := .unknown
      bandRoom := 0
      handed := 0
      holdOwed := .none
      halting := false
      expected := none
      lastExit := none }
    panel := { s1.panel with lineOwed := false } }

/-- The halt for a discard that took an IMAGING or SENT slot (R180); one already under way asks for nothing more. -/
def State.discardHalt (s : State) : State :=
  if s.engine.halting then s
  else
    let s1 := s.sendHalt
    { s1 with engine := { s1.engine with halting := true } }.revertAll

/-! ## Discard (R116) -/

/-- A message of the sent list whose rebuild is dropped because its slot has been discarded (R177). -/
def SentMsg.dropped (gone : List (Fin 4)) (m : SentMsg) : Bool :=
  m.awaiting && m.isBand && match m.slot with
    | some i => decide (i ∈ gone)
    | none => false

/-- Discard every slot of stream `n` that is not FREE (R116), halting the engine when one of them was IMAGING
or SENT (R180). -/
def State.discardSlots (s : State) (n : Fin 8) : State :=
  let gone := s.slotsOf n
  let hit := gone.any fun i => (s.slot i).onEngine
  let headGone := match s.builder.slot with
    | some b => decide (b ∈ gone)
    | none => false
  let rebuildGone := s.engine.sent.any (SentMsg.dropped gone)
  let s1 := { s with engine := { s.engine with sent := s.engine.sent.filter fun m => !SentMsg.dropped gone m } }
  let s2 := if headGone then s1.dropBuilder else if rebuildGone then s1.dropRebuild else s1
  let s3 := gone.foldl State.clearSlot s2
  if hit then s3.discardHalt else s3

/-! ## Handing messages over (R169 to R171) -/

/-- A message may be handed over: room, and fewer than four in the sent list (R169). -/
def State.canHand (s : State) : Bool := decide (1 ≤ s.engine.bandRoom ∧ s.engine.sent.length < Config.sentMax)

/-- The frame of a message (R166). -/
def Message.frame (m : Message) (seq : BitVec 16) (page : BitVec 8) : TxBody :=
  match m.body with
  | .band _ => .band seq page m
  | .slew => .slew seq page m

/-- The message is a BAND. -/
def Message.isBand (m : Message) : Bool :=
  match m.body with
  | .band _ => true
  | .slew => false

/-- The alignment test before a message that carries first-of-page (R170). -/
def State.alignFor (s : State) (m : Message) : State :=
  if m.marks.first then
    match s.engine.alignment with
    | .unknown => s.sendMount.sendTop
    | .off => s.sendTop
    | .set => s
  else s

/-- Alignment after a message is handed over (R170). -/
def PageMarks.alignment (m : PageMarks) (a : Alignment) : Alignment :=
  if m.last then .set else if m.hold then .off else a

/-- Steps 3 to 5 of R171 for a message with page sequence number `page`: number it, send it, take band room,
enter it in the sent list, count a BAND. -/
def State.hand (s : State) (m : Message) (page : BitVec 8) : State :=
  let seq := s.engine.bandSeq
  let s1 := s.send (m.frame seq page)
  { s1 with
    engine := { s1.engine with
      bandSeq := seq + 1
      bandRoom := s1.engine.bandRoom - 1
      handed := s1.engine.handed + 1
      alignment := m.marks.alignment s1.engine.alignment
      sent := s1.engine.sent ++
        [⟨seq, page, m.slot, m.isBand, m.row, m.count, m.marks, m.strobe, s.now, false, false⟩] }
    counts := { s1.counts with
      bandsSent := if m.isBand then satAdd s1.counts.bandsSent 1 else s1.counts.bandsSent } }

/-- Step 1 of R171: a first-of-page message gives slot `i` the page sequence counter, which rises by one. -/
def State.numberPage (s : State) (i : Fin 4) (m : Message) : State :=
  if m.marks.first then
    let q := s.engine.pageSeq
    let s1 := s.modSlot i fun sl => { sl with pageSeq := some q }
    { s1 with engine := { s1.engine with pageSeq := q + 1 } }
  else s

/-- The slot's entry after a message is taken (R133): advanced, or done when the message held its last row;
then the slot becomes COMPOSING or SENT (R102). A message that holds the last row with hold-after, offered before a
final close cleared the mark, leaves an entry of no rows, which the closing message ends (R131, R134; DEDUCED,
log 51). -/
def Slot.advanced (m : Message) (sl : Slot) : Slot :=
  match sl.entry with
  | none => sl
  | some e =>
    if e.last ≤ m.row + m.count then
      if m.marks.hold = true ∧ sl.mark = false then { sl with entry := some ⟨e.last, e.last⟩ }
      else { sl with entry := none, state := if sl.mark then .composing else .sent }
    else { sl with entry := some ⟨m.row + m.count, e.last⟩ }

/-- The Builder after a message of slot `i` is taken (R133). -/
def State.advanceBuilder (s : State) (i : Fin 4) (rest : List Message) : State :=
  match rest with
  | _ :: _ => { s with builder := { s.builder with offer := rest } }
  | [] =>
    match (s.slot i).entry with
    | some e => { s with builder := { s.builder with offer := [], state := .still, nextRow := e.first } }
    | none => { s with builder := { s.builder with offer := [], state := .still, slot := none } }

/-- The linger timer is loaded: a BAND or SLEW of a page slot has been handed over (R189). -/
def State.linger (s : State) : State := { s with panel := { s.panel with linger := some Config.lingerMs } }

/-- Take message `m` of slot `i`, with `rest` left in the offer (R133, R171). -/
def State.takeMessage (s : State) (m : Message) (i : Fin 4) (rest : List Message) : State :=
  let s1 := (s.alignFor m).numberPage i m
  let s2 := (s1.hand m ((s1.slot i).pageSeq.getD 0)).linger
  (s2.modSlot i (Slot.advanced m)).advanceBuilder i rest

/-- A message of the sent list resent: same band sequence number, band room taken, a BAND counted; it waits
no longer (R177). -/
def State.resend (s : State) (old : SentMsg) (m : Message) : State :=
  let s1 := s.send (m.frame old.seq old.pageSeq)
  let s2 := { s1 with
    engine := { s1.engine with
      bandRoom := s1.engine.bandRoom - 1
      handed := s1.engine.handed + 1
      alignment := m.marks.alignment s1.engine.alignment
      sent := s1.engine.sent.map fun e => if e.seq = old.seq then { e with sentAt := s.now, awaiting := false } else e }
    counts := { s1.counts with
      bandsSent := if m.isBand then satAdd s1.counts.bandsSent 1 else s1.counts.bandsSent } }
  if m.slot.isSome then s2.linger else s2

/-- Take the rebuilt band offered, if its message still waits (R171, R177). -/
def State.takeRebuilt (s : State) (r : RebuiltOffer) : State :=
  let s1 := match s.engine.sent.find? fun e => decide (e.seq = r.seq) with
    | some old => s.resend old r.message
    | none => s
  let b := { s1.builder with rebuilt := s1.builder.rebuilt.tail }
  { s1 with builder := { b with state := b.rest } }

/-- The Engine Controller takes one offered message when the leave stands and band room allows: a rebuilt
band first (R171, R177). -/
def State.handOver (s : State) : State :=
  if s.builder.state ≠ .offering then s
  else
    match s.builder.rebuilt, s.builder.offer with
    | r :: _, _ => if s.leaveButRefusal = true ∧ 1 ≤ s.engine.bandRoom then s.takeRebuilt r else s
    | [], m :: rest =>
      match m.slot with
      | some i => if s.leave = true ∧ s.canHand = true then s.takeMessage m i rest else s
      | none => s
    | [], [] => s

/-- The message a SLEW of the sent list is resent as (R177). -/
def SentMsg.slew (e : SentMsg) : Message :=
  { slot := e.slot, row := e.row, count := e.count, body := .slew, marks := e.marks, strobe := e.strobe }

/-- Resend refused SLEWs from the sent list while band room allows (R177). Of two that wait, the one handed over first
goes first, which R177 leaves open. DESIGN CHOICE, log 37. -/
def State.resendSlews : Nat → State → State
  | 0, s => s
  | fuel + 1, s =>
    match s.engine.sent.find? fun e => e.awaiting && !e.isBand with
    | some e => if 1 ≤ s.engine.bandRoom then (s.resend e e.slew).resendSlews fuel else s
    | none => s

/-! ## The line advance (R186) -/

/-- Rows of a LINE advance (R186). -/
def EngineController.advanceRows (e : EngineController) : Nat :=
  match e.mountedPitch with
  | some l => 300 / l
  | none => Config.bareAdvance

/-- Hand over one LINE advance: a SLEW with hold-after and the current page sequence counter (R186). -/
def State.sendAdvance (s : State) : State :=
  s.hand { slot := none, row := 0, count := s.engine.advanceRows, body := .slew, marks := ⟨false, false, true⟩
           strobe := none } s.engine.pageSeq

/-- A LINE advance: handed over, or owed for lack of room; while one is owed no second is added (R186). -/
def State.lineAdvance (s : State) : State :=
  if s.panel.lineOwed then s
  else if s.canHand then s.sendAdvance
  else { s with panel := { s.panel with lineOwed := true } }

/-- An owed advance at a STATUS that lets it be handed over: sent while the press is still allowed, else
dropped (R186). -/
def State.owedAdvance (s : State) : State :=
  if s.panel.lineOwed = true ∧ s.canHand = true then
    let s1 := { s with panel := { s.panel with lineOwed := false } }
    if s1.paperFree then s1.sendAdvance else s1
  else s

/-! ## Exits and refusals (R176, R177) -/

/-- The slot of a sent message still holds the page it was sent for: it is not FREE and keeps its page sequence
number. A LINE advance has no slot. -/
def State.live (s : State) (e : SentMsg) : Bool :=
  match e.slot with
  | some i => decide ((s.slot i).state ≠ .free ∧ (s.slot i).pageSeq = some e.pageSeq)
  | none => true

/-- A refused BAND whose slot has become FREE: its rebuild is not made (R137, R177). -/
def State.stale (s : State) (e : SentMsg) : Bool := e.awaiting && e.isBand && !s.live e

/-- Drop the refused BANDs whose slots have become FREE from the sent list, with their rebuilds (R137, R177). -/
def State.dropStale (s : State) : State :=
  if s.engine.sent.any s.stale then
    { s with engine := { s.engine with sent := s.engine.sent.filter fun e => !s.stale e } }.dropRebuild
  else s

/-- An exit of a page sequence number: its SENT slot and the older SENT slots are freed, oldest first. -/
def State.takeExit (s : State) (q : BitVec 8) : State :=
  match s.sentSlot q with
  | some i => ((s.exitNames i).foldl State.freeExited s).dropStale
  | none => s

/-- Mark a message of the sent list refused; it waits for its resend (R177). -/
def State.markRefused (s : State) (q : BitVec 16) : State :=
  { s with engine := { s.engine with
      sent := s.engine.sent.map fun e => if e.seq = q then { e with refused := true, awaiting := true } else e } }

/-- A message leaves the sent list. -/
def State.unsend (s : State) (q : BitVec 16) : State :=
  { s with engine := { s.engine with sent := s.engine.sent.filter fun e => e.seq ≠ q } }

/-- A refusal of a band sequence number (R177): counted; a first one of a BAND orders its rebuild at once (R137), or
drops the message where its slot has become FREE; a first one of a SLEW orders a resend; a second is a jam with HALT;
one that names no message is only counted. -/
def State.takeRefusal (s : State) (q : BitVec 16) : State :=
  let s1 := { s with counts := { s.counts with refusals := satAdd s.counts.refusals 1 } }
  match s.engine.sent.find? fun e => decide (e.seq = q) with
  | none => s1
  | some e =>
    if e.refused then s1.takeJam.sendHalt
    else if e.isBand = true ∧ s.live e = false then s1.unsend q
    else if e.isBand then (s1.markRefused q).orderRebuild e
    else s1.markRefused q

/-! ## STATUS (R168, R175) -/

/-- Step 1 and 2 of R175: the condition record, underruns, band room. -/
def State.takeCondition (s : State) (c : Condition) : State :=
  { s with
    counts := { s.counts with underruns := satAdd s.counts.underruns c.underruns }
    engine := { s.engine with cond := c, bandRoom := c.bandRoom - s.engine.handed, handed := 0 } }

/-- Step 3 of R175: accepted messages leave the sent list, and a rebuild of one of them is dropped. DESIGN CHOICE, log
57: in FILL_WAIT on that rebuild its lookup is given up, though R150 does not name the case. -/
def State.takeAcceptance (s : State) (q : BitVec 16) : State :=
  let s1 := { s with engine := { s.engine with sent := s.engine.sent.filter fun e => !seqAtOrBefore e.seq q } }
  if s.engine.sent.any fun e => e.awaiting && e.isBand && seqAtOrBefore e.seq q then s1.dropRebuild else s1

/-- Step 4 of R175: a latched jam in any state other than JAMMED and OFFLINE. -/
def State.statusJam (s : State) (c : Condition) : State :=
  if c.jam = true ∧ s.engine.state ≠ .jammed ∧ s.engine.state ≠ .offline then s.takeJam else s

/-- Step 5 of R175: not ready without a jam, in IDLE or FEEDING, holds at once (R173). -/
def State.statusNotReady (s : State) (c : Condition) : State :=
  if c.jam = false ∧ (c.notReadySeen || c.formsOut || c.coverOpen) = true ∧
      (s.engine.state = .idle ∨ s.engine.state = .feeding) then s.enterHeld .notReady
  else s

/-- Step 6 of R175: the last exit page seq is an exit when it differs from the one before (R176). -/
def State.statusExit (s : State) (c : Condition) : State :=
  let s1 := { s with engine := { s.engine with lastExit := some c.lastExit } }
  match s.engine.lastExit with
  | some p => if p ≠ c.lastExit then s1.takeExit c.lastExit else s1
  | none => s1

/-- Step 7 of R175: the oldest message unaccepted in the answer to a poll sent at least 20 ms after it (R177). -/
def State.lostRefusal (s : State) (answered : Bool) : State :=
  match s.engine.sent with
  | e :: _ =>
    if answered = true ∧ e.refused = false ∧ e.sentAt + Config.pollMs ≤ s.engine.pollAt then s.takeRefusal e.seq
    else s
  | [] => s

/-- The halt for a discard ends when a STATUS reports the engine not in motion: TOP, alignment SET (R180). -/
def State.statusHalt (s : State) (c : Condition) : State :=
  if s.engine.halting = true ∧ c.inMotion = false then
    let s1 := s.sendTop
    { s1 with engine := { s1.engine with halting := false } }
  else s

/-- A STATUS that arrives while the answer timer runs is the poll's answer (R167). -/
def State.answerPoll (s : State) : State :=
  if s.engine.answerTimer.isSome then { s with engine := { s.engine with answerTimer := none, missed := 0 } } else s

/-- The first poll answered in OFFLINE brings the engine back (R168). -/
def State.engineReturn (s : State) (c : Condition) : State :=
  let s1 := (s.takeCondition c).enterHeld .returned
  let s2 := (s1.raise offlineBit).sendHalt
  { s2 with engine := { s2.engine with bandRoom := c.bandRoom, lastExit := some c.lastExit } }

/-- A STATUS taken in the steps of R175; in OFFLINE it counts only as a poll's answer (R167, R168). DESIGN CHOICE,
log 53: an owed LINE advance (R186), which R175 does not place, is tested after all of its steps, and before a refused
SLEW or LINE advance is resent (R177): where the band room is for one message only, the owed advance takes it. It is
tested before the image gate is looked at after an exit (R176) or the end of a halt (R180). -/
def State.takeStatus (s : State) (c : Condition) : State :=
  let answered := s.engine.answerTimer.isSome
  let s1 := s.answerPoll
  if s.engine.state = .offline then
    if answered then s1.engineReturn c else s
  else
    let s2 := (s1.takeCondition c).takeAcceptance c.lastAccepted
    let s3 := (s2.statusJam c).statusNotReady c
    let s4 := (s3.statusExit c).lostRefusal answered
    (s4.statusHalt c).owedAdvance

/-! ## Frames received (R165) -/

/-- Add to the link errors (R165). -/
def State.linkErrors (s : State) (k : Nat) : State :=
  { s with counts := { s.counts with linkErrors := satAdd s.counts.linkErrors k } }

/-- The sequence of a frame taken: missed frames are counted, and the next is expected (R165). -/
def State.takeSequence (s : State) (q : BitVec 8) : State :=
  let s1 := match s.engine.expected with
    | some e => s.linkErrors (q - e).toNat
    | none => s
  { s1 with engine := { s1.engine with expected := some (q + 1) } }

/-- A frame received: discarded and counted when a check fails; taken by its kind otherwise. EXIT and REFUSED
in OFFLINE are discarded after the link checks (R167). During a device reset the block is stopped (log 11). -/
def State.receive (s : State) (f : RxFrame) : State :=
  if s.regs.resetBusy then s
  else if !f.passes then s.linkErrors 1
  else
    let s1 := s.takeSequence f.seq
    let w0 := payloadWord f.payload 0
    if f.kind = 8 then s1.takeStatus (conditionOf w0 (payloadWord f.payload 1))
    else if s1.engine.state = .offline then s1
    else if f.kind = 9 then s1.takeExit (BitVec.ofNat 8 w0.toNat)
    else s1.takeRefusal (BitVec.ofNat 16 w0.toNat)

/-! ## Holds, gate and START (R172 to R174, R178) -/

/-- An owed hold is entered at a band boundary (R173). The gate may have moved FEEDING to IDLE or FORMS_WAIT since it
fell due, when the last SENT slot has left while a rebuild was in hand: it is entered from there too (DEDUCED,
log 55). -/
def State.holdAtBoundary (s : State) : State :=
  if s.engine.state.gated = true ∧ s.atBoundary = true then
    match s.engine.holdOwed with
    | .operatorStop => s.enterHeld .operatorStop
    | .hostPause => s.enterHeld .hostPause
    | .none => s
  else s

/-- The image gate moves IDLE, FEEDING and FORMS_WAIT (R172); during a halt it waits (R180). While a hold is owed
the gate moves IDLE and FEEDING whatever RUN, since the hold follows at the band boundary (R4, R173; log 55). -/
def State.lookAtGate (s : State) : State :=
  if s.engine.state.gated = false ∨ s.engine.halting = true ∨ s.gate = s.engine.state then s
  else if s.engine.holdOwed ≠ .none ∧ s.engine.state ≠ .formsWait then s.moveGate
  else s.enterGate

/-- START in FORMS_WAIT mounts the head slot's stock (R174). -/
def State.mountHead (s : State) : State :=
  match s.head with
  | some i =>
    let c := (s.slot i).copy
    { s with engine := { s.engine with
        mountedStock := c.stock
        mountedLength := c.length
        mountedPitch := some c.pitch
        alignment := .unknown } }.enterGate
  | none => s

/-- START (R173, R174, R178): acted on with the engine ready in HELD but for HOST_PAUSE, in JAMMED and in
FORMS_WAIT. -/
def State.pressStart (s : State) : State :=
  if s.engine.cond.ready then
    match s.engine.state with
    | .held .hostPause => s
    | .held _ => s.enterGate
    | .jammed => s.enterGate
    | .formsWait => s.mountHead
    | _ => s
  else s

/-- STOP in FEEDING owes a hold (R173). -/
def State.pressStop (s : State) : State :=
  if s.engine.state = .feeding then { s with engine := { s.engine with holdOwed := .operatorStop } } else s

end Sys2Proof.Machine
end

