-- ==== Sys2Proof/Machine/Compose.lean ====
section
/-! DEFINITION. The Composer and the job side of the Stream Controller: records at take (R30 to R32), carriage
movements and page turns (R49 to R60), strikes (R61 to R65), waits (R66, R67), jobs (R36 to R40), faults (R41
to R43, R68), the flush timer (R69, R70), the grant (R35), discards (R44, R45). -/

namespace Sys2Proof.Machine

/-! ## The record at take (R30, R31) -/

/-- What stands at take: nothing the Composer can act on yet, a record that fails the first four checks of R31
(with the kind its first byte names), or a record wholly in the read buffer. -/
inductive AtTake where
  | absent
  | bad (k : RecordKind)
  | whole (h : RecordHeader)
  deriving DecidableEq, Repr

/-- Look at the bytes in hand at take. A header that lies across the ring end makes a record that reaches past
it; a record whose length reaches past fill is not yet present (R30). DEDUCED, log 17. -/
def StreamRec.atTake (r : StreamRec) (bytes : List Byte) : AtTake :=
  let room := r.ringSize - r.take
  let h := recordHeader bytes
  if room < 8 then
    if 8 ≤ r.span ∧ room ≤ bytes.length then .bad h.kind else .absent
  else if r.span < 8 ∨ bytes.length < 8 then .absent
  else if room < h.length then .bad h.kind
  else if r.span < h.length then .absent
  else if !h.sound then .bad h.kind
  else if bytes.length < h.length then .absent
  else .whole h

/-! ## Ownership (R25, R29, R35, R38, R41, R48) -/

/-- A load in progress is abandoned: the Form Unit becomes EMPTY and the Form Loader's request is withdrawn
(R77, R95, R163). -/
def State.abandonLoad (s : State) : State :=
  match s.form with
  | .loading _ => { s with form := .empty }.dropReads TransferKind.isForm
  | _ => s

/-- The ACTIVE stream `n` gives up ownership and takes state `st`: the Composer returns to NO_OWNER, the flush
timer stops, the read buffer is emptied (R29, R48). A PENDING ring read of it is withdrawn, which R153 allows and R163
says for CANCEL and RESET alone. DESIGN CHOICE, log 59. -/
def State.giveUp (s : State) (n : Fin 8) (st : StreamState) : State :=
  ({ s with
      comp := Composer.initial
      sc := { s.sc with buffer := [], readFailed := false } }.dropReads (TransferKind.isRing n)).enterState n st

/-- The Job Queue grants ownership to its head when no stream is ACTIVE and RUN is 1 (R35). -/
def State.grant (s : State) : State :=
  match s.owner, s.sc.queue with
  | none, n :: rest =>
    if s.regs.run then
      { { s with sc := { s.sc with queue := rest } }.modStream n fun r => { r with state := .active, rush := false } with
        comp := { Composer.initial with state := .ready } }
    else s
  | _, _ => s

/-- A stream that ends a job, a discard or a cancel: QUEUED and in the Job Queue when fill differs from take,
IDLE otherwise (R34, R38, R45). -/
def State.requeue (s : State) (n : Fin 8) : State :=
  if (s.stream n).fill ≠ (s.stream n).take then (s.enterState n .queued).enqueue n else s.enterState n .idle

/-! ## The cursor, the flush timer and take (R60, R69) -/

/-- Place the cursor; the stream record shows it (R59). -/
def State.setCursor (s : State) (n : Fin 8) (line : Nat) : State :=
  { s with comp := { s.comp with cursor := some line } }.modStream n fun r => { r with cursorLine := line }

/-- The flush timer as it is loaded at an entry to AT_FILL: stopped for an interval of 0, and not running down
while RUN is 0 (R4, R69). -/
def State.loadedFlush (s : State) (n : Fin 8) : FlushTimer :=
  let secs := (s.stream n).flushSecs
  if secs = 0 then .stopped else if s.regs.run then .running (secs * 1000) else .paused (secs * 1000)

/-- Change the composing page's slot, if there is one. -/
def State.modComposing (s : State) (f : Slot → Slot) : State :=
  match s.composing with
  | some i => s.modSlot i f
  | none => s

/-- Take stands at `take` after one record more: the composing slot's release offset follows (R30, R114). -/
def State.takeTo (s : State) (n : Fin 8) (take : Nat) : State :=
  (s.modStream n fun r => { r with take := take, recordsTaken := satAdd r.recordsTaken 1 }).modComposing
    fun sl => { sl with releaseOff := take }

/-- Take advances past a record of `len` bytes, which leave the read buffer (R29, R30). -/
def State.advanceTake (s : State) (n : Fin 8) (len : Nat) : State :=
  let s1 := s.takeTo n ((s.stream n).after len)
  { s1 with sc := { s1.sc with buffer := s1.sc.buffer.drop len } }

/-- After a record: AT_FILL with the flush timer loaded when take has reached fill (R69), READY otherwise. With
no composing page, take at fill gives ownership up (R36). -/
def State.afterTake (s : State) (n : Fin 8) : State :=
  if (s.stream n).fill = (s.stream n).take then
    if s.composing.isSome then
      { s with comp := { s.comp with state := .atFill, flush := s.loadedFlush n } }
    else s.giveUp n .idle
  else { s with comp := { s.comp with state := .ready } }

/-! ## Page turns (R58, R66) -/

/-- The Composer enters WAIT_SLOT with what it holds (R66). -/
def State.waitSlot (s : State) (p : PendingOpen) : State :=
  { s with comp := { s.comp with state := .waitSlot, cursor := some p.line, waiting := some p } }

/-- Open slot `i` for the next page of the job in progress (R58, R59). -/
def State.openNext (s : State) (i : Fin 4) (n : Fin 8) (number : Nat) : State :=
  s.openAt i n ((s.comp.job.map (·.tag)).getD 0) number false

/-- Turn `turns` pages, the cursor ending on `line`; `rest` is what the record has still to do after that. The
stream record shows the cursor of the last page only; while a turn between two pages waits for a slot it shows the
page number of the page opened last beside the cursor line from before the first turn (DESIGN CHOICE, log 33). -/
def State.turnPages (n : Fin 8) (line : Nat) (rest : RecordRest) : Nat → State → State
  | 0, s => s.setCursor n line
  | k + 1, s =>
    match s.composing with
    | none => s
    | some i =>
      let number := ((s.slot i).pageNo + 1) % Config.pageNumbers
      let s1 := s.closeFinal i none
      match s1.freeSlot with
      | some j => State.turnPages n line rest k (s1.openNext j n number)
      | none => s1.waitSlot ⟨line, k, number, rest⟩

/-- A carriage movement (R51 to R56). -/
def State.moveCarriage (s : State) (n : Fin 8) (c : Carriage) (rest : RecordRest) : State :=
  let m := s.loadedForm.move (s.comp.cursor.getD 1) c
  s.turnPages n m.2 rest m.1

/-! ## Strikes (R61 to R65) -/

/-- The Composer is waiting in the middle of a record. -/
def Composer.waits (c : Composer) : Bool := decide (c.state = .waitSlot ∨ c.state = .waitStrike)

/-- The strikes of a slot on one line. -/
def Slot.strikesOn (sl : Slot) (line : Nat) : Nat := sl.strikes.countP fun k => k.line = line

/-- The strike a LINE record places (R61): its text cut to the form's print positions. -/
def Slot.newStrike (sl : Slot) (h : RecordHeader) (line positions : Nat) (codes : List Byte) : Strike where
  line := line
  place := sl.strikesOn line + 1
  seq := sl.seqCount + 1
  typeface := h.typeface
  keyed := h.keyed
  template := h.template
  codes := codes.take positions
  glyphs := none

/-- Step 4 of R63: the strike is placed, an entry of the pool is taken, overrun codes are counted (R62). -/
def State.placeStrike (s : State) (n : Fin 8) (i : Fin 4) (h : RecordHeader) (line : Nat) : State :=
  let positions := s.loadedForm.positions
  let s1 := s.modSlot i fun sl =>
    { sl with
      strikes := sl.strikes ++ [sl.newStrike h line positions (lineCodes h s.sc.buffer)]
      seqCount := sl.seqCount + 1 }
  { s1 with store := { s1.store with poolUsed := s1.store.poolUsed + 1 } }.modStream n fun r =>
    { r with overrun := satAdd r.overrun (h.textCount - positions) }

/-- The four tests of R63 for a LINE's text on the cursor line. -/
def State.offerStrike (s : State) (n : Fin 8) (i : Fin 4) (h : RecordHeader) : State :=
  let line := s.comp.cursor.getD 1
  let sl := s.slot i
  if sl.copy.top line < sl.split then s.modStream n fun r => { r with late := satAdd r.late 1 }
  else if Config.lineStrikes ≤ sl.strikesOn line then s.modStream n fun r => { r with excess := satAdd r.excess 1 }
  else if Config.poolSize ≤ s.store.poolUsed then { s with comp := { s.comp with state := .waitStrike } }
  else s.placeStrike n i h line

/-! ## The LINE record (R49) -/

/-- A LINE whose action is done: take advances past it. -/
def State.finishLine (s : State) (n : Fin 8) (h : RecordHeader) : State := (s.advanceTake n h.length).afterTake n

/-- Step 3 of R49. -/
def State.lineAfter (s : State) (n : Fin 8) (h : RecordHeader) : State :=
  match carriageOf h.after with
  | some c =>
    let s1 := s.moveCarriage n c .nothing
    if s1.comp.waits then s1 else s1.finishLine n h
  | none => s

/-- Steps 2 and 3 of R49. -/
def State.lineStrike (s : State) (n : Fin 8) (h : RecordHeader) : State :=
  match s.composing with
  | none => s
  | some i =>
    let s1 := if h.textCount = 0 then s else s.offerStrike n i h
    if s1.comp.waits then s1 else s1.lineAfter n h

/-- Steps 1 to 3 of R49. -/
def State.lineBody (s : State) (n : Fin 8) (h : RecordHeader) (before : Carriage) : State :=
  let s1 := s.moveCarriage n before .strikeAndAfter
  if s1.comp.waits then s1 else s1.lineStrike n h

/-! ## Faults (R41, R42, R68) -/

/-- A page that END and a fault release unused: no strike, and the cursor at line 1 (R38, R41). -/
def State.pageEmpty (s : State) (i : Fin 4) : Bool :=
  (s.slot i).strikes.isEmpty && decide (s.comp.cursor.getD 1 = 1)

/-- Close the composing page as the last of its job, or release it unused (R38, R41). -/
def State.endPage (s : State) (i : Fin 4) (e : JobEnd) : State :=
  if s.pageEmpty i then s.releaseUnused i (some e) else s.closeFinal i (some e)

/-- With no JOB taken the fault stands at a JOB record: the first byte in hand at take names one, and the fault is
not the fill pointer's (R41). -/
def State.atJobRecord (s : State) (c : FaultCode) : Bool :=
  decide (c ≠ .badFill ∧ s.sc.buffer ≠ [] ∧ recordKind (byteAt s.sc.buffer 0) = .job)

/-- The tag of the JOB record at take: its bytes where they are in hand below fill and the ring end, else a free
value (log 48). -/
def State.untakenTag (s : State) (n : Fin 8) : Word32 :=
  let r := s.stream n
  if 16 ≤ s.sc.buffer.length ∧ 16 ≤ r.span ∧ 16 ≤ r.ringSize - r.take then jobTagOf s.sc.buffer
  else Config.unreadTag n s.unreadTags

/-- The FAULTED report of a JOB that fails R31 or cannot be read (R41, step 4). -/
def State.reportUntakenJob (s : State) (n : Fin 8) : State :=
  { s.modStream n fun r => { r with reports := r.reports ++ [⟨s.untakenTag n, .faulted, true, 0⟩] } with
    unreadTags := s.unreadTags + 1 }

/-- The page side of a fault (R41, R68): the composing page, or in WAIT_SLOT at a turn the page closed in it,
ends the job; a job with no page reports at once behind the reports owed. With no JOB taken only a fault at a JOB
record has a job to name (log 22). -/
def State.faultPage (s : State) (n : Fin 8) (c : FaultCode) : State :=
  match s.comp.job with
  | none => if s.atJobRecord c then s.reportUntakenJob n else s
  | some j =>
    let e : JobEnd := ⟨j.tag, .faulted⟩
    if j.started then
      let s1 := match s.composing with
        | some i => s.endPage i e
        | none =>
          match s.newestSlot n none with
          | some k => s.modSlot k fun sl => { sl with jobEnds := sl.jobEnds ++ [e] }
          | none => s.reportsFall n [e]
      s1.modStream n fun r => { r with reports := settleJob .faulted r.reports }
    else s.modStream n fun r => { r with reports := r.reports ++ [⟨j.tag, .faulted, true, 0⟩] }

/-- A fault of the ACTIVE stream (R41). -/
def State.faultActive (s : State) (n : Fin 8) (c : FaultCode) : State :=
  ((s.abandonLoad.faultPage n c).modStream n fun r => { r with fault := c }).giveUp n .faulted

/-- The record held for stream `n` is dropped. -/
def State.dropHeld (s : State) (n : Fin 8) : State :=
  { s with sc := { s.sc with held := s.sc.held.filter fun h => h.stream ≠ n } }

/-- A fault of a stream that is not ACTIVE (R42); a PENDING read of its discard is withdrawn. DESIGN CHOICE, log 59. -/
def State.faultInactive (s : State) (n : Fin 8) (c : FaultCode) : State :=
  ((((s.dequeue n).dropHeld n).dropReads (TransferKind.isRing n)).modStream n fun r =>
    { r with fault := c, discardStalled := false }).enterState n .faulted

/-- MEM_READ falls where the Composer comes to the first record whose bytes a failed read was to bring (R43). A record
whose first 8 bytes are in hand and fail R31 is a bad record, also where the failed read was to bring its later bytes:
R31 and R43 do not say which fault wins. DESIGN CHOICE, log 19. -/
def State.needsFailed (s : State) (n : Fin 8) : Bool :=
  let r := s.stream n
  let b := s.sc.buffer
  s.regs.run && decide (s.comp.state = .ready) && s.sc.readFailed && decide (8 ≤ r.span) &&
    decide (r.atTake b = .absent) &&
    (decide (b.length < 8) || decide ((recordHeader b).length ≤ r.span))

/-- The MEM_READ fault of the ACTIVE stream, when it falls. -/
def State.memReadFault (s : State) : State :=
  match s.owner with
  | some n => if s.needsFailed n then s.faultActive n .memRead else s
  | none => s

/-! ## Taking a record -/

/-- The Composer takes the record at take when it is of kind `k` (R30). A record that fails the first four checks
of R31 faults the stream under the row of the kind it names, or under any row when it names none (log 17). -/
def State.takeRecord (s : State) (k : RecordKind) (act : Fin 8 → RecordHeader → State) : State :=
  match s.owner with
  | none => s
  | some n =>
    if s.regs.run = true ∧ s.comp.state = .ready then
      match (s.stream n).atTake s.sc.buffer with
      | .absent => s
      | .bad k' => if k' = k ∨ k' = .unknown then s.faultActive n .badRecord else s
      | .whole h => if h.kind = k then act n h else s
    else s

/-- A job is in progress (R31). -/
def Composer.jobInProgress (c : Composer) : Bool :=
  match c.job with
  | some j => j.started
  | none => false

/-- A LINE record: the checks of R31 and R55, then R49. -/
def State.takeLine (s : State) (n : Fin 8) (h : RecordHeader) : State :=
  if s.comp.jobInProgress then
    match carriageOf h.before, carriageOf h.after with
    | some b, some a =>
      if s.loadedForm.hasStop b && s.loadedForm.hasStop a then s.lineBody n h b else s.faultActive n .missingStop
    | _, _ => s.faultActive n .badCarriage
  else s.faultActive n .noJob

/-- A JOB record: LOADING_FORM, and step 1 and 2 of R76. -/
def State.takeJob (s : State) (n : Fin 8) : State :=
  if s.comp.jobInProgress then s.faultActive n .badRecord
  else
    let j := jobOf s.sc.buffer
    let s1 := { s with form := .empty, comp := { s.comp with state := .loadingForm, job := some j } }
    if s.sc.formCount ≤ j.form then s1.faultActive n .badForm
    else { s1 with form := .loading ⟨j.form, .recordLow, [], [], []⟩ }

/-- An END record (R38). -/
def State.takeEnd (s : State) (n : Fin 8) (h : RecordHeader) : State :=
  if s.comp.jobInProgress then
    let e : JobEnd := ⟨(s.comp.job.map (·.tag)).getD 0, .done⟩
    let s1 := s.advanceTake n h.length
    let s2 := match s1.composing with
      | some i => s1.endPage i e
      | none => s1
    let s3 := s2.modStream n fun r => { r with reports := settleJob .done r.reports }
    if (s3.stream n).fill ≠ (s3.stream n).take then (s3.giveUp n .queued).enqueue n else s3.giveUp n .idle
  else s.faultActive n .noJob

/-- A MARK record (R40, R114). -/
def State.takeMark (s : State) (n : Fin 8) (h : RecordHeader) : State :=
  if s.comp.jobInProgress then
    ((s.advanceTake n h.length).modComposing fun sl => { sl with markTag := some (shortTag s.sc.buffer) }).afterTake n
  else s.faultActive n .noJob

/-- A WRAP record (R32): take becomes 0, and what was read between it and the ring end is dropped (log 18). -/
def State.takeWrap (s : State) (n : Fin 8) : State :=
  let gone := (s.stream n).ringSize - (s.stream n).take
  let s1 := s.takeTo n 0
  let s2 :=
    if s1.sc.buffer.length < gone then
      { s1 with sc := { s1.sc with buffer := [], readFailed := false } }.dropReads (TransferKind.isRing n)
    else { s1 with sc := { s1.sc with buffer := s1.sc.buffer.drop gone } }
  s2.afterTake n

/-! ## Opening a job (R37) and the end of a wait (R66, R67) -/

/-- The job's first page opens in slot `i`: the job is in progress, its report entry is kept from here (log 20),
and take advances past the JOB. -/
def State.startJob (s : State) (i : Fin 4) (n : Fin 8) (j : JobInfo) : State :=
  let s1 := s.openAt i n j.tag (j.firstPage % Config.pageNumbers) true
  let s2 := { s1 with comp := { s1.comp with job := some { j with started := true }, waiting := none } }
  let s3 := (s2.setCursor n 1).modStream n fun r => { r with reports := r.reports ++ [⟨j.tag, .noneYet, false, 0⟩] }
  (s3.advanceTake n 16).afterTake n

/-- Ask for the slot of an accepted JOB's first page, or wait for it (R48, R66). -/
def State.openJob (s : State) (n : Fin 8) : State :=
  match s.comp.job with
  | none => s
  | some j =>
    match s.freeSlot with
    | some i => s.startJob i n j
    | none => s.waitSlot ⟨1, 0, j.firstPage % Config.pageNumbers, .openJob⟩

/-- The record goes on after a slot has opened at a turn. -/
def State.resumeRecord (s : State) (n : Fin 8) (rest : RecordRest) : State :=
  let h := recordHeader s.sc.buffer
  match rest with
  | .openJob => s
  | .strikeAndAfter => s.lineStrike n h
  | .nothing => s.finishLine n h

/-- The Composer goes on where a wait ends (R65 to R67). -/
def State.resumeWait (s : State) : State :=
  match s.owner with
  | none => s
  | some n =>
    match s.comp.state, s.comp.waiting with
    | .waitSlot, some p =>
      match s.freeSlot with
      | none => s
      | some i =>
        match p.rest with
        | .openJob => s.openJob n
        | rest =>
          let s1 := { s with comp := { s.comp with state := .ready, waiting := none } }.openNext i n p.pageNo
          let s2 := s1.turnPages n p.line rest p.turns
          if s2.comp.waits then s2 else s2.resumeRecord n rest
    | .waitStrike, _ =>
      if s.store.poolUsed < Config.poolSize then
        { s with comp := { s.comp with state := .ready } }.lineStrike n (recordHeader s.sc.buffer)
      else s
    | _, _ => s

/-! ## The flush timer's expiry (R70) -/

/-- The flush timer has expired: a FLUSH close when the composing page holds an unsent strike. -/
def State.flushExpired (s : State) : State :=
  let s1 := { s with comp := { s.comp with flush := .expired } }
  match s1.composing with
  | some i => if (s1.slot i).unsent then s1.closeFlush i else s1
  | none => s1

/-! ## Discards (R44, R45) -/

/-- The stream is discarding and may skip records: its discard flag is set, it is IDLE or QUEUED, and RUN is 1. -/
def State.discarding (s : State) (n : Fin 8) : Bool :=
  (s.stream n).discard && s.regs.run && decide ((s.stream n).state = .idle ∨ (s.stream n).state = .queued)

/-- The discard ends at an END of tag `tag` (R45). -/
def State.endDiscard (s : State) (n : Fin 8) (tag : Word32) : State :=
  (s.modStream n fun r =>
    { r with
      discard := false
      discardReports := false
      discardTag := none
      reports := if r.discardReports then r.reports ++ [⟨r.discardTag.getD tag, .cancelled, true, 0⟩] else r.reports }).requeue n

/-- Skip the record at take: take and release move together (R44). The stream's pages stand behind it, and their
exits do not bring release back (R33; log 39). -/
def State.skipRecord (s : State) (n : Fin 8) (h : RecordHeader) (b : List Byte) : State :=
  let next := if h.kind = .wrap then 0 else (s.stream n).after h.length
  let s1 := (s.dropHeld n).modStream n fun r =>
    { r with
      take := next
      release := next
      heldExits := (s.slotsOf n).length
      discardTag := if h.kind = .job then some (jobTagOf b) else r.discardTag }
  if h.kind = .endJob then s1.endDiscard n (shortTag b)
  else if (s1.stream n).fill = next ∧ (s1.stream n).state = .queued then s1.enterState n .idle
  else s1

/-- Bytes of a record that its skipping looks at: a tag for JOB and END, the header for the others. -/
def RecordHeader.skipBytes (h : RecordHeader) : Nat :=
  match h.kind with
  | .job => 16
  | .endJob => 12
  | _ => 8

/-- The record held for a discarding stream is checked and skipped (R44). One whose length reaches past fill
waits for a scan to move fill. -/
def State.discardHeld (s : State) (d : HeldRecord) : State :=
  let n := d.stream
  let r := s.stream n
  let h := recordHeader d.bytes
  if s.discarding n then
    if d.bytes.length < min 8 (r.ringSize - r.take) then s.dropHeld n
    else
      match r.atTake (d.bytes ++ List.replicate h.length 0) with
      | .bad _ => s.faultInactive n .badRecord
      | .absent => (s.dropHeld n).modStream n fun r => { r with discardStalled := true }
      | .whole h => if d.bytes.length < h.skipBytes then s.dropHeld n else s.skipRecord n h d.bytes
  else s

/-- The DISCARD_RECORD row: the record held is acted on. -/
def State.discardRecord (s : State) : State :=
  match s.sc.held with
  | some d => s.discardHeld d
  | none => s

/-- A discard begins at take (R24, R25, R44). -/
def State.beginDiscard (s : State) (n : Fin 8) (reports : Bool) : State :=
  s.modStream n fun r =>
    { r with discard := true, discardReports := reports, discardTag := none, discardStalled := false }

/-! ## Job reports (R39, R161) -/

/-- A descriptor write of stream `n` that carries a job report is waiting or on its way. -/
def StatusWriter.reporting (w : StatusWriter) (n : Fin 8) : Bool :=
  (w.waiting ++ w.issued.toList).any fun o => decide (o.kind = .descriptor n) && o.report

/-- The head of the report list `old` is no report that is due: a report due at the head of the list that has become of
it has fallen due since (R39). -/
def noneDue (old : List Report) : Bool :=
  match old with
  | p :: _ => !p.due
  | [] => true

/-- A descriptor write of stream `n` waits that carries no job report. -/
def StatusWriter.roomForReport (w : StatusWriter) (n : Fin 8) : Bool :=
  w.waiting.any fun o => decide (o.kind = .descriptor n) && !o.report

/-- A report due at the head of the list is made: the record shows it, and a descriptor write of its own carries it and
owes STREAMn. With a report's write on its way or waiting it stays in the list, but that one which falls due now, after
`old`, goes into a waiting write that carries none (R161). -/
def State.makeReport (old s : State) (n : Fin 8) : State :=
  match (s.stream n).reports with
  | p :: rest =>
    if p.due && (!s.writer.reporting n || (s.writer.roomForReport n && noneDue (old.stream n).reports)) then
      (s.modStream n fun r =>
        { r with jobTag := p.tag, jobOutcome := p.outcome, jobPages := p.pages, reports := rest }).ask
        ⟨.descriptor n, true, true, false⟩
    else s
  | [] => s

end Sys2Proof.Machine
end

