-- ==== Sys2Proof/Machine/Scan.lean ====
section
/-! DEFINITION. Scans (R6 to R10), the sweep timer, the fill pointer check (R28), and the requests (R21 to R27). -/

namespace Sys2Proof.Machine

/-! ## The scan and the sweep timer (R8, R9) -/

/-- What the sweep timer is loaded with: it runs while RUN is 1, the part has an area, the interval is not 0 and
no scan is in progress (R9). -/
def State.sweepLoad (s : State) : Option Nat :=
  if s.regs.run = true ∧ s.hasArea = true ∧ s.regs.sweepInterval ≠ 0 ∧ s.sc.scan = .noScan then
    some (s.regs.sweepInterval.toNat * 10)
  else none

/-- Load the sweep timer, or stop it (R9). -/
def State.reloadSweep (s : State) : State := { s with regs := { s.regs with sweepTimer := s.sweepLoad } }

/-- A scan begins with the area header read (R7); the sweep timer stops for its duration. -/
def State.beginScan (s : State) : State :=
  { s with
    sc := { s.sc with scan := .scanning, phase := .header, cut := false, moved := false }
    regs := { s.regs with sweepTimer := none } }

/-- A scan trigger (R8); while RUN is 0 or the part has no area it is ignored. -/
def State.trigger (s : State) : State :=
  if s.regs.run = true ∧ s.hasArea = true then
    match s.sc.scan with
    | .noScan => s.beginScan
    | .scanning => { s with sc := { s.sc with scan := .scanningOwed } }
    | .scanningOwed => s
  else s

/-- The scan ends: an owed scan begins at once, or the sweep timer is loaded (R8, R9). While RUN is 0 no scan
begins (R4). -/
def State.finishScan (s : State) : State :=
  let s1 := { s with sc := { s.sc with phase := .none, cut := false } }
  if s.sc.scan = .scanningOwed ∧ s.regs.run = true then s1.beginScan
  else { s1 with sc := { s1.sc with scan := .noScan } }.reloadSweep

/-- The end of a scan whose header read completed: the first after power-on, a device reset or a failing header
asks for the device record write owed (R7, R10). -/
def State.endScan (s : State) : State :=
  let s1 := if s.sc.recordOwed then { s with sc := { s.sc with recordOwed := false } }.askRecord else s
  s1.finishScan

/-- After the last descriptor: the directory read when one is owed (R6), else the end. -/
def State.scanTail (s : State) : State :=
  if s.sc.dirOwed then { s with sc := { s.sc with phase := .directory } } else s.endScan

/-- After descriptor `n` the scan goes on to the next, unless RUN 0 has cut it short (R4, R7). -/
def State.scanAfter (s : State) (n : Fin 8) : State :=
  if s.sc.cut then s.finishScan
  else if h : n.val + 1 < 8 then
    if n.val + 1 < s.sc.streamCount then { s with sc := { s.sc with phase := .descriptor ⟨n.val + 1, h⟩ } }
    else s.scanTail
  else s.scanTail

/-- A read of the scan has been asked for and has not ended: it is PENDING or on the bus. -/
def State.scanIssued (s : State) : Bool :=
  (match s.mtu.reader with
    | .pending r => r.kind.isScan
    | _ => false) ||
    match s.mtu.inFlight with
    | some t => t.wanted && t.request.kind.isScan
    | none => false

/-- A scan in progress meets RUN 0 (R4, log 12): a read already asked for ends as usual (R163), a descriptor being
acted on is finished, and the scan ends there; with neither it ends at once. A scan owed is dropped. -/
def State.cutScan (s : State) : State :=
  let s1 := { s with regs := { s.regs with sweepTimer := none } }
  let last := { s1 with sc := { s1.sc with scan := .scanning, cut := true } }
  match s.sc.phase with
  | .none => { s1 with sc := { s1.sc with scan := .noScan } }
  | .openRead _ _ | .request _ _ _ _ | .acting _ _ => last
  | .header | .descriptor _ | .directory =>
    if s.scanIssued then last else { s1 with sc := { s1.sc with scan := .noScan, phase := .none, cut := false } }

/-! ## The area header (R6) -/

/-- The lamp function in bits 4k to 4k + 3 of the panel word. -/
def lampAt (word k : Nat) : LampFunction := lampFunction (word / 16 ^ k % 16)

/-- The scan goes on after its header: with descriptor 0, unless RUN 0 has cut it short (R4, R7). -/
def State.afterHeader (s : State) : State :=
  if s.sc.cut then s.finishScan else { s with sc := { s.sc with phase := .descriptor 0 } }

/-- What a completed area header read sets (R6). -/
def State.storeHeader (s : State) (b : List Byte) : State :=
  { s with
    sc := { s.sc with
      streamCount := clampCount 8 (byteAt b 0)
      formCount := clampCount 16 (byteAt b 1)
      fontCount := clampCount 4 (byteAt b 2)
      firstPage := BitVec.ofNat 8 (byteAt b 3) }
    panel := { s.panel with lamps :=
      #v[lampAt (le16 b 4) 0, lampAt (le16 b 4) 1, lampAt (le16 b 4) 2, lampAt (le16 b 4) 3] } }

/-- A completed area header read is taken, and the scan goes on (R6, R7). -/
def State.takeHeader (s : State) (b : List Byte) : State := (s.storeHeader b).afterHeader

/-! ## The fill pointer (R28) and the flush interval (R71) -/

/-- A fill pointer is bad (R28): unaligned, not below the ring size, or from release up to take. -/
def StreamRec.badFill (r : StreamRec) (p : Nat) : Bool :=
  decide (p % 4 ≠ 0 ∨ r.ringSize ≤ p ∨ forward r.ringSize r.release p < forward r.ringSize r.release r.take)

/-- A good fill pointer taken into stream `n` (R28). DESIGN CHOICE, log 50, for one that comes back to take: an ACTIVE
stream whose Composer is READY stays READY with the flush timer as it is (R69 against R30, R47), and a QUEUED
discarding stream stays QUEUED (R28 against R44). -/
def State.takeFill (s : State) (n : Fin 8) (p : Nat) : State :=
  let r := s.stream n
  let s1 := s.modStream n fun r =>
    { r with fill := p, discardStalled := r.discardStalled && decide (p = r.fill) }
  match r.state with
  | .idle =>
    if p = r.take then s1
    else if r.discard then s1.enterState n .queued
    else (s1.enterState n .queued).enqueue n
  | .active =>
    if s.comp.state = .atFill ∧ p ≠ r.take then { s1 with comp := { s1.comp with state := .ready, flush := .stopped } }
    else s1
  | _ => s1

/-- The fill pointer read is checked and taken in IDLE, QUEUED and ACTIVE (R28). -/
def State.checkFill (s : State) (n : Fin 8) (p : Nat) : State :=
  match (s.stream n).state with
  | .closed => s
  | .faulted => s
  | .active => if (s.stream n).badFill p then s.faultActive n .badFill else s.takeFill n p
  | _ => if (s.stream n).badFill p then s.faultInactive n .badFill else s.takeFill n p

/-- The flush interval is taken; 0 stops the ACTIVE stream's timer at once (R71). -/
def State.takeInterval (s : State) (n : Fin 8) (secs : Nat) : State :=
  let s1 := s.modStream n fun r => { r with flushSecs := secs }
  if secs = 0 ∧ (s1.stream n).state = .active then
    match s1.comp.flush with
    | .expired => s1
    | _ => { s1 with comp := { s1.comp with flush := .stopped } }
  else s1

/-- What a descriptor read brought is taken once its request has been acted on (R7). -/
def State.takeFields (s : State) (n : Fin 8) (t : Taken) : State := (s.checkFill n t.fill).takeInterval n t.flush

/-- A descriptor read has brought its 8 bytes (R7, R21): with clear owed the request field write is made again;
NONE lets the fields be taken at once; OPEN needs its ring read; the rest wait to be acted on. -/
def State.takeDescriptor (s : State) (n : Fin 8) (b : List Byte) : State :=
  let t := takenOf b
  if (s.stream n).clearOwed then
    { s with sc := { s.sc with phase := .acting n t } }.ask ⟨.requestField n, false, false, false⟩
  else
    match t.code with
    | .none => (s.takeFields n t).scanAfter n
    | .openRing => { s with sc := { s.sc with phase := .openRead n t } }
    | _ => { s with sc := { s.sc with phase := .request n t 0 0 } }

/-- An OPEN's second read has brought the ring base and size (R7, R154). -/
def State.takeRing (s : State) (n : Fin 8) (b : List Byte) : State :=
  match s.sc.phase with
  | .openRead _ t => { s with sc := { s.sc with phase := .request n t (BitVec.ofNat 32 (le32 b 0)) (le32 b 4) } }
  | _ => s

/-- The action of a request has ended (R7, R21). -/
def State.actionEnds (s : State) : State :=
  match s.sc.phase with
  | .acting n t => (s.takeFields n t).scanAfter n
  | _ => s

/-! ## Requests (R21) -/

/-- The result of a request: shown by a descriptor write, which the request field write follows (R21). -/
def State.answer (s : State) (n : Fin 8) (t : Taken) (r : RequestResult) : State :=
  let s1 := (s.modStream n fun rec => { rec with result := r }).ask ⟨.descriptor n, false, false, true⟩
  { s1 with sc := { s1.sc with phase := .acting n t } }

/-- Act on the request that waits, when it is of code `c`. -/
def State.onRequest (s : State) (c : RequestCode) (act : Fin 8 → Taken → State) : State :=
  match s.sc.phase with
  | .request n t _ _ => if t.code = c then act n t else s
  | _ => s

/-! ### OPEN (R22) -/

/-- The ring of an OPEN checks out (R22). -/
def ringFits (base : Word32) (size fill : Nat) : Bool :=
  decide (base.toNat % 4 = 0 ∧ size % 256 = 0 ∧ 1024 ≤ size ∧ size ≤ 1048576 ∧ fill % 4 = 0 ∧ fill < size)

/-- The stream record an accepted OPEN makes, before its state (R22). -/
def StreamRec.opened (r : StreamRec) (base : Word32) (size fill : Nat) : StreamRec :=
  { StreamRec.initial with
    state := r.state
    ringBase := base
    ringSize := size
    fill := fill
    result := r.result
    flushSecs := r.flushSecs }

/-- OPEN accepted: the record is cleared and the stream becomes IDLE or QUEUED. -/
def State.openStream (s : State) (n : Fin 8) (base : Word32) (size fill : Nat) : State :=
  (s.modStream n fun r => r.opened base size fill).requeue n

/-- The stream has a page in the Page Store. -/
def State.hasPage (s : State) (n : Fin 8) : Bool := !(s.slotsOf n).isEmpty

/-- OPEN (R22). -/
def State.doOpen (s : State) (n : Fin 8) (t : Taken) (base : Word32) (size : Nat) : State :=
  if (s.stream n).state ≠ .closed then s.answer n t .refusedState
  else if !ringFits base size t.fill then s.answer n t .badRing
  else if s.hasPage n then s.answer n t .refusedState
  else (s.openStream n base size t.fill).answer n t .accepted

/-! ### CLOSE (R23) -/

/-- A stream that is not ACTIVE leaves the Job Queue and gives up its discard and its rush (R23, R27). -/
def State.withdrawStream (s : State) (n : Fin 8) : State :=
  (((s.dequeue n).dropHeld n).dropReads (TransferKind.isRing n)).modStream n fun r =>
    { r with rush := false, discard := false, discardReports := false, discardTag := none, discardStalled := false }

/-- CLOSE (R23). -/
def State.doClose (s : State) (n : Fin 8) (t : Taken) : State :=
  if (s.stream n).state = .idle ∨ (s.stream n).state = .queued then
    ((s.withdrawStream n).enterState n .closed).answer n t .accepted
  else s.answer n t .refusedState

/-! ### CANCEL (R24, R25) -/

/-- Every report owed falls due, the job in progress CANCELLED; a JOB taken whose job is not yet in progress is
reported CANCELLED too (R25). -/
def State.cancelJobs (s : State) (n : Fin 8) : State :=
  s.modStream n fun r =>
    { r with reports := cancelReports r.reports ++
        match s.comp.job with
        | some j => if j.started then [] else [⟨j.tag, .cancelled, true, 0⟩]
        | none => [] }

/-- An ACTIVE stream that gives up ownership to a discard: QUEUED or IDLE, out of the Job Queue (R25, step 6). -/
def State.leaveToDiscard (s : State) (n : Fin 8) : State :=
  s.giveUp n (if (s.stream n).fill ≠ (s.stream n).take then .queued else .idle)

/-- CANCEL of the ACTIVE stream after it has taken a JOB (R25). -/
def State.cancelActive (s : State) (n : Fin 8) : State :=
  let s1 := (s.discardSlots n).abandonLoad
  let s2 := (s1.beginDiscard n false).modStream n fun r => { r with release := r.take, heldExits := 0 }
  (s2.cancelJobs n).leaveToDiscard n

/-- CANCEL in QUEUED or ACTIVE (R24, R25). -/
def State.cancelStream (s : State) (n : Fin 8) : State :=
  match (s.stream n).state with
  | .active =>
    match s.comp.job with
    | some _ => s.cancelActive n
    | none => (s.leaveToDiscard n).beginDiscard n true
  | _ => if (s.stream n).discard then s else (s.dequeue n).beginDiscard n true

/-- CANCEL (R24). DESIGN CHOICE, log 49: a stream that is IDLE with its discard flag set, for which R24 gives
NOTHING_TO_CANCEL and R46's row for a discarding stream ACCEPTED, answers NOTHING_TO_CANCEL. -/
def State.doCancel (s : State) (n : Fin 8) (t : Taken) : State :=
  match (s.stream n).state with
  | .active => (s.cancelStream n).answer n t .accepted
  | .queued => (s.cancelStream n).answer n t .accepted
  | .faulted => s.answer n t .refusedState
  | _ => s.answer n t .nothingToCancel

/-! ### RUSH (R26) -/

/-- Set the rush flag; a QUEUED stream not discarding moves behind the other rushed entries (R26). -/
def State.rushStream (s : State) (n : Fin 8) : State :=
  let r := s.stream n
  let s1 := s.modStream n fun r => { r with rush := true }
  if r.state = .queued ∧ r.discard = false ∧ r.rush = false then (s1.dequeue n).enqueue n else s1

/-- RUSH (R26). -/
def State.doRush (s : State) (n : Fin 8) (t : Taken) : State :=
  match (s.stream n).state with
  | .closed => s.answer n t .refusedState
  | .faulted => s.answer n t .refusedState
  | _ => (s.rushStream n).answer n t .accepted

/-! ### RESET (R27) -/

/-- RESET of a stream that is not CLOSED (R27). -/
def State.resetStream (s : State) (n : Fin 8) : State :=
  let s1 := s.discardSlots n
  if (s.stream n).state = .active then ((s1.abandonLoad.cancelJobs n).withdrawStream n).giveUp n .closed
  else ((s1.modStream n fun r => { r with reports := cancelReports r.reports }).withdrawStream n).enterState n .closed

/-- RESET (R27). -/
def State.doReset (s : State) (n : Fin 8) (t : Taken) : State :=
  if (s.stream n).state = .closed then s.answer n t .accepted else (s.resetStream n).answer n t .accepted

end Sys2Proof.Machine
end

