-- ==== Sys2Proof/Machine/Transfers.lean ====
section
/-! DEFINITION. The Memory Transfer Unit (R153 to R159), what each requester asks for (R154), the Status Writer
(R160 to R162), and what the end of each transfer brings about. -/

namespace Sys2Proof.Machine

/-! ## Request places (R153) -/

/-- The place of a requester. -/
def TransferUnit.place (m : TransferUnit) : Requester → Place
  | .streamReader => m.reader
  | .formLoader => m.loader
  | .glyphFiller => m.filler
  | .statusWriter => m.writer

/-- Change the place of a requester. -/
def TransferUnit.setPlace (m : TransferUnit) (p : Place) : Requester → TransferUnit
  | .streamReader => { m with reader := p }
  | .formLoader => { m with loader := p }
  | .glyphFiller => { m with filler := p }
  | .statusWriter => { m with writer := p }

/-- Issue a request: its place becomes PENDING. -/
def State.issue (s : State) (q : Requester) (r : Request) : State :=
  { s with mtu := s.mtu.setPlace (.pending r) q }

/-- A place is PENDING. -/
def Place.isPending : Place → Bool
  | .pending _ => true
  | _ => false

/-- A place is EMPTY. -/
def Place.isEmpty : Place → Bool
  | .empty => true
  | _ => false

/-! ## What the requesters ask for (R154) -/

/-- A read request. -/
def readOf (k : TransferKind) (a : Word32) (len : Nat) : Request := ⟨k, a, len, []⟩

/-- The address `k` bytes into the control area. -/
def State.areaAt (s : State) (k : Nat) : Word32 := addrAt s.regs.areaBase k

/-- The scan read that waits, if the part has an area (R5, R7). -/
def State.scanRead (s : State) : Option Request :=
  if s.hasArea then
    match s.sc.phase with
    | .header => some (readOf .areaHeader (s.areaAt 0) 64)
    | .descriptor n => some (readOf (.descriptor n) (s.areaAt (descriptorOffset n + 8)) 8)
    | .openRead n _ => some (readOf (.openRead n) (s.areaAt (descriptorOffset n)) 8)
    | .directory => some (readOf .fontDirectory (s.areaAt directoryOffset) 64)
    | _ => none
  else none

/-- Bytes the ACTIVE stream's next ring read may bring: short of fill, of the ring end and of the buffer's free
room, 64 at most (R29). -/
def State.aheadLength (s : State) (n : Fin 8) : Nat :=
  let r := s.stream n
  let have_ := s.sc.buffer.length
  let pos := (r.take + have_) % r.ringSize
  min (min Config.maxTransfer (r.span - have_)) (min (r.ringSize - pos) (Config.bufferBytes - have_)) / 4 * 4

/-- The read buffer holds a WRAP; no byte behind it is read until it has been taken (R32; log 18). -/
def State.wrapInHand (s : State) : Bool := wrapAhead (Config.bufferBytes / 8) s.sc.buffer

/-- The ring read of the ACTIVE stream, or of a discarding one (R29). -/
def State.ringReadOf (s : State) (n : Fin 8) : Option Request :=
  let r := s.stream n
  if r.state = .active then
    if s.sc.readFailed = false ∧ s.wrapInHand = false ∧ 4 ≤ s.aheadLength n then
      some (readOf (.ring n) (addrAt r.ringBase ((r.take + s.sc.buffer.length) % r.ringSize)) (s.aheadLength n))
    else none
  else if s.discarding n = true ∧ r.discardStalled = false ∧ s.sc.held = none ∧ 8 ≤ r.span then
    some (readOf (.discardRing n) (addrAt r.ringBase r.take)
      (min (min Config.discardBytes r.span) (r.ringSize - r.take)))
  else none

/-- The streams in increasing number, beginning after the one last served (R29). -/
def streamsAfter (n : Fin 8) : List (Fin 8) := [n + 1, n + 2, n + 3, n + 4, n + 5, n + 6, n + 7, n]

/-- The next record read in the streams' turn. -/
def State.recordRead (s : State) : Option (Fin 8 × Request) :=
  (streamsAfter s.sc.lastStream).findSome? fun n => (s.ringReadOf n).map fun r => (n, r)

/-- The Stream Reader asks for a read: scan reads and record reads in turn (R29; log 15). -/
def State.askReader (s : State) : State :=
  let scanNext (r : Request) : State := { s with sc := { s.sc with lastWasScan := true } }.issue .streamReader r
  let recordNext (p : Fin 8 × Request) : State :=
    { s with sc := { s.sc with lastWasScan := false, lastStream := p.1 } }.issue .streamReader p.2
  match s.scanRead, s.recordRead with
  | some r, none => scanNext r
  | none, some p => recordNext p
  | some r, some p => if s.sc.lastWasScan then recordNext p else scanNext r
  | none, none => s

/-- The bytes of a table still to be read from `base`, 64 at most (R76). -/
def tableRead (k : TransferKind) (base total got : Nat) : Request :=
  readOf k (addrAt (BitVec.ofNat 32 base) got) (min Config.maxTransfer (total - got))

/-- Bytes of the vertical format table a load reads: F rounded up to a multiple of 4 (R76). -/
def Load.vftBytesAsked (l : Load) : Nat := roundUp4 (byteAt l.recordBytes 1)

/-- The Form Loader's next transfer (R76). -/
def State.formRead (s : State) (l : Load) : Option Request :=
  match l.step with
  | .recordLow => if s.hasArea then some (readOf .formRecord (s.areaAt (formOffset l.number)) 64) else none
  | .recordHigh => if s.hasArea then some (readOf .formRecord (s.areaAt (formOffset l.number + 64)) 64) else none
  | .check => none
  | .vft => some (tableRead .vft (le32 l.recordBytes 16) l.vftBytesAsked l.vftBytes.length)
  | .translate => some (tableRead .translate (le32 l.recordBytes 20) 512 l.translateBytes.length)

/-- The Form Loader asks for a transfer of its load. -/
def State.askLoader (s : State) : State :=
  match s.form with
  | .loading l =>
    match s.formRead l with
    | some r => s.issue .formLoader r
    | none => s
  | _ => s

/-- The next part of a fill's sub-block, widened outward to multiples of 4 (R146). -/
def State.fillRead (s : State) (f : Fill) : Option Request :=
  match f.todo with
  | [] => none
  | k :: _ =>
    let span := f.font.widened f.index k.val
    some (readOf .subBlock (addrAt (f.font.subAddr f.index k.val - BitVec.ofNat 32 span.1) f.got.length)
      (min Config.maxTransfer (span.2 - f.got.length)))

/-- The Glyph Filler asks for the fill's next part, or for a flush's directory (R146, R148). -/
def State.askFiller (s : State) : State :=
  match s.cache.fill with
  | some f =>
    match s.fillRead f with
    | some r => s.issue .glyphFiller r
    | none => s
  | none =>
    if s.cache.flush = .reading ∧ s.hasArea = true then
      s.issue .glyphFiller (readOf .flushDirectory (s.areaAt directoryOffset) 64)
    else s

/-- The request an owed write makes when it is issued (R154, R160). -/
def State.writeOf (s : State) : OwedKind → Request
  | .descriptor n => ⟨.descriptorWrite n, s.areaAt (descriptorOffset n + 16), 48, (s.stream n).shown⟩
  | .requestField n => ⟨.requestField n, s.areaAt (descriptorOffset n + 12), 2, [0, 0]⟩
  | .deviceRecord => ⟨.deviceRecord, s.areaAt deviceRecordOffset, 64, s.deviceRecord⟩

/-- The upper half of the device record: unused bytes, written as 0 (chapter 11.1). -/
def State.secondHalf (s : State) : Request :=
  ⟨.deviceRecordHigh, s.areaAt (deviceRecordOffset + 64), 64, List.replicate 64 0⟩

/-- The counts a device record write carries are those shown from its issue on (R151, R181), and the failure that has
asked for it is carried by it from then on (R159). -/
def State.showCounts (s : State) (k : OwedKind) : State :=
  match k with
  | .deviceRecord =>
    { s with
      counts := { s.counts with shown := s.boundaryCounts }
      writer := { s.writer with failureIssued := s.writer.failureWaits, failureWaits := false } }
  | _ => s

/-- The Status Writer issues the second half of a device record write, or the write at the head of its list
(R154, R160). Without an area its writes wait (R5). -/
def State.askWriter (s : State) : State :=
  if s.hasArea then
    match s.writer.issued, s.writer.waiting with
    | some _, _ => if s.writer.secondHalf then s.issue .statusWriter s.secondHalf else s
    | none, o :: rest =>
      ({ s with writer := { s.writer with issued := some o, waiting := rest } }.issue .statusWriter
        (s.writeOf o.kind)).showCounts o.kind
    | none, [] => s
  else s

/-- A requester whose place is EMPTY asks for its next transfer. -/
def State.askNext (s : State) (q : Requester) : State :=
  if (s.mtu.place q).isEmpty then
    match q with
    | .streamReader => s.askReader
    | .formLoader => s.askLoader
    | .glyphFiller => s.askFiller
    | .statusWriter => s.askWriter
  else s

/-! ## Arbitration (R155, R156) -/

/-- The requester after one in the round. -/
def Requester.next : Requester → Requester
  | .streamReader => .formLoader
  | .formLoader => .glyphFiller
  | .glyphFiller => .statusWriter
  | .statusWriter => .streamReader

/-- The round from a requester on. -/
def Requester.round (q : Requester) : List Requester := [q, q.next, q.next.next, q.next.next.next]

/-- The urgency condition (R156). -/
def State.urgent (s : State) : Bool :=
  decide (s.engine.state = .feeding ∧ s.engine.cond.inMotion = true ∧ s.engine.bandRoom = 2) &&
    match s.cache.fill with
    | some f => f.wanted
    | none => false

/-- Grant a requester's pending request: the transfer is placed on the bus and its limit timer loaded. -/
def State.grantBus (s : State) (q : Requester) (pointer : Requester) : State :=
  match s.mtu.place q with
  | .pending r =>
    let m := s.mtu.setPlace .granted q
    { s with mtu := { m with inFlight := some ⟨q, r, true⟩, limit := some Config.limitMs, pointer := pointer } }
  | _ => s

/-- The MTU chooses a request to grant when no transfer is in flight (R155, R156). -/
def State.arbitrate (s : State) : State :=
  if s.mtu.inFlight.isSome then s
  else if s.urgent && s.mtu.filler.isPending then s.grantBus .glyphFiller s.mtu.pointer
  else
    match s.mtu.pointer.round.find? fun q => (s.mtu.place q).isPending with
    | some q => s.grantBus q q.next
    | none => s

/-- The MTU chooses, the requesters ask, and the MTU chooses again when the bus is still free (R155; log 29). -/
def State.serveBus (s : State) : State :=
  ((((s.arbitrate.askNext .streamReader).askNext .formLoader).askNext .glyphFiller).askNext .statusWriter).arbitrate

/-! ## The end of a transfer (R157) -/

/-- The transfer's part in the MTU is over. -/
def State.endTransfer (s : State) (q : Requester) : State :=
  let m := s.mtu.setPlace .empty q
  { s with mtu := { m with inFlight := none, limit := none } }

/-- A completed transfer of a kind `p` names, with its `data` when it is a read: a write has placed its bytes.
Its outcome goes to `act` unless it is no longer wanted or a device reset is under way (R157, R158). -/
def State.completed (s : State) (p : TransferKind → Bool) (data : List Byte) (act : TransferKind → State → State) : State :=
  match s.mtu.inFlight with
  | some t =>
    if p t.request.kind = true ∧ data.length + t.request.data.length = t.request.len then
      let s1 := s.endTransfer t.who
      let s2 := { s1 with hostMem := s1.hostMem.writeRun t.request.addr t.request.data }
      if t.wanted = true ∧ s.regs.resetBusy = false then act t.request.kind s2 else s2
    else s
  | none => s

/-- A transfer of a device record write. -/
def TransferKind.isDeviceRecord : TransferKind → Bool
  | .deviceRecord => true
  | .deviceRecordHigh => true
  | _ => false

/-- Ask for a device record write on a failure's account (R158, R159). -/
def State.askForFailure (s : State) : State :=
  let s1 := s.askRecord
  { s1 with writer := { s1.writer with failureWaits := true } }

/-- Every failed transfer is counted and its address recorded, and a device record write asked for (R158), but when it
is itself the device record write that a failure had asked for (R13, R159). -/
def State.countFailure (s : State) (t : Transfer) : State :=
  let s1 := { s with counts := { s.counts with memFaults := satAdd s.counts.memFaults 1, lastFault := t.request.addr } }
  if t.request.kind.isDeviceRecord = true ∧ s.writer.failureIssued = true then s1 else s1.askForFailure

/-- Host memory after transfer `t` failed: a failed write leaves the bytes it named unknown (log 5), but for the second
transfer of a device record write, whose half of the record is then the old one (R154). -/
def State.memAfterFailure (s : State) (t : Transfer) : Memory :=
  if t.request.kind = .deviceRecordHigh then s.hostMem
  else s.hostMem.forgetRun t.request.addr t.request.data.length

/-- The transfer on the bus fails: its outcome goes to `act` (R157, R158). -/
def State.failed (s : State) (act : TransferKind → State → State) : State :=
  match s.mtu.inFlight with
  | some t =>
    let s1 := s.endTransfer t.who
    let s2 := { s1 with hostMem := s.memAfterFailure t }
    if s.regs.resetBusy then s2
    else if t.wanted then act t.request.kind (s2.countFailure t)
    else s2.countFailure t
  | none => s

/-! ## What a transfer's end brings about -/

/-! ### The Stream Reader -/

/-- The font directory read at a scan's end is set aside (R141). It stays owed when AREA_BASE has changed since it
was issued (R6). -/
def State.takeDirectory (s : State) (b : List Byte) : State :=
  ({ s with
    cache := { s.cache with aside := some (directoryOf s.sc.fontCount b) }
    sc := { s.sc with dirOwed := s.sc.moved, moved := false } }).endScan

/-- Bytes of a ring read of the ACTIVE stream enter the read buffer (R29). -/
def State.takeRingBytes (s : State) (b : List Byte) : State :=
  { s with sc := { s.sc with buffer := s.sc.buffer ++ b } }

/-- Bytes of a discard read are held apart from the read buffer (R29). -/
def State.holdRecord (s : State) (n : Fin 8) (b : List Byte) : State :=
  { s with sc := { s.sc with held := some ⟨n, b⟩ } }

/-! ### The Form Loader (R76) -/

/-- The load with the bytes of a completed transfer, at its next step. -/
def Load.took (l : Load) (b : List Byte) : Load :=
  match l.step with
  | .recordLow => { l with step := .recordHigh, recordBytes := l.recordBytes ++ b }
  | .recordHigh => { l with step := .check, recordBytes := l.recordBytes ++ b }
  | .check => l
  | .vft =>
    let got := l.vftBytes ++ b
    { l with step := if got.length < l.vftBytesAsked then .vft else .translate, vftBytes := got }
  | .translate => { l with translateBytes := l.translateBytes ++ b }

/-- The load has brought its whole translate table. -/
def Load.complete (l : Load) : Bool := decide (l.step = .translate ∧ 512 ≤ l.translateBytes.length)

/-- A completed transfer of the load: its next step, or acceptance (R76). -/
def State.takeFormBytes (s : State) (b : List Byte) : State :=
  match s.form with
  | .loading l =>
    let l' := l.took b
    if l'.complete then
      let s1 := { s with form := .loaded (formOf l'.number l'.recordBytes l'.vftBytes l'.translateBytes) }
      match s1.owner with
      | some n => s1.openJob n
      | none => s1
    else { s with form := .loading l' }
  | _ => s

/-- The load ends without being LOADED, and the stream faults at its JOB (R77). -/
def State.endLoad (s : State) (c : FaultCode) : State :=
  let s1 := { s with form := .empty }
  match s1.owner with
  | some n => s1.faultActive n c
  | none => s1

/-- The directory that a form check made now is made against, and none while the check waits: the one in force (R80,
R141); with one set aside alone the check waits (step 4 of R76). Before the first directory read has completed there is
neither, and whether the check is made then, with no glyphs to find the substitute among (R140), or waits (R76) is a
free value. DESIGN CHOICE, log 23. -/
def State.checkDirectory (s : State) : Option Directory :=
  match s.cache.inForce, s.cache.aside with
  | some d, _ => some d
  | none, some _ => none
  | none, none => if Config.refusesUnread then some .beforeFirst else none

/-- Step 4 of R76: the check of the record read, made or waited for as `checkDirectory` says. -/
def State.checkForm (s : State) : State :=
  match s.form, s.checkDirectory with
  | .loading l, some d =>
    if l.step ≠ .check then s
    else if formAccepted (d.font 0).count l.recordBytes then { s with form := .loading { l with step := .vft } }
    else s.endLoad .badForm
  | _, _ => s

/-! ### The Glyph Filler (R146 to R150) -/

/-- The bytes of a sub-block transfer: the cell that waited is drawn when its fill is complete, and a band whose
lookup was held goes on when the fill given up has ended (R144, R146, R150). -/
def State.takeSubBlock (s : State) (b : List Byte) : State :=
  match s.cache.fill with
  | none => s
  | some f =>
    let r := s.cache.fillStep f b
    let s1 := { s with cache := r.1 }
    if !r.2 then s1
    else if f.wanted then (s1.drawWaiting (r.1.filledDots f)).runBands bandFuel
    else if s1.builder.state = .fillWait then s1.runBands bandFuel
    else s1

/-- A failed sub-block read stops the fill; the cell that waited is drawn as the fault box (R147, R150). -/
def State.failSubBlock (s : State) : State :=
  match s.cache.fill with
  | none => s
  | some f =>
    let s1 := { s with cache := { s.cache with fill := none, faults := satAdd s.cache.faults 1 } }
    if f.wanted then (s1.drawWaiting (boxFor s.directory)).runBands bandFuel
    else if s1.builder.state = .fillWait then s1.runBands bandFuel
    else s1

/-- A flush's directory read has completed (R148). -/
def State.takeFlushDirectory (s : State) (b : List Byte) : State :=
  { s with cache := s.cache.flushRead (directoryOf s.sc.fontCount b) }

/-- A flush's directory read has failed: it is made again at the end of the next scan (R148). DESIGN CHOICE, log 56: a
scan in progress at the failure counts as the next, and a directory read of its own that completes clears what is
owed. -/
def State.failFlushDirectory (s : State) : State :=
  { s.raise memfaultBit with cache := s.cache.flushFailed, sc := { s.sc with dirOwed := true } }

/-! ### The Status Writer (R160 to R162) -/

/-- The write issued has ended. -/
def State.endWrite (s : State) : State :=
  { s with writer := { s.writer with issued := none, secondHalf := false, failureIssued := false } }

/-- A descriptor write has ended: STREAMn where it is owed, and the request field write after a result (R161, R162). -/
def State.descriptorWritten (s : State) (n : Fin 8) : State :=
  match s.writer.issued with
  | none => s
  | some o =>
    let s1 := s.endWrite
    let s2 := if o.event then s1.raise (streamBit n) else s1
    if o.result then s2.ask ⟨.requestField n, false, false, false⟩ else s2

/-- The request field write has ended: STREAMn is raised and the request's action ends (R21). -/
def State.requestFieldWritten (s : State) (n : Fin 8) (clearOwed : Bool) : State :=
  ((s.endWrite.raise (streamBit n)).modStream n fun r => { r with clearOwed := clearOwed }).actionEnds

/-- A device record transfer has completed: the second half is issued, or the write has completed (R154). -/
def State.deviceRecordWritten (s : State) : State :=
  if s.writer.secondHalf then s.endWrite else { s with writer := { s.writer with secondHalf := true } }

/-! ### Failures by requester (R158) -/

/-- The area header read has failed: the scan ends at once (R10). -/
def State.failHeader (s : State) : State := (s.raise memfaultBit).finishScan

/-- A descriptor read has failed: the stream is left as it was, and the scan goes on (R10). -/
def State.failDescriptor (s : State) (n : Fin 8) : State := (s.raise memfaultBit).scanAfter n

/-- The failure of a transfer is acted on by its requester as the table of R158 gives. -/
def failureOf : TransferKind → State → State
  | .areaHeader, s => s.failHeader
  | .descriptor n, s => s.failDescriptor n
  | .openRead n, s => s.failDescriptor n
  | .ring _, s => { s with sc := { s.sc with readFailed := true } }
  | .discardRing n, s => s.faultInactive n .memRead
  | .fontDirectory, s => (s.raise memfaultBit).endScan
  | .formRecord, s => s.endLoad .formRead
  | .vft, s => s.endLoad .formRead
  | .translate, s => s.endLoad .formRead
  | .subBlock, s => s.failSubBlock
  | .flushDirectory, s => s.failFlushDirectory
  | .descriptorWrite n, s => (s.raise memfaultBit).descriptorWritten n
  | .requestField n, s => (s.raise memfaultBit).requestFieldWritten n true
  | .deviceRecord, s => (s.raise memfaultBit).endWrite
  | .deviceRecordHigh, s => (s.raise memfaultBit).endWrite

end Sys2Proof.Machine
end

