-- ==== Sys2Proof/Machine/Settle.lean ====
section
/-! DEFINITION. What the blocks do of their own once a command has acted: each goes as far as it can before the
next command. The order is the one in which the manual lets one block's change reach the next (spec/95). -/

namespace Sys2Proof.Machine

/-- The streams whose shown bytes differ from those of `old` ask for a descriptor write (R19). -/
def State.askChanged (old s : State) : State :=
  allStreams.foldl (fun s n => if (s.stream n).shown = (old.stream n).shown then s else s.askDescriptor n false) s

/-- What asks for a device record write at once when it changes: slot states and pool entries (R100), engine
state with its hold reason and the mounted key (R181). -/
def State.recordItems (s : State) : List SlotState × Nat × EngineState × Nat × Nat :=
  (allSlots.map fun i => (s.slot i).state, s.store.poolUsed, s.engine.state, s.engine.mountedStock,
    s.engine.mountedLength)

/-- A device record write is asked for when one of those items has changed, and at a band boundary when one of
the counts differs from those last shown (R151, R181). -/
def State.askRecordChanged (old s : State) : State :=
  if s.recordItems ≠ old.recordItems ∨ (s.atBoundary = true ∧ s.boundaryCounts ≠ s.counts.shown) then s.askRecord
  else s

/-- The Band Builder and the cache: rebuilds still to be made (R137), a band boundary (R141, R148), a form check that
waited for a directory (R76). -/
def State.settleImaging (s : State) : State := ((s.startRebuild Config.sentMax).cacheBoundary).checkForm

/-- The Composer and the Job Queue: a wait that ends (R66, R67), bytes found missing (R43), a grant (R35). -/
def State.settleComposer (s : State) : State := (s.resumeWait.memReadFault).grant

/-- The Engine Controller: an owed hold at a band boundary (R173), the image gate (R172), refused SLEWs (R177). -/
def State.settleEngine (s : State) : State := (s.holdAtBoundary.lookAtGate).resendSlews Config.sentMax

/-- The wait reasons, the owed writes and the reports (R19, R20, R39, R100). A change and a report of one step meet in
one descriptor write: the change asks first (R161; log 32). -/
def State.settleStatus (old s : State) : State :=
  let s1 := State.askChanged old s.syncWaits
  State.askRecordChanged old (allStreams.foldl (State.makeReport old) s1)

/-- Everything that follows a command which changed `old` into `s`. During a device reset every block is
stopped (R15). -/
def State.settle (old s : State) : State :=
  if s.regs.resetBusy then s
  else (State.settleStatus old (s.settleImaging.settleComposer.settleEngine)).serveBus

/-- What an answer of the bus leaves: for the transfer that stands there, `t` and what follows it. A `late` one, for a
transfer that has ended at its limit, is discarded, whatever stands on the bus by then (R157; log 58). -/
def State.answered (s : State) (late : Bool) (t : State) : State := if late then s else State.settle s t

/-- A command that can only wake the bus. -/
def State.settleBus (s : State) : State := if s.regs.resetBusy then s else s.serveBus

end Sys2Proof.Machine
end

