-- ==== Sys2Proof/Machine/BusCommands.lean ====
section
/-! DEFINITION. The commands of the Status Writer's writes and of failed transfers (R154, R157 to R162). -/

namespace Sys2Proof.Machine

/-- A descriptor write. -/
def TransferKind.isDescriptorWrite : TransferKind → Bool
  | .descriptorWrite _ => true
  | _ => false

/-- A request field write. -/
def TransferKind.isRequestField : TransferKind → Bool
  | .requestField _ => true
  | _ => false

/-- The stream a completed descriptor write was of. -/
def State.takeDescriptorWrite (s : State) : TransferKind → State
  | .descriptorWrite n => s.descriptorWritten n
  | _ => s

/-- The stream a completed request field write was of. -/
def State.takeRequestField (s : State) : TransferKind → State
  | .requestField n => s.requestFieldWritten n false
  | _ => s

/-- DESCRIPTOR_WRITE (R162). -/
def execDescriptorWrite (s : State) (late : Bool := false) : Host.Outcome State Fault Refusal :=
  .next (s.answered late (s.completed (·.isDescriptorWrite) [] fun k s => s.takeDescriptorWrite k))

/-- REQUEST_FIELD_WRITE (R21). -/
def execRequestFieldWrite (s : State) (late : Bool := false) : Host.Outcome State Fault Refusal :=
  .next (s.answered late (s.completed (·.isRequestField) [] fun k s => s.takeRequestField k))

/-- DEVICE_RECORD_WRITE (R154). -/
def execDeviceRecordWrite (s : State) (late : Bool := false) : Host.Outcome State Fault Refusal :=
  .next (s.answered late (s.completed (·.isDeviceRecord) [] fun _ s => s.deviceRecordWritten))

/-- BUS_ERROR (R157, R158). -/
def execBusError (s : State) (late : Bool := false) : Host.Outcome State Fault Refusal :=
  .next (s.answered late (s.failed failureOf))

/-- LIMIT_TIMER_EXPIRY: the transfer fails as for a bus error (R157, R158). -/
def execLimitTimerExpiry (s : State) : Host.Outcome State Fault Refusal :=
  match s.mtu.limit with
  | some r => .next (State.settle s ((s.elapse r).failed failureOf))
  | none => .next s

end Sys2Proof.Machine
end

