-- ==== Sys2Proof/Machine/ImagingCommands.lean ====
section
/-! DEFINITION. The commands of imaging: bands, glyph reads, the flush's directory and handing over (R123, R146,
R148, R171). -/

namespace Sys2Proof.Machine

/-- BAND_BEGIN: a band is begun and drawn until it must wait for a fill or is finished (R123, R129; log 26). -/
def execBandBegin (s : State) : Host.Outcome State Fault Refusal :=
  if s.regs.resetBusy = false ∧ s.builder.state = .still then
    .next (State.settle s (s.beginBand.runBands bandFuel))
  else .next s

/-- SUB_BLOCK_READ (R146). -/
def execSubBlockRead (data : List Byte) (s : State) (late : Bool := false) : Host.Outcome State Fault Refusal :=
  .next (s.answered late (s.completed (· = .subBlock) data fun _ s => s.takeSubBlock data))

/-- FLUSH_DIRECTORY_READ (R148). -/
def execFlushDirectoryRead (data : List Byte) (s : State) (late : Bool := false) : Host.Outcome State Fault Refusal :=
  .next (s.answered late (s.completed (· = .flushDirectory) data fun _ s => s.takeFlushDirectory data))

/-- MESSAGE_HANDOVER (R171). -/
def execMessageHandover (s : State) : Host.Outcome State Fault Refusal :=
  if s.regs.resetBusy then .next s else .next (State.settle s s.handOver)

end Sys2Proof.Machine
end

