-- ==== Sys2Proof/Machine/RegisterCommands.lean ====
section
/-! DEFINITION. The commands of the Register Window: power-on, the register writes of R1 to R5, R11, R14, and the
device reset (R15, R16). -/

namespace Sys2Proof.Machine

/-! ## RUN (R3, R4) -/

/-- The flush timer when RUN becomes 1: a paused one resumes (R4, R71). -/
def FlushTimer.resume : FlushTimer → FlushTimer
  | .paused ms => .running ms
  | t => t

/-- The flush timer when RUN becomes 0: a running one keeps its remaining time (R4, R71). -/
def FlushTimer.pause : FlushTimer → FlushTimer
  | .running ms => .paused ms
  | t => t

/-- The engine side of RUN 1: an owed HOST_PAUSE is cancelled, and a hold with HOST_PAUSE ends (R4, R173). -/
def State.engineRun (s : State) : State :=
  let s1 := if s.engine.holdOwed = .hostPause then { s with engine := { s.engine with holdOwed := .none } } else s
  if s1.engine.state = .held .hostPause then s1.enterGate else s1

/-- A RUN field of 1 (R3): taken while RUN reads 0 and the part has an area. -/
def State.runOn (s : State) : State :=
  if s.regs.run = false ∧ s.hasArea = true then
    ({ s with
      regs := { s.regs with run := true }
      comp := { s.comp with flush := s.comp.flush.resume } }.trigger).engineRun
  else s

/-- The engine side of RUN 0 (R4, R173). -/
def State.enginePause (s : State) : State :=
  match s.engine.state with
  | .feeding =>
    if s.engine.holdOwed = .operatorStop then s else { s with engine := { s.engine with holdOwed := .hostPause } }
  | .idle => s.enterHeld .hostPause
  | _ => s

/-- A RUN field of 0 (R3, R4). -/
def State.runOff (s : State) : State :=
  if s.regs.run then
    ({ s with
      regs := { s.regs with run := false }
      comp := { s.comp with flush := s.comp.flush.pause } }.cutScan).enginePause
  else s

/-! ## CONTROL (R2) -/

/-- The sweep interval field of a CONTROL word. -/
def intervalField (v : Word32) : BitVec 8 := BitVec.ofNat 8 (v.toNat / 256)

/-- The interval is stored and the sweep timer restarts from it (R2, R9). -/
def State.storeInterval (s : State) (k : BitVec 8) : State :=
  { s with regs := { s.regs with sweepInterval := k } }.reloadSweep

/-- GLYPH_FLUSH 1 asks for a flush; while one is under way it asks for no second (R2, R148). -/
def State.askFlush (s : State) : State :=
  if s.cache.flush = .none then { s with cache := { s.cache with flush := .owed } } else s

/-! ## Device reset (R15, R16) -/

/-- A stream record at a device reset (R18). DESIGN CHOICE for the flush interval, the ring base and the ring size,
of which R18 says nothing here: they are kept, log 47. -/
def StreamRec.deviceReset (r : StreamRec) : StreamRec :=
  { r with
    state := .closed
    rush := false
    discard := false
    wait := .none
    reports := []
    clearOwed := false
    discardReports := false
    discardTag := none
    discardStalled := false
    heldExits := 0 }

/-- The MTU at a device reset: a transfer on the bus runs to its end unwanted, the rest is dropped (R153). -/
def TransferUnit.deviceReset (m : TransferUnit) : TransferUnit :=
  match m.inFlight with
  | some t => { TransferUnit.initial.setPlace .granted t.who with inFlight := some { t with wanted := false }, limit := m.limit }
  | none => .initial

/-- A button through a device reset: its armed mark is cleared (R183). -/
def ButtonRec.disarm (b : ButtonRec) : ButtonRec := { b with armed := false }

/-- The Panel Controller through a device reset: the buttons are read anew, and the blink clock runs on (R183). -/
def PanelController.deviceReset (p : PanelController) : PanelController :=
  { PanelController.initial with
    buttons := ⟨p.buttons.start.disarm, p.buttons.stop.disarm, p.buttons.topOfForm.disarm, p.buttons.line.disarm,
      p.buttons.lampTest.disarm⟩
    blinkPhase := p.blinkPhase
    blinkTimer := p.blinkTimer }

/-- Send a POLL: the poll timer is reloaded and the answer timer starts (R167). -/
def State.sendPoll (s : State) : State :=
  let s1 := s.send .poll
  { s1 with engine := { s1.engine with
      pollTimer := some Config.pollMs
      answerTimer := some Config.answerMs
      pollAt := s.now } }

/-- Every block as a device reset leaves it (R15), before the link is reinitialised. -/
def State.resetBlocks (s : State) (interval : BitVec 8) : State :=
  { s with
    regs := { s.regs with
      run := false
      resetBusy := true
      sweepInterval := interval
      events := 0
      rstimg := s.regs.rstimg || s.anyBegun
      sweepTimer := none }
    sc := { StreamController.initial with streams := s.sc.streams.map StreamRec.deviceReset }
    comp := .initial
    form := .empty
    store := .initial
    builder := .initial
    cache := .initial
    mtu := s.mtu.deviceReset
    writer := .initial
    engine := .initial
    counts := .zero
    panel := s.panel.deviceReset }

/-- A device reset begins (R15, R16): every block is stopped, and the link is reinitialised with HALT and then
POLL (log 11). -/
def State.beginReset (s : State) (interval : BitVec 8) : State := ((s.resetBlocks interval).sendHalt).sendPoll

/-! ## Register writes (R1, R2) -/

/-- A write of CONTROL outside a device reset and without DEVICE_RESET (R2). -/
def State.plainControl (s : State) (v : Word32) : State :=
  let s1 := s.storeInterval (intervalField v)
  let s2 := if v.getLsbD 2 then s1.askFlush else s1
  if v.getLsbD 0 then s2.runOn else s2.runOff

/-- A write of CONTROL (R2). -/
def State.writeControl (s : State) (v : Word32) : State :=
  if s.regs.resetBusy then s
  else if v.getLsbD 1 then s.beginReset (intervalField v)
  else State.settle s (s.plainControl v)

/-- A write of EVENTS clears each bit written as 1 (R11). -/
def State.writeEvents (s : State) (v : Word32) : State :=
  { s with regs := { s.regs with events := s.regs.events &&& ~~~(BitVec.ofNat 11 v.toNat) } }

/-- A write of EVENT_MASK (R14). -/
def State.writeMask (s : State) (v : Word32) : State :=
  { s with regs := { s.regs with eventMask := BitVec.ofNat 11 v.toNat } }

/-- A new AREA_BASE: a part left with no area has its sweep timer stopped, and the next scan reads the font
directory anew (R5, R6). -/
def State.moveArea (s : State) (v : Word32) : State :=
  let s1 := { s with
    regs := { s.regs with areaBase := v }
    sc := { s.sc with dirOwed := true, moved := decide (s.sc.phase = .directory) } }
  if s1.hasArea then s1 else { s1 with regs := { s1.regs with sweepTimer := none } }

/-- A write of AREA_BASE: taken while RUN is 0; the value it already holds changes nothing (R5). -/
def State.writeArea (s : State) (v : Word32) : State :=
  if s.regs.run = true ∨ s.regs.areaBase = v then s else (s.moveArea v).settleBus

/-- A write to a register at an I/O offset (R1); any other offset is ignored, and so is IDENT. -/
def State.writeRegister (s : State) (offset : Nat) (v : Word32) : State :=
  if offset = 0x00 then s.writeControl v
  else if offset = 0x04 then s.trigger.settleBus
  else if offset = 0x08 then s.writeEvents v
  else if offset = 0x0C then s.writeMask v
  else if offset = 0x10 then s.writeArea v
  else s

/-! ## The commands -/

/-- Power-on as seen by what stands outside the part: host memory, the frames sent, the clock of the model, the
buttons themselves and the commands that wait (log 35). -/
def State.powerUp (s : State) : State :=
  { State.reset with
    panel := { PanelController.initial with buttons := s.panel.deviceReset.buttons }
    hostMem := s.hostMem
    linkOut := s.linkOut
    now := s.now
    unreadTags := s.unreadTags
    pending := s.pending }

/-- POWER_ON (R17). -/
def execPowerOn (s : State) : Host.Outcome State Fault Refusal := .next s.powerUp

/-- RUN_SET: a CONTROL write with RUN 1 (R2, R3; log 10). -/
def execRunSet (w : HostWrite) (s : State) : Host.Outcome State Fault Refusal := .next (s.writeControl w.word)

/-- RUN_CLEAR: a CONTROL write with RUN 0 (R2, R4; log 10). -/
def execRunClear (w : HostWrite) (s : State) : Host.Outcome State Fault Refusal := .next (s.writeControl w.word)

/-- DEVICE_RESET: a CONTROL write with DEVICE_RESET 1 (R2, R15). -/
def execDeviceReset (w : HostWrite) (s : State) : Host.Outcome State Fault Refusal := .next (s.writeControl w.word)

/-- GLYPH_FLUSH: a CONTROL write with GLYPH_FLUSH 1 (R2, R148; log 10). -/
def execGlyphFlush (w : HostWrite) (s : State) : Host.Outcome State Fault Refusal := .next (s.writeControl w.word)

/-- SWEEP_INTERVAL: the interval field of a CONTROL write (R2, R9; log 10). -/
def execSweepInterval (w : HostWrite) (s : State) : Host.Outcome State Fault Refusal := .next (s.writeControl w.word)

/-- ATTENTION: the value written is ignored (R8). -/
def execAttention (w : HostWrite) (s : State) : Host.Outcome State Fault Refusal := .next (s.writeRegister 0x04 w.word)

/-- EVENTS_WRITE (R11). -/
def execEventsWrite (w : HostWrite) (s : State) : Host.Outcome State Fault Refusal :=
  .next (s.writeRegister 0x08 w.word)

/-- EVENT_MASK_WRITE (R14). -/
def execEventMaskWrite (w : HostWrite) (s : State) : Host.Outcome State Fault Refusal :=
  .next (s.writeRegister 0x0C w.word)

/-- AREA_BASE_WRITE (R5). -/
def execAreaBaseWrite (w : HostWrite) (s : State) : Host.Outcome State Fault Refusal :=
  .next (s.writeRegister 0x10 w.word)

/-- REGISTER_WRITE_IGNORED: a write to IDENT or to an unused offset (R1). -/
def execRegisterWriteIgnored (offset : Nat) (w : HostWrite) (s : State) : Host.Outcome State Fault Refusal :=
  .next (s.writeRegister offset w.word)

/-- DEVICE_RESET_DONE (R15, R153): DEVICE_RESET reads 0 once no transfer is on the bus. -/
def execDeviceResetDone (s : State) : Host.Outcome State Fault Refusal :=
  .next (if s.regs.resetBusy = true ∧ s.mtu.inFlight = none then { s with regs := { s.regs with resetBusy := false } } else s)

end Sys2Proof.Machine
end

