-- ==== Sys2Proof/Machine/LinkCommands.lean ====
section
/-! DEFINITION. The commands of the engine link: the poll and answer timers and the frames received (R165 to R168,
R175 to R180). -/

namespace Sys2Proof.Machine

/-- POLL_TIMER_EXPIRY (R167). -/
def execPollTimerExpiry (s : State) : Host.Outcome State Fault Refusal :=
  match s.engine.pollTimer with
  | some r => if s.regs.resetBusy then .next s else .next (s.elapse r).sendPoll
  | none => .next s

/-- A poll is missed; the third in a row takes the engine to be gone (R167). -/
def State.missPoll (s : State) : State :=
  let k := min (s.engine.missed + 1) 3
  let s1 := { s with engine := { s.engine with answerTimer := none, missed := k } }
  if k = 3 ∧ s.engine.state ≠ .offline then s1.enterOffline else s1

/-- ANSWER_TIMER_EXPIRY (R167). -/
def execAnswerTimerExpiry (s : State) : Host.Outcome State Fault Refusal :=
  match s.engine.answerTimer with
  | some r => if s.regs.resetBusy then .next s else .next (State.settle s (s.elapse r).missPoll)
  | none => .next s

/-- STATUS (R165, R167, R168, R175). -/
def execStatus (f : RxFrame) (s : State) : Host.Outcome State Fault Refusal := .next (State.settle s (s.receive f))

/-- EXIT (R165, R176). -/
def execExit (f : RxFrame) (s : State) : Host.Outcome State Fault Refusal := .next (State.settle s (s.receive f))

/-- REFUSED (R165, R177). -/
def execRefused (f : RxFrame) (s : State) : Host.Outcome State Fault Refusal := .next (State.settle s (s.receive f))

/-- BAD_FRAME: discarded and counted (R165). -/
def execBadFrame (f : RxFrame) (s : State) : Host.Outcome State Fault Refusal := .next (State.settle s (s.receive f))

end Sys2Proof.Machine
end

