-- ==== Sys2Proof/Machine/PanelCommands.lean ====
section
/-! DEFINITION. The commands of the operator panel: presses, releases and the panel's timers (R183 to R189). -/

namespace Sys2Proof.Machine

/-- Change a button's record. -/
def State.setButton (s : State) (b : Button) (r : ButtonRec) : State :=
  { s with panel := { s.panel with buttons := s.panel.buttons.set r b } }

/-- A press: the change of a button from UP to DOWN sets its armed mark and acts; a button already DOWN makes none
(R184). During a device reset the button goes DOWN without being armed (R183; log 11). -/
def State.press (s : State) (b : Button) (act : State → State) : State :=
  if (s.panel.buttons.get b).down then s
  else if s.regs.resetBusy then s.setButton b ⟨true, false⟩
  else act (s.setButton b ⟨true, true⟩)

/-- START (R173, R174, R178). -/
def execStart (s : State) : Host.Outcome State Fault Refusal := .next (State.settle s (s.press .start State.pressStart))

/-- STOP (R173). -/
def execStop (s : State) : Host.Outcome State Fault Refusal := .next (State.settle s (s.press .stop State.pressStop))

/-- TOP is sent when the press is allowed (R185). -/
def State.pressTop (s : State) : State := if s.paperFree then s.sendTop else s

/-- TOP OF FORM (R185). -/
def execTopOfForm (s : State) : Host.Outcome State Fault Refusal := .next (s.press .topOfForm State.pressTop)

/-- The repeat timer and phase. -/
def State.setRepeat (s : State) (t : Option Nat) (p : RepeatPhase) : State :=
  { s with panel := { s.panel with repeatTimer := t, repeatPhase := p } }

/-- A press of LINE: one advance when it is allowed and none is owed, and the repeat begins (R186, R187). -/
def State.pressLine (s : State) : State :=
  if s.paperFree = true ∧ s.panel.lineOwed = false then
    s.lineAdvance.setRepeat (some Config.repeatDelayMs) .delay
  else s

/-- LINE (R186, R187). -/
def execLineButton (s : State) : Host.Outcome State Fault Refusal := .next (s.press .line State.pressLine)

/-- LAMP TEST: while the button is DOWN all lamps are lit (R188). -/
def execLampTest (s : State) : Host.Outcome State Fault Refusal := .next (s.press .lampTest id)

/-- A release clears the armed mark; that of LINE ends its repeat (R184, R187). -/
def State.release (s : State) (b : Button) : State :=
  let s1 := s.setButton b .up
  if b = .line then s1.setRepeat none .none else s1

/-- BUTTON_RELEASE (R184). -/
def execButtonRelease (b : Button) (s : State) : Host.Outcome State Fault Refusal :=
  .next (if (s.panel.buttons.get b).down then s.release b else s)

/-- A further advance while LINE is held and the press is allowed; else the repeat ends (R187). -/
def State.repeatLine (s : State) : State :=
  if (s.panel.buttons.line.down && s.panel.buttons.line.armed && s.paperFree) = true then
    s.lineAdvance.setRepeat (some Config.repeatMs) .repeating
  else s.setRepeat none .none

/-- REPEAT_TIMER_EXPIRY (R187). -/
def execRepeatTimerExpiry (s : State) : Host.Outcome State Fault Refusal :=
  match s.panel.repeatTimer with
  | some r => .next (s.elapse r).repeatLine
  | none => .next s

/-- LINGER_TIMER_EXPIRY (R189). -/
def execLingerTimerExpiry (s : State) : Host.Outcome State Fault Refusal :=
  match s.panel.linger with
  | some r =>
    let s1 := s.elapse r
    .next { s1 with panel := { s1.panel with linger := none } }
  | none => .next s

/-- BLINK_HALF: the blink clock passes to its next half of 125 ms (R189). -/
def execBlinkHalf (s : State) : Host.Outcome State Fault Refusal :=
  let s1 := s.elapse s.panel.blinkTimer
  .next { s1 with panel := { s1.panel with blinkPhase := s1.panel.blinkPhase + 1, blinkTimer := Config.blinkMs } }

end Sys2Proof.Machine
end

