-- ==== Sys2Proof/Machine/RecordCommands.lean ====
section
/-! DEFINITION. The commands of records: ring reads, the five record kinds, discards, form loads and the flush
timer (R29 to R32, R37 to R45, R49 to R73, R76, R77). -/

namespace Sys2Proof.Machine

/-- A ring record read of either use. -/
def TransferKind.isRingRead : TransferKind → Bool
  | .ring _ => true
  | .discardRing _ => true
  | _ => false

/-- What a ring read hands on. -/
def State.takeRingRead (s : State) (data : List Byte) : TransferKind → State
  | .ring _ => s.takeRingBytes data
  | .discardRing n => s.holdRecord n data
  | _ => s

/-- RING_READ: the bytes enter the read buffer, or are held for the discard that asked (R29). -/
def execRingRead (data : List Byte) (s : State) (late : Bool := false) : Host.Outcome State Fault Refusal :=
  .next (s.answered late (s.completed (·.isRingRead) data fun k s => s.takeRingRead data k))

/-- LINE (R49). -/
def execLineRecord (s : State) : Host.Outcome State Fault Refusal :=
  .next (State.settle s (s.takeRecord .line s.takeLine))

/-- JOB (R37). -/
def execJobRecord (s : State) : Host.Outcome State Fault Refusal :=
  .next (State.settle s (s.takeRecord .job fun n _ => s.takeJob n))

/-- END (R38). -/
def execEndRecord (s : State) : Host.Outcome State Fault Refusal :=
  .next (State.settle s (s.takeRecord .endJob s.takeEnd))

/-- MARK (R40). -/
def execMarkRecord (s : State) : Host.Outcome State Fault Refusal :=
  .next (State.settle s (s.takeRecord .mark s.takeMark))

/-- WRAP (R32). -/
def execWrapRecord (s : State) : Host.Outcome State Fault Refusal :=
  .next (State.settle s (s.takeRecord .wrap fun n _ => s.takeWrap n))

/-- DISCARD_RECORD (R44, R45). -/
def execDiscardRecord (s : State) : Host.Outcome State Fault Refusal := .next (State.settle s s.discardRecord)

/-- FORM_TRANSFER: the load goes on with its next step (R76). -/
def execFormTransfer (data : List Byte) (s : State) (late : Bool := false) : Host.Outcome State Fault Refusal :=
  .next (s.answered late (s.completed (·.isForm) data fun _ s => s.takeFormBytes data))

/-- FLUSH_TIMER_EXPIRY (R70). -/
def execFlushTimerExpiry (s : State) : Host.Outcome State Fault Refusal :=
  match s.comp.flush with
  | .running r => .next (State.settle s (s.elapse r).flushExpired)
  | _ => .next s

end Sys2Proof.Machine
end

