-- ==== Sys2Proof/Machine/ScanCommands.lean ====
section
/-! DEFINITION. The commands of a scan: its triggers' timer, its reads, and the requests it acts on (R6 to R10,
R21 to R28). -/

namespace Sys2Proof.Machine

/-- SWEEP_TIMER_EXPIRY: a scan trigger (R8, R9). -/
def execSweepTimerExpiry (s : State) : Host.Outcome State Fault Refusal :=
  match s.regs.sweepTimer with
  | some r =>
    let s1 := s.elapse r
    .next ({ s1 with regs := { s1.regs with sweepTimer := none } }.trigger).settleBus
  | none => .next s

/-- AREA_HEADER_READ: the header's five things are taken, and descriptor 0 is read next (R6). -/
def execAreaHeaderRead (data : List Byte) (s : State) (late : Bool := false) : Host.Outcome State Fault Refusal :=
  .next (s.answered late (s.completed (· = .areaHeader) data fun _ s => s.takeHeader data))

/-- A descriptor read of either kind. -/
def TransferKind.isDescriptorRead : TransferKind → Bool
  | .descriptor _ => true
  | .openRead _ => true
  | _ => false

/-- What a descriptor read hands on. -/
def State.takeDescriptorRead (s : State) (data : List Byte) : TransferKind → State
  | .descriptor n => s.takeDescriptor n data
  | .openRead n => s.takeRing n data
  | _ => s

/-- DESCRIPTOR_READ: the 8 bytes of the scan's read, or those of an OPEN's second read (R7, R21, R28, R154; log 30). -/
def execDescriptorRead (data : List Byte) (s : State) (late : Bool := false) : Host.Outcome State Fault Refusal :=
  .next (s.answered late (s.completed (·.isDescriptorRead) data fun k s => s.takeDescriptorRead data k))

/-- OPEN (R22). -/
def execOpen (s : State) : Host.Outcome State Fault Refusal :=
  match s.sc.phase with
  | .request n t base size => if t.code = .openRing then .next (State.settle s (s.doOpen n t base size)) else .next s
  | _ => .next s

/-- CLOSE (R23). -/
def execClose (s : State) : Host.Outcome State Fault Refusal :=
  .next (State.settle s (s.onRequest .close s.doClose))

/-- CANCEL (R24, R25). -/
def execCancel (s : State) : Host.Outcome State Fault Refusal :=
  .next (State.settle s (s.onRequest .cancel s.doCancel))

/-- RUSH (R26). -/
def execRush (s : State) : Host.Outcome State Fault Refusal :=
  .next (State.settle s (s.onRequest .rush s.doRush))

/-- RESET (R27). -/
def execReset (s : State) : Host.Outcome State Fault Refusal :=
  .next (State.settle s (s.onRequest .reset s.doReset))

/-- BAD_REQUEST: an unknown request code is answered and changes nothing else in the stream (R21). -/
def execBadRequest (s : State) : Host.Outcome State Fault Refusal :=
  .next (State.settle s (s.onRequest .unknown fun n t => s.answer n t .badRequest))

/-- FONT_DIRECTORY_READ: the directory is set aside, and the scan ends (R6, R141). -/
def execFontDirectoryRead (data : List Byte) (s : State) (late : Bool := false) : Host.Outcome State Fault Refusal :=
  .next (s.answered late (s.completed (· = .fontDirectory) data fun _ s => s.takeDirectory data))

end Sys2Proof.Machine
end

