-- ==== Sys2Proof/Machine/Dispatch.lean ====
section
/-! DEFINITION. Every command and its meaning, one arm a row of spec/opcode_table.json. -/

namespace Sys2Proof.Machine

/-- The effect of a command on everything but the queue. -/
def exec (i : Instr) (s : State) : Host.Outcome State Fault Refusal :=
  match i with
  | .powerOn => Sys2Proof.Machine.execPowerOn s
  | .runSet w => Sys2Proof.Machine.execRunSet w s
  | .runClear w => Sys2Proof.Machine.execRunClear w s
  | .deviceReset w => Sys2Proof.Machine.execDeviceReset w s
  | .glyphFlush w => Sys2Proof.Machine.execGlyphFlush w s
  | .sweepInterval w => Sys2Proof.Machine.execSweepInterval w s
  | .attention w => Sys2Proof.Machine.execAttention w s
  | .eventsWrite w => Sys2Proof.Machine.execEventsWrite w s
  | .eventMaskWrite w => Sys2Proof.Machine.execEventMaskWrite w s
  | .areaBaseWrite w => Sys2Proof.Machine.execAreaBaseWrite w s
  | .registerWriteIgnored offset w => Sys2Proof.Machine.execRegisterWriteIgnored offset w s
  | .deviceResetDone => Sys2Proof.Machine.execDeviceResetDone s
  | .sweepTimerExpiry => Sys2Proof.Machine.execSweepTimerExpiry s
  | .areaHeaderRead data late => Sys2Proof.Machine.execAreaHeaderRead data s late
  | .descriptorRead data late => Sys2Proof.Machine.execDescriptorRead data s late
  | .openRequest => Sys2Proof.Machine.execOpen s
  | .closeRequest => Sys2Proof.Machine.execClose s
  | .cancelRequest => Sys2Proof.Machine.execCancel s
  | .rushRequest => Sys2Proof.Machine.execRush s
  | .resetRequest => Sys2Proof.Machine.execReset s
  | .badRequest => Sys2Proof.Machine.execBadRequest s
  | .fontDirectoryRead data late => Sys2Proof.Machine.execFontDirectoryRead data s late
  | .ringRead data late => Sys2Proof.Machine.execRingRead data s late
  | .lineRecord => Sys2Proof.Machine.execLineRecord s
  | .jobRecord => Sys2Proof.Machine.execJobRecord s
  | .endRecord => Sys2Proof.Machine.execEndRecord s
  | .markRecord => Sys2Proof.Machine.execMarkRecord s
  | .wrapRecord => Sys2Proof.Machine.execWrapRecord s
  | .discardRecord => Sys2Proof.Machine.execDiscardRecord s
  | .formTransfer data late => Sys2Proof.Machine.execFormTransfer data s late
  | .flushTimerExpiry => Sys2Proof.Machine.execFlushTimerExpiry s
  | .descriptorWrite late => Sys2Proof.Machine.execDescriptorWrite s late
  | .requestFieldWrite late => Sys2Proof.Machine.execRequestFieldWrite s late
  | .deviceRecordWrite late => Sys2Proof.Machine.execDeviceRecordWrite s late
  | .busError late => Sys2Proof.Machine.execBusError s late
  | .limitTimerExpiry => Sys2Proof.Machine.execLimitTimerExpiry s
  | .bandBegin => Sys2Proof.Machine.execBandBegin s
  | .subBlockRead data late => Sys2Proof.Machine.execSubBlockRead data s late
  | .flushDirectoryRead data late => Sys2Proof.Machine.execFlushDirectoryRead data s late
  | .messageHandover => Sys2Proof.Machine.execMessageHandover s
  | .pollTimerExpiry => Sys2Proof.Machine.execPollTimerExpiry s
  | .answerTimerExpiry => Sys2Proof.Machine.execAnswerTimerExpiry s
  | .status f => Sys2Proof.Machine.execStatus f s
  | .exitFrame f => Sys2Proof.Machine.execExit f s
  | .refusedFrame f => Sys2Proof.Machine.execRefused f s
  | .badFrame f => Sys2Proof.Machine.execBadFrame f s
  | .startButton => Sys2Proof.Machine.execStart s
  | .stopButton => Sys2Proof.Machine.execStop s
  | .topOfForm => Sys2Proof.Machine.execTopOfForm s
  | .lineButton => Sys2Proof.Machine.execLineButton s
  | .lampTest => Sys2Proof.Machine.execLampTest s
  | .buttonRelease b => Sys2Proof.Machine.execButtonRelease b s
  | .repeatTimerExpiry => Sys2Proof.Machine.execRepeatTimerExpiry s
  | .lingerTimerExpiry => Sys2Proof.Machine.execLingerTimerExpiry s
  | .blinkHalf => Sys2Proof.Machine.execBlinkHalf s

end Sys2Proof.Machine
end

