-- ==== Sys2Proof/Safety.lean ====
section
/-! DEFINITION. What the part keeps whatever is commanded: the invariants the manual states, and the kinds of
command that may touch a given part of the state. -/

namespace Sys2Proof.Machine

/-! ## Invariants -/

/-- Host memory as the part's writes left it is in its canonical form. -/
def State.MemoryCanonical (s : State) : Prop := s.hostMem.wf = true

/-- At most one stream is ACTIVE (R35). -/
def State.OneActive (s : State) : Prop :=
  ∀ m n, (s.stream m).state = .active → (s.stream n).state = .active → m = n

/-- The Job Queue holds no stream twice and only QUEUED streams whose discard flag is clear (R34); the ACTIVE stream
does not discard. -/
def State.QueueSound (s : State) : Prop :=
  s.sc.queue.Nodup ∧ (∀ n ∈ s.sc.queue, (s.stream n).state = .queued ∧ (s.stream n).discard = false) ∧
    ∀ n, (s.stream n).state = .active → (s.stream n).discard = false

/-- A FREE slot holds no strike and is not the composing page (R97). -/
def Slot.FreeIsEmpty (sl : Slot) : Prop := sl.state = .free → sl.strikes = [] ∧ sl.mark = false

/-- The strike pool entries in use are those the slots hold, and do not exceed 1,024 (R100); no line holds more
than four strikes (R64). -/
def State.PoolSound (s : State) : Prop :=
  (∀ i, (s.slot i).FreeIsEmpty) ∧
    s.store.poolUsed = (allSlots.map fun i => (s.slot i).strikes.length).sum ∧
    s.store.poolUsed ≤ Config.poolSize ∧
    ∀ i line, (s.slot i).strikesOn line ≤ Config.lineStrikes

/-- The count of band room stays between 0 and 2 (R169), the sent list holds at most four messages and the
missed-poll count is at most 3 (R164). -/
def State.EngineBounds (s : State) : Prop :=
  s.engine.bandRoom ≤ 2 ∧ s.engine.sent.length ≤ Config.sentMax ∧ s.engine.missed ≤ 3

/-! ## Kinds of command -/

/-- The commands that are a power-on or a write to a register, and the end of a device reset. -/
def isRegisterCommand : Instr → Bool
  | .powerOn | .runSet _ | .runClear _ | .deviceReset _ | .glyphFlush _ | .sweepInterval _ | .attention _
  | .eventsWrite _ | .eventMaskWrite _ | .areaBaseWrite _ | .registerWriteIgnored _ _ | .deviceResetDone => true
  | _ => false

/-- The commands by which the bus ends a transfer. -/
def isBusOutcome : Instr → Bool
  | .areaHeaderRead _ _ | .descriptorRead _ _ | .fontDirectoryRead _ _ | .ringRead _ _ | .formTransfer _ _ | .subBlockRead _ _
  | .flushDirectoryRead _ _ | .descriptorWrite _ | .requestFieldWrite _ | .deviceRecordWrite _ | .busError _
  | .limitTimerExpiry => true
  | _ => false

/-- The commands that may move or disarm a button: presses, releases, power-on, and the CONTROL writes that can
be a device reset. -/
def isButtonCommand : Instr → Bool
  | .startButton | .stopButton | .topOfForm | .lineButton | .lampTest | .buttonRelease _ => true
  | .powerOn | .runSet _ | .runClear _ | .deviceReset _ | .glyphFlush _ | .sweepInterval _
  | .registerWriteIgnored _ _ => true
  | _ => false

/-- The commands that are a CONTROL write (R2). -/
def isControlWrite (w : HostWrite) (c : Instr) : Prop :=
  c = .runSet w ∨ c = .runClear w ∨ c = .deviceReset w ∨ c = .glyphFlush w ∨ c = .sweepInterval w

/-! ## When the Composer stands still -/

/-- No form check is due or waits for a font directory (R76, step 4). -/
def FormUnit.noCheck : FormUnit → Bool
  | .loading l => decide (l.step ≠ .check)
  | _ => true

/-- Nothing of the Composer moves by itself: it waits for no slot and no strike entry (R66, R65), no failed read
stands behind the read buffer (R43), and no form check is due (R76). -/
structure State.Composed (s : State) : Prop where
  waits : s.comp.waits = false
  readFailed : s.sc.readFailed = false
  noCheck : s.form.noCheck = true

/-- The Job Queue grants nothing in the same step: a stream is ACTIVE, none is queued, or RUN is 0 (R35). -/
def State.GrantsNothing (s : State) : Prop := s.owner ≠ none ∨ s.sc.queue = [] ∨ s.regs.run = false

/-! ## When a band is begun -/

/-- A BAND_BEGIN comes to the rows of slot `i` from `row` on: the Builder is STILL with the leave to image and no flush
under way, and `i` is the head of imaging, with the entry `e` (R122, R123, R148). A slot new to the Builder starts at
the entry's first row with nothing pending; the Builder's own goes on at next row, behind the slew `pend` that waits
(R129). -/
structure State.BandFrom (s : State) (i : Fin 4) (e : Entry) (row : Nat) (pend : Option PendingSlew) : Prop where
  noReset : s.regs.resetBusy = false
  still : s.builder.state = .still
  leave : s.leave = true
  noFlush : s.cache.flush = .none
  composed : s.Composed
  head : s.head = some i
  entry : (s.slot i).entry = some e
  place : (s.builder.slot = some i ∧ s.builder.nextRow = row ∧ s.builder.slew = pend) ∨
    (s.builder.slot ≠ some i ∧ e.first = row ∧ pend = none)

/-! ## What statements compare -/

/-- What the scan and the registers' counts hold: the part of the Stream Controller that records, requests and
faults leave alone. -/
structure ScanView where
  scan : ScanState
  phase : ScanPhase
  cut : Bool
  streamCount : Nat
  formCount : Nat
  fontCount : Nat
  firstPage : BitVec 8
  dirOwed : Bool
  recordOwed : Bool

/-- The scan's part of the Stream Controller. -/
def StreamController.view (c : StreamController) : ScanView :=
  ⟨c.scan, c.phase, c.cut, c.streamCount, c.formCount, c.fontCount, c.firstPage, c.dirOwed, c.recordOwed⟩

/-- A stream record but for its wait reason and its job report, which the settlement itself keeps. -/
def StreamRec.core (r : StreamRec) : StreamRec :=
  { r with wait := .none, jobTag := 0, jobOutcome := .noneYet, jobPages := 0, reports := [] }

/-- How many slots of stream `n` a reversion changes: IMAGING, SENT, or COMPOSING with a split row above 0 (R117,
R179). -/
def State.slotsBegun (s : State) (n : Fin 8) : Nat :=
  allSlots.countP fun i => decide ((s.slot i).stream = n ∧ ((s.slot i).state = .imaging ∨ (s.slot i).state = .sent ∨
    ((s.slot i).state = .composing ∧ 0 < (s.slot i).split)))

/-! ## Owed writes and transfers on the bus -/

/-- An owed write carries at least what another asks for: of the same kind and stream, with its event, its job
report and its result (R160). -/
def Owed.Covers (w o : Owed) : Prop :=
  w.kind = o.kind ∧ (o.event = true → w.event = true) ∧ (o.report = true → w.report = true) ∧
    (o.result = true → w.result = true)

/-- The Status Writer owes a write that carries at least `o`: it waits, or is issued and has not ended. -/
def State.Owes (s : State) (o : Owed) : Prop := ∃ w ∈ s.writer.waiting ++ s.writer.issued.toList, w.Covers o

/-- The transfer of kind `k` and `len` bytes stands on the bus, its outcome wanted, outside a device reset. -/
def State.OnBus (s : State) (k : TransferKind) (len : Nat) : Prop :=
  s.regs.resetBusy = false ∧
    ∃ t, s.mtu.inFlight = some t ∧ t.wanted = true ∧ t.request.kind = k ∧ t.request.len = len ∧ t.request.data = []

/-- The write of kind `k` stands on the bus, its outcome wanted, outside a device reset. -/
def State.WritingOnBus (s : State) (k : TransferKind) : Prop :=
  s.regs.resetBusy = false ∧
    ∃ t, s.mtu.inFlight = some t ∧ t.wanted = true ∧ t.request.kind = k ∧ t.request.data.length = t.request.len

end Sys2Proof.Machine
end

