-- ==== Sys2Proof/Certificates/Slice0/Obligations.lean ====
section
/-! DEFINITION. The statements for the provers. "The settled Composer" of a hypothesis is `State.Composed`: no wait,
no missing bytes and no form check of the Composer ends in the same step. -/

section
open Sys2Proof Sys2Proof.Machine

/-! ## The machine as a whole -/

/-- A step runs the command at the front of the queue, with the queue's rest. The model's choice (log 2): with nothing
waiting one millisecond passes, every running timer and the blink clock's lose it, and nothing else changes. -/
def Obligations.StepRunsTheFrontCommand : Prop :=
  (∀ (c : Instr) (q : List Instr) (s : State), step (s.withPending (c :: q)) = exec c (s.withPending q)) ∧
    ∀ s : State, s.pending = [] →
      ∃ t, step s = .next t ∧ t.now = s.now + 1 ∧
        (∀ r, s.regs.sweepTimer = some r → t.regs.sweepTimer = some (r - 1)) ∧
        (∀ r, s.engine.pollTimer = some r → t.engine.pollTimer = some (r - 1)) ∧
        (∀ r, s.engine.answerTimer = some r → t.engine.answerTimer = some (r - 1)) ∧
        (∀ r, s.mtu.limit = some r → t.mtu.limit = some (r - 1)) ∧
        (∀ r, s.panel.repeatTimer = some r → t.panel.repeatTimer = some (r - 1)) ∧
        (∀ r, s.panel.linger = some r → t.panel.linger = some (r - 1)) ∧
        (∀ r, s.comp.flush = .running r → t.comp.flush = .running (r - 1)) ∧
        (∀ r, s.comp.flush = .paused r → t.comp.flush = .paused r) ∧
        t = { s with
          now := s.now + 1
          regs := { s.regs with sweepTimer := s.regs.sweepTimer.map (· - 1) }
          comp := { s.comp with flush := s.comp.flush.lapse 1 }
          mtu := { s.mtu with limit := s.mtu.limit.map (· - 1) }
          engine := { s.engine with
            pollTimer := s.engine.pollTimer.map (· - 1)
            answerTimer := s.engine.answerTimer.map (· - 1) }
          panel := { s.panel with
            repeatTimer := s.panel.repeatTimer.map (· - 1)
            linger := s.panel.linger.map (· - 1)
            blinkTimer := s.panel.blinkTimer - 1 } }

/-- Every command ends in a next state, and none touches the queue of waiting commands. -/
def Obligations.CommandsKeepTheQueue : Prop :=
  ∀ (c : Instr) (s : State), ∃ t, exec c s = .next t ∧ t.pending = s.pending

/-- Frame: RUN, the reset indication, the sweep interval, EVENT_MASK, AREA_BASE and RSTIMG are changed by
register commands and power-on alone; a button moves or is disarmed by a press, a release, a power-on or a CONTROL
write alone. -/
def Obligations.OnlyTheirCommandsChangeSettingsAndButtons : Prop :=
  ∀ (c : Instr) (s t : State), exec c s = .next t →
    (isRegisterCommand c = false →
      t.regs.run = s.regs.run ∧ t.regs.resetBusy = s.regs.resetBusy ∧
        t.regs.sweepInterval = s.regs.sweepInterval ∧ t.regs.eventMask = s.regs.eventMask ∧
        t.regs.areaBase = s.regs.areaBase ∧ t.regs.rstimg = s.regs.rstimg) ∧
    (isButtonCommand c = false → t.panel.buttons = s.panel.buttons)

/-- Frame: host memory is changed only where a transfer of the part ends, and then only at the bytes of the
write on the bus. -/
def Obligations.OnlyTheWriteOnTheBusTouchesHostMemory : Prop :=
  ∀ (c : Instr) (s t : State), exec c s = .next t →
    (isBusOutcome c = false → t.hostMem = s.hostMem) ∧
      (s.mtu.inFlight = none → t.hostMem = s.hostMem) ∧
      (∀ x, s.mtu.inFlight = some x → s.MemoryCanonical →
        ∀ a, (∀ k < x.request.data.length, (addrAt x.request.addr k).toNat ≠ a) →
          t.hostMem.read a = s.hostMem.read a)

/-! ## Invariants that every step keeps -/

/-- Every step keeps the canonical form of host memory. -/
def Obligations.MemoryStaysCanonical : Prop :=
  ∀ s t : State, s.MemoryCanonical → step s = .next t → t.MemoryCanonical

/-- Every step leaves at most one stream ACTIVE. -/
def Obligations.OneStreamStaysActive : Prop :=
  ∀ s t : State, s.OneActive → step s = .next t → t.OneActive

/-- Every step keeps the Job Queue sound: no stream twice, only QUEUED streams that do not discard; a sound queue holds
at most 8 entries. -/
def Obligations.JobQueueStaysSound : Prop :=
  ∀ s : State, s.QueueSound → s.sc.queue.length ≤ 8 ∧ ∀ t, step s = .next t → t.QueueSound

/-- Every step keeps the strike pool sound. -/
def Obligations.StrikePoolStaysSound : Prop :=
  ∀ s t : State, s.PoolSound → step s = .next t → t.PoolSound

/-- Every step keeps the Engine Controller's counts in their bounds. -/
def Obligations.EngineBoundsStay : Prop :=
  ∀ s t : State, s.EngineBounds → step s = .next t → t.EngineBounds

/-- The state right after power-on meets every invariant. -/
def Obligations.ResetMeetsTheInvariants : Prop :=
  State.reset.MemoryCanonical ∧ State.reset.OneActive ∧ State.reset.QueueSound ∧ State.reset.PoolSound ∧
    State.reset.EngineBounds

/-! ## The Register Window -/

/-- POWER_ON: every register, stream, slot, cache entry, timer and count as the manual gives it. The model's choices
where the manual gives none: a stream's flush interval, ring base and ring size (log 47), next row (log 52), the
poll timer (log 7), the blink clock (log 8). What stands outside the part stays: log 35. -/
def Obligations.PowerOnPutsEveryBlockInItsResetState : Prop :=
  ∀ s : State, ∃ t, exec .powerOn s = .next t ∧
    (t.regs.run = false ∧ t.regs.resetBusy = false ∧ t.regs.sweepInterval = 0 ∧ t.regs.events = 0 ∧
      t.regs.eventMask = 0 ∧ t.regs.areaBase = 0 ∧ t.regs.rstimg = false ∧ t.regs.sweepTimer = none) ∧
    (∀ n, t.stream n = {
      state := .closed
      ringBase := 0
      ringSize := 0
      fill := 0
      take := 0
      release := 0
      rush := false
      discard := false
      fault := .none
      wait := .none
      result := .noneYet
      flushSecs := 0
      recordsTaken := 0
      pagesExited := 0
      reprints := 0
      late := 0
      excess := 0
      overrun := 0
      substitutes := 0
      pageNo := 0
      cursorLine := 0
      markTag := 0
      jobTag := 0
      jobOutcome := .noneYet
      jobPages := 0
      reports := []
      clearOwed := false
      discardReports := false
      discardTag := none
      discardStalled := false
      heldExits := 0 }) ∧
    t.sc.queue = [] ∧ t.sc.phase = .none ∧ t.sc.cut = false ∧ t.sc.readFailed = false ∧ t.sc.held = none ∧
    t.sc.scan = .noScan ∧ t.sc.buffer = [] ∧ t.sc.dirOwed = true ∧ t.sc.recordOwed = true ∧
    t.sc.streamCount = 1 ∧ t.sc.formCount = 1 ∧ t.sc.fontCount = 1 ∧ t.sc.firstPage = 0 ∧
    t.comp = { state := .noOwner, cursor := none, flush := .stopped, job := none, waiting := none } ∧ t.form = .empty ∧
    (∀ i, t.slot i = Slot.free) ∧ t.store.imaging = [] ∧ t.store.poolUsed = 0 ∧ t.store.lastOpened = 3 ∧
    t.builder = {
      state := .still
      slot := none
      nextRow := 0
      work := none
      slew := none
      offer := []
      rebuilt := [] } ∧
    t.cache.inForce = none ∧ t.cache.aside = none ∧ t.cache.fill = none ∧ t.cache.flush = .none ∧
    t.cache.hits = 0 ∧ t.cache.misses = 0 ∧ t.cache.faults = 0 ∧
    (∀ k : Fin 32, t.cache.sets[k].order = [0, 1, 2, 3] ∧
      ∀ w : Fin 4, t.cache.sets[k].ways[w].tag = none ∧ ∀ b : Fin 4, t.cache.sets[k].ways[w].subs[b] = none) ∧
    t.mtu.inFlight = none ∧ (∀ q, t.mtu.place q = .empty) ∧ t.mtu.pointer = .streamReader ∧ t.mtu.limit = none ∧
    t.writer = {
      waiting := []
      issued := none
      secondHalf := false
      failureWaits := false
      failureIssued := false } ∧
    t.engine = {
      state := .offline
      holdOwed := .none
      mountedStock := 0
      mountedLength := 0
      mountedPitch := none
      alignment := .unknown
      bandRoom := 0
      handed := 0
      pageSeq := 0
      bandSeq := 0
      frameSeq := 0
      expected := none
      sent := []
      halting := false
      cond := Condition.cleared
      lastExit := none
      pollTimer := some 0
      answerTimer := none
      missed := 0
      pollAt := 0 } ∧
    (∀ b, (t.panel.buttons.get b).armed = false ∧ (t.panel.buttons.get b).down = (s.panel.buttons.get b).down) ∧
    t.panel.lamps = #v[.ready, .attention, .activity, .formsLow] ∧ t.panel.repeatTimer = none ∧
    t.panel.repeatPhase = .none ∧ t.panel.lineOwed = false ∧ t.panel.linger = none ∧ t.panel.blinkPhase = 0 ∧
    t.panel.blinkTimer = 125 ∧
    t.counts = DeviceCounts.zero ∧ t.interrupt = false ∧
    t.hostMem = s.hostMem ∧ t.linkOut = s.linkOut ∧ t.now = s.now ∧ t.pending = s.pending

/-- RUN_SET on a part with an area: RUN becomes 1, a scan begins with its header read, which is on the bus at once where
nothing else is, a paused flush timer resumes, and a hold with HOST_PAUSE gives way to the state of the image gate. -/
def Obligations.RunSetStartsAScan : Prop :=
  ∀ (w : HostWrite) (s : State), s.regs.resetBusy = false → w.word.getLsbD 1 = false → w.word.getLsbD 0 = true →
    s.regs.run = false → s.hasArea = true → s.sc.scan = .noScan → s.Composed → s.refusalWaits = false →
    ∃ t, exec (.runSet w) s = .next t ∧ t.regs.run = true ∧ t.regs.sweepInterval = intervalField w.word ∧
      t.sc.scan = .scanning ∧ t.sc.phase = .header ∧ t.regs.sweepTimer = none ∧
      (∀ ms, s.comp.flush = .paused ms → s.owner ≠ none → t.comp.flush = .running ms) ∧
      (s.engine.state = .held .hostPause → s.engine.holdOwed = .none → t.engine.state = s.gate) ∧
      (∀ r, s.engine.state = .held r → r ≠ .hostPause → t.engine.state = .held r) ∧
      (s.mtu = TransferUnit.initial → s.cache.fill = none → s.sc.queue = [] → (∀ n, (s.stream n).state = .closed) →
        t.mtu.inFlight = some ⟨.streamReader, ⟨.areaHeader, s.regs.areaBase, 64, []⟩, true⟩ ∧ t.mtu.limit = some 1 ∧
          t.mtu.pointer = .formLoader) ∧
      t.store = s.store ∧ t.form = s.form ∧ t.builder = s.builder ∧ t.regs.eventMask = s.regs.eventMask ∧
      t.regs.areaBase = s.regs.areaBase ∧ t.regs.rstimg = s.regs.rstimg ∧ t.hostMem = s.hostMem ∧
      t.linkOut = s.linkOut ∧ t.panel = s.panel

/-- A RUN field of 1 without an area, or with RUN already 1, leaves RUN, the scan and the engine as they are (the
engine, where no hold is owed and its state is the one the image gate gives, or is none that the gate moves);
SWEEP_INTERVAL: the interval field of any such CONTROL write is stored, and the timer restarts from it. -/
def Obligations.ControlStoresTheInterval : Prop :=
  (∀ w : HostWrite, (∀ k < 32, w.word.getLsbD k = (w.lanes.getLsbD (k / 8) && w.value.getLsbD k)) ∧
    ∀ k < 8, (intervalField w.word).getLsbD k = w.word.getLsbD (8 + k)) ∧
  (∀ s : State, s.hasArea = true ↔ s.regs.areaBase.toNat ≠ 0 ∧ s.regs.areaBase.toNat % 4096 = 0) ∧
  ∀ (w : HostWrite) (c : Instr) (s : State), isControlWrite w c → s.regs.resetBusy = false →
    w.word.getLsbD 1 = false → w.word.getLsbD 2 = false →
    (w.word.getLsbD 0 = s.regs.run ∨ (w.word.getLsbD 0 = true ∧ s.hasArea = false)) → s.Composed →
    s.refusalWaits = false →
    ∃ t, exec c s = .next t ∧ t.regs.sweepInterval = intervalField w.word ∧ t.regs.run = s.regs.run ∧
      t.regs.sweepTimer = (if s.regs.run = true ∧ s.hasArea = true ∧ intervalField w.word ≠ 0 ∧ s.sc.scan = .noScan
        then some ((intervalField w.word).toNat * 10) else none) ∧
      t.sc.view = s.sc.view ∧ (s.cache.flush = .none → t.cache.flush = .none) ∧ t.store = s.store ∧ t.form = s.form ∧
      t.builder = s.builder ∧ t.regs.eventMask = s.regs.eventMask ∧ t.regs.areaBase = s.regs.areaBase ∧
      t.regs.rstimg = s.regs.rstimg ∧ t.hostMem = s.hostMem ∧ t.linkOut = s.linkOut ∧ t.panel = s.panel ∧
      (s.engine.holdOwed = .none → s.gate = s.engine.state ∨ s.engine.halting = true ∨
          (s.engine.state ≠ .idle ∧ s.engine.state ≠ .feeding ∧ s.engine.state ≠ .formsWait) →
        t.engine = s.engine)

/-- RUN_CLEAR pauses the part: the sweep and flush timers stop, the flush timer keeping its time; a scan whose next
read has not been asked for ends, one whose read is pending or on the bus ends after it, and one acting on a request
or at the second read of an OPEN is cut after it; no transfer is disturbed; an idle engine is held with HOST_PAUSE at
once, a feeding one at the band boundary, and in any other state it stays. Which steps of a scan count as acting: log
12. -/
def Obligations.RunClearPauses : Prop :=
  (∀ s : State, (s.atBoundary = true ↔ s.builder.state = .still ∨ s.builder.state = .offering) ∧
    (s.scanIssued = true ↔ ∃ r : Request,
      (s.mtu.reader = .pending r ∨ ∃ t, s.mtu.inFlight = some t ∧ t.wanted = true ∧ t.request = r) ∧
        (r.kind = .areaHeader ∨ r.kind = .fontDirectory ∨ ∃ n, r.kind = .descriptor n ∨ r.kind = .openRead n))) ∧
  ∀ (w : HostWrite) (s : State), s.regs.resetBusy = false → w.word.getLsbD 1 = false → w.word.getLsbD 0 = false →
    s.regs.run = true → s.Composed → s.refusalWaits = false →
    ∃ t, exec (.runClear w) s = .next t ∧ t.regs.run = false ∧ t.regs.sweepTimer = none ∧
      (∀ ms, s.comp.flush = .running ms → t.comp.flush = .paused ms) ∧ t.comp.state = s.comp.state ∧
      (∀ n, (t.stream n).state = (s.stream n).state) ∧ t.sc.queue = s.sc.queue ∧
      (s.sc.phase = .header ∨ (∃ n, s.sc.phase = .descriptor n) ∨ s.sc.phase = .directory → s.scanIssued = false →
        t.sc.phase = .none ∧ t.sc.scan = .noScan) ∧
      (s.sc.phase = .header ∨ (∃ n, s.sc.phase = .descriptor n) ∨ s.sc.phase = .directory → s.scanIssued = true →
        t.sc.phase = s.sc.phase ∧ t.sc.scan = .scanning ∧ t.sc.cut = true) ∧
      (∀ x, s.mtu.inFlight = some x → t.mtu.inFlight = some x) ∧
      (∀ n x b z, s.sc.phase = .request n x b z → t.sc.phase = s.sc.phase ∧ t.sc.scan = .scanning ∧ t.sc.cut = true) ∧
      (∀ n x, s.sc.phase = .acting n x → t.sc.phase = s.sc.phase ∧ t.sc.scan = .scanning ∧ t.sc.cut = true) ∧
      (s.engine.state = .idle → t.engine.state = .held .hostPause ∧ t.regs.events.getLsbD 8 = true) ∧
      (s.engine.state = .feeding → s.engine.holdOwed = .none → s.atBoundary = true →
        t.engine.state = .held .hostPause ∧ t.regs.events.getLsbD 8 = true) ∧
      (s.engine.state = .feeding → s.engine.holdOwed = .none → s.atBoundary = false → s.gate = .feeding →
        t.engine.state = .feeding ∧ t.engine.holdOwed = .hostPause) ∧
      (s.engine.state = .offline ∨ s.engine.state = .jammed ∨ (∃ r, s.engine.state = .held r) →
        t.engine.state = s.engine.state) ∧
      (s.engine.state = .formsWait → s.engine.holdOwed = .none → s.gate = .formsWait → t.engine.state = .formsWait) ∧
      (∀ n x, s.sc.phase = .openRead n x → t.sc.phase = s.sc.phase ∧ t.sc.scan = .scanning ∧ t.sc.cut = true) ∧
      t.store = s.store ∧ t.form = s.form ∧ t.builder = s.builder ∧ t.regs.eventMask = s.regs.eventMask ∧
      t.regs.areaBase = s.regs.areaBase ∧ t.regs.rstimg = s.regs.rstimg ∧ t.hostMem = s.hostMem ∧
      t.linkOut = s.linkOut ∧ t.panel = s.panel

/-- GLYPH_FLUSH: the flush indication reads 1; in a band the flush waits for the boundary, at one it empties the
cache, or waits for the fill in flight. A directory set aside is in force before it (DEDUCED, log 28). -/
def Obligations.GlyphFlushIsAskedFor : Prop :=
  ∀ (w : HostWrite) (s : State), s.regs.resetBusy = false → w.word.getLsbD 1 = false → w.word.getLsbD 2 = true →
    w.word.getLsbD 0 = s.regs.run → s.cache.flush = .none → s.Composed → s.refusalWaits = false →
    ∃ t, exec (.glyphFlush w) s = .next t ∧ (t.readRegister 0x00).getLsbD 2 = true ∧
      (s.atBoundary = false → t.cache = { s.cache with flush := .owed }) ∧
      (s.atBoundary = true → s.cache.fill ≠ none → t.cache.flush = .waitFill ∧
        (s.cache.aside = none → t.cache = { s.cache with flush := .waitFill })) ∧
      (s.atBoundary = true → s.cache.fill = none → t.cache.flush = .reading ∧
        (∀ k : Fin 32, t.cache.sets[k] = CacheSet.empty) ∧
        (s.cache.aside = none → t.cache.inForce = s.cache.inForce)) ∧
      (∀ d, s.atBoundary = true → s.cache.aside = some d → t.cache.inForce = some d ∧ t.cache.aside = none ∧
        ∀ k : Fin 32, t.cache.sets[k] = CacheSet.empty) ∧
      t.cache.fill = s.cache.fill ∧ t.cache.hits = s.cache.hits ∧ t.cache.misses = s.cache.misses ∧
      t.cache.faults = s.cache.faults ∧
      t.regs.run = s.regs.run ∧ t.sc.view = s.sc.view ∧ t.store = s.store ∧ t.form = s.form ∧ t.builder = s.builder ∧
      t.hostMem = s.hostMem ∧ t.linkOut = s.linkOut ∧ t.panel = s.panel

/-- DEVICE_RESET: RUN 0, EVENTS clear, the interval of the write kept, EVENT_MASK and AREA_BASE kept, RSTIMG set
when paper is in motion; every block at its reset state, the streams' pointers, counters, tags, fault code and result
kept; HALT goes out first, and then POLL, which starts the poll and answer timers (at once: log 11). -/
def Obligations.DeviceResetStopsEveryBlock : Prop :=
  (∀ s : State, s.anyBegun = true ↔ ∃ i, (s.slot i).state = .imaging ∨ (s.slot i).state = .sent ∨
    ((s.slot i).state = .composing ∧ 0 < (s.slot i).split)) ∧
  ∀ (w : HostWrite) (s : State), s.regs.resetBusy = false → w.word.getLsbD 1 = true →
    ∃ t, exec (.deviceReset w) s = .next t ∧ t.regs.run = false ∧ t.regs.resetBusy = true ∧ t.regs.events = 0 ∧
      t.regs.sweepInterval = intervalField w.word ∧ t.regs.eventMask = s.regs.eventMask ∧
      t.regs.areaBase = s.regs.areaBase ∧ t.regs.rstimg = (s.regs.rstimg || s.anyBegun) ∧ t.regs.sweepTimer = none ∧
      t.interrupt = false ∧
      (∀ n, (t.stream n).state = .closed ∧ (t.stream n).rush = false ∧ (t.stream n).clearOwed = false ∧
        (t.stream n).recordsTaken = (s.stream n).recordsTaken ∧ (t.stream n).pagesExited = (s.stream n).pagesExited ∧
        (t.stream n).take = (s.stream n).take ∧ (t.stream n).markTag = (s.stream n).markTag ∧
        (t.stream n).release = (s.stream n).release ∧ (t.stream n).fill = (s.stream n).fill ∧
        (t.stream n).fault = (s.stream n).fault ∧ (t.stream n).result = (s.stream n).result ∧
        (t.stream n).reprints = (s.stream n).reprints ∧ (t.stream n).late = (s.stream n).late ∧
        (t.stream n).excess = (s.stream n).excess ∧ (t.stream n).overrun = (s.stream n).overrun ∧
        (t.stream n).substitutes = (s.stream n).substitutes ∧ (t.stream n).pageNo = (s.stream n).pageNo ∧
        (t.stream n).cursorLine = (s.stream n).cursorLine ∧ (t.stream n).jobTag = (s.stream n).jobTag ∧
        (t.stream n).jobOutcome = (s.stream n).jobOutcome ∧ (t.stream n).jobPages = (s.stream n).jobPages ∧
        (t.stream n).discard = false ∧ (t.stream n).reports = [] ∧ (t.stream n).wait = .none) ∧
      t.sc.queue = [] ∧ t.sc.scan = .noScan ∧ t.sc.phase = .none ∧ t.sc.buffer = [] ∧ t.sc.dirOwed = true ∧
      t.comp = Composer.initial ∧ t.form = .empty ∧ (∀ i, t.slot i = Slot.free) ∧ t.store.imaging = [] ∧
      t.store.poolUsed = 0 ∧ t.builder = BandBuilder.initial ∧ t.cache = GlyphCache.initial ∧
      t.writer = StatusWriter.initial ∧ (∀ q r, t.mtu.place q ≠ .pending r) ∧ t.mtu.pointer = .streamReader ∧
      (∀ x, t.mtu.inFlight = some x → x.wanted = false) ∧
      t.engine.state = .offline ∧ t.engine.missed = 0 ∧ t.engine.mountedStock = 0 ∧ t.engine.alignment = .unknown ∧
      t.engine.bandRoom = 0 ∧ t.engine.sent = [] ∧ t.engine.cond = Condition.cleared ∧ t.engine.pageSeq = 0 ∧
      t.engine.bandSeq = 0 ∧ t.engine.holdOwed = .none ∧ t.engine.halting = false ∧ t.engine.expected = none ∧
      t.engine.lastExit = none ∧ t.engine.mountedPitch = none ∧ t.panel.lineOwed = false ∧
      t.engine.pollTimer = some 20 ∧ t.engine.answerTimer = some 5 ∧ t.engine.pollAt = s.now ∧
      (∀ b, (t.panel.buttons.get b).armed = false ∧ (t.panel.buttons.get b).down = (s.panel.buttons.get b).down) ∧
      t.panel.lamps = #v[.ready, .attention, .activity, .formsLow] ∧ t.panel.repeatTimer = none ∧
      t.panel.linger = none ∧ t.counts = DeviceCounts.zero ∧
      t.linkOut = s.linkOut ++ [⟨0, .halt⟩, ⟨1, .poll⟩] ∧ t.hostMem = s.hostMem

/-- During a device reset CONTROL and ATTENTION writes are ignored; DEVICE_RESET_DONE ends it once the bus is
free and changes nothing else. -/
def Obligations.DeviceResetEndsWhenTheBusIsFree : Prop :=
  ∀ s : State, s.regs.resetBusy = true →
    (∀ w c, isControlWrite w c → exec c s = .next s) ∧
      (∀ w, s.regs.run = false → exec (.attention w) s = .next s) ∧
      (s.mtu.inFlight = none → ∃ t, exec .deviceResetDone s = .next t ∧ t.regs.resetBusy = false ∧
        t = { s with regs := { s.regs with resetBusy := t.regs.resetBusy } }) ∧
      (s.mtu.inFlight ≠ none → exec .deviceResetDone s = .next s)

/-- ATTENTION and SWEEP_TIMER_EXPIRY are scan triggers: one begins a scan, one more is owed, and further ones are
merged; without RUN or an area ATTENTION is ignored. -/
def Obligations.TriggersBeginOneScanAndOweOne : Prop :=
  (∀ (w : HostWrite) (s : State), s.regs.run = false ∨ s.hasArea = false →
    ∃ t, exec (.attention w) s = .next t ∧ t.regs = s.regs ∧ t.sc.scan = s.sc.scan ∧ t.sc.phase = s.sc.phase ∧
      t.sc.streams = s.sc.streams ∧ t.sc.queue = s.sc.queue ∧ t.comp = s.comp ∧ t.store = s.store ∧
      t.form = s.form ∧ t.builder = s.builder ∧ t.cache = s.cache ∧ t.engine = s.engine ∧ t.panel = s.panel ∧
      t.linkOut = s.linkOut ∧ t.hostMem = s.hostMem) ∧
  ∀ (w : HostWrite) (c : Instr) (s : State), s.regs.resetBusy = false →
    (c = .attention w ∨ (c = .sweepTimerExpiry ∧ s.regs.sweepTimer ≠ none)) → s.regs.run = true → s.hasArea = true →
    ∃ t, exec c s = .next t ∧
      (s.sc.scan = .noScan → t.sc.scan = .scanning ∧ t.sc.phase = .header ∧ t.regs.sweepTimer = none) ∧
      (s.sc.scan ≠ .noScan → t.sc.scan = .scanningOwed ∧ t.sc.phase = s.sc.phase) ∧
      t.regs.run = s.regs.run ∧ t.regs.events = s.regs.events ∧ t.sc.streams = s.sc.streams ∧
      t.sc.queue = s.sc.queue ∧ t.comp.state = s.comp.state ∧ t.store = s.store ∧ t.form = s.form ∧
      t.builder = s.builder ∧ t.cache = s.cache ∧ t.linkOut = s.linkOut ∧ t.hostMem = s.hostMem ∧
      t.engine.state = s.engine.state

/-- EVENTS: a raise sets bits outside a device reset, EVENTS_WRITE clears each bit written as 1 and changes nothing
else, power-on and a device reset clear all, no other command clears one, and a reset raises none. -/
def Obligations.EventsAreClearedByTheHostAlone : Prop :=
  (∀ (s : State) b, s.regs.resetBusy = false → (s.raise b).regs.events = s.regs.events ||| b) ∧
    (∀ (w : HostWrite) (s : State), ∃ t, exec (.eventsWrite w) s = .next t ∧
      (∀ k, k < 11 → t.regs.events.getLsbD k = (s.regs.events.getLsbD k && !w.word.getLsbD k)) ∧
      t = { s with regs := { s.regs with events := t.regs.events } }) ∧
    (∀ s : State, ∃ t, exec .powerOn s = .next t ∧ t.regs.events = 0) ∧
    (∀ w c (s : State), isControlWrite w c → s.regs.resetBusy = false → w.word.getLsbD 1 = true →
      ∃ t, exec c s = .next t ∧ t.regs.events = 0) ∧
    (∀ c (s t : State), c ≠ .powerOn → (∀ w, c ≠ .eventsWrite w) →
      (∀ w, isControlWrite w c → w.word.getLsbD 1 = false) → (∀ w, c ≠ .registerWriteIgnored 0 w ∧ c ≠ .registerWriteIgnored 8 w) →
      exec c s = .next t → ∀ k, s.regs.events.getLsbD k = true → t.regs.events.getLsbD k = true) ∧
    (∀ c (s t : State), s.regs.resetBusy = true → s.regs.events = 0 → exec c s = .next t → t.regs.events = 0)

/-- The interrupt line is asserted exactly while EVENTS AND EVENT_MASK is not zero; EVENT_MASK_WRITE is taken whatever
RUN and during a device reset, and reads back; power-on and the start of a device reset release the line, the
latter keeping EVENT_MASK. -/
def Obligations.InterruptLineFollowsEventsAndMask : Prop :=
  (∀ s : State, s.interrupt = true ↔ ∃ k, k < 11 ∧ s.regs.events.getLsbD k = true ∧ s.regs.eventMask.getLsbD k = true) ∧
    (∀ (w : HostWrite) (s : State), ∃ t, exec (.eventMaskWrite w) s = .next t ∧
      (∀ k, k < 11 → t.regs.eventMask.getLsbD k = w.word.getLsbD k) ∧
      (∀ k, k < 11 → (t.readRegister 0x0C).getLsbD k = w.word.getLsbD k) ∧
      t = { s with regs := { s.regs with eventMask := t.regs.eventMask } }) ∧
    (∀ s : State, ∃ t, exec .powerOn s = .next t ∧ t.regs.eventMask = 0 ∧ t.interrupt = false) ∧
    (∀ w c (s : State), isControlWrite w c → s.regs.resetBusy = false → w.word.getLsbD 1 = true →
      ∃ t, exec c s = .next t ∧ t.regs.eventMask = s.regs.eventMask ∧ t.interrupt = false)

/-- RSTIMG: set at the start of a device reset exactly when a slot is IMAGING or SENT or is COMPOSING with a split row
above 0, else kept; 0 at power-on; a write to IDENT is ignored and no command but power-on clears it; IDENT reads
the part code 0x4160 and the revision 2. -/
def Obligations.RstimgRecordsPaperInMotion : Prop :=
  (∀ w c (s : State), isControlWrite w c → s.regs.resetBusy = false → w.word.getLsbD 1 = true →
      ∃ t, exec c s = .next t ∧
        ((∃ i, (s.slot i).state = .imaging ∨ (s.slot i).state = .sent ∨
            ((s.slot i).state = .composing ∧ 0 < (s.slot i).split)) → t.regs.rstimg = true) ∧
        ((∀ i, (s.slot i).state ≠ .imaging ∧ (s.slot i).state ≠ .sent ∧
            ((s.slot i).state = .composing → (s.slot i).split = 0)) → t.regs.rstimg = s.regs.rstimg)) ∧
    (∀ s : State, ∃ t, exec .powerOn s = .next t ∧ t.regs.rstimg = false) ∧
    (∀ w (s : State), exec (.registerWriteIgnored 0x14 w) s = .next s) ∧
    (∀ c (s t : State), c ≠ .powerOn → exec c s = .next t → s.regs.rstimg = true → t.regs.rstimg = true) ∧
    (∀ s : State, (s.readRegister 0x14).toNat % 65536 = 0x4160 ∧ (s.readRegister 0x14).toNat / 65536 % 32768 = 2 ∧
      (s.readRegister 0x14).getLsbD 31 = s.regs.rstimg)

/-- AREA_BASE_WRITE: taken while RUN is 0, during a device reset too, and read back whatever it is; the next scan
reads the font directory anew; the streams, the queue, the slots and the engine stay. While RUN is 1, or with the
value it holds, and for a write to no register, nothing changes. -/
def Obligations.AreaBaseIsTakenWhileRunIsZero : Prop :=
  (∀ (w : HostWrite) (s : State), s.regs.run = false → w.word ≠ s.regs.areaBase →
      ∃ t, exec (.areaBaseWrite w) s = .next t ∧ t.regs.areaBase = w.word ∧ t.readRegister 0x10 = w.word ∧
        t.sc.dirOwed = true ∧ (t.sc.moved = true ↔ s.sc.phase = .directory) ∧ (t.hasArea = false → t.regs.sweepTimer = none) ∧ t.regs.run = false ∧
        t.regs.events = s.regs.events ∧ t.sc.streams = s.sc.streams ∧ t.sc.queue = s.sc.queue ∧
        t.sc.scan = s.sc.scan ∧ t.store = s.store ∧ t.engine = s.engine ∧ t.comp = s.comp ∧ t.form = s.form ∧
        t.builder = s.builder ∧ t.cache = s.cache ∧ t.panel = s.panel ∧ t.hostMem = s.hostMem ∧
        t.linkOut = s.linkOut ∧ (∀ x, s.mtu.inFlight = some x → t.mtu.inFlight = some x)) ∧
    (∀ (w : HostWrite) (s : State), s.regs.run = true ∨ w.word = s.regs.areaBase →
      exec (.areaBaseWrite w) s = .next s) ∧
    (∀ (w : HostWrite) (s : State) (offset : Nat), offset ∉ [0x00, 0x04, 0x08, 0x0C, 0x10] →
      exec (.registerWriteIgnored offset w) s = .next s)

/-! ## Scans and requests -/

/-- AREA_HEADER_READ: the three counts clamped to their ranges, the first-page flags and the four lamp functions are
taken, each by its code, and the scan goes on with descriptor 0; one that RUN 0 has cut short ends here (log 12). -/
def Obligations.AreaHeaderIsTaken : Prop :=
  (lampFunction 0 = .off ∧ lampFunction 1 = .ready ∧ lampFunction 2 = .attention ∧ lampFunction 3 = .activity ∧
    lampFunction 4 = .formsLow ∧ lampFunction 5 = .offline ∧ ∀ v, 6 ≤ v → lampFunction v = .off) ∧
  ∀ (data : List Byte) (s : State), s.OnBus .areaHeader 64 → data.length = 64 →
    ∃ t, exec (.areaHeaderRead data) s = .next t ∧
      t.sc.streamCount = min (max (byteAt data 0) 1) 8 ∧ t.sc.formCount = min (max (byteAt data 1) 1) 16 ∧
      t.sc.fontCount = min (max (byteAt data 2) 1) 4 ∧
      (∀ m : Fin 8, t.sc.firstPage.getLsbD m.val = (byteAt data 3).testBit m.val) ∧
      (∀ k : Fin 4, t.panel.lamps[k] = lampFunction (le16 data 4 / 16 ^ k.val % 16)) ∧
      (s.sc.cut = false → t.sc.phase = .descriptor 0 ∧ t.sc.scan = s.sc.scan) ∧
      (s.sc.cut = true → s.sc.scan ≠ .scanningOwed → t.sc.phase = .none ∧ t.sc.scan = .noScan) ∧
      (s.sc.cut = true → s.sc.scan = .scanningOwed → s.regs.run = true →
        t.sc.phase = .header ∧ t.sc.scan = .scanning ∧ t.sc.cut = false) ∧
      t.sc.dirOwed = s.sc.dirOwed ∧
      t.panel.buttons = s.panel.buttons ∧ t.regs.run = s.regs.run ∧ t.regs.areaBase = s.regs.areaBase ∧
      t.hostMem = s.hostMem ∧ (s.Composed → t.store = s.store ∧ t.form = s.form)

/-- DESCRIPTOR_READ with request NONE: the flush interval, at most 60, is taken; a good fill pointer is taken in
IDLE, QUEUED and ACTIVE and wakes the stream, which enters the Job Queue at its tail or behind the rushed entries, but
stays out of it where it discards; a bad one faults it with BAD_FILL and is not taken; CLOSED and FAULTED
ignore it; the scan goes on with the next descriptor, or after the last with the directory read owed, or ends: a
scan owed begins at once, or the sweep timer is loaded, and a device record write owed is asked for. A bad fill pointer
of the ACTIVE stream ends a wait of the Composer: the page that waits for a strike entry is closed as the last of the
faulted job, the page closed in a turn that waits for a slot ends it, and a JOB that waits for its first slot marks no
page. A fill pointer is bad when it is no multiple of 4, is not below the ring size, or lies from release up to take
around the ring. -/
def Obligations.DescriptorReadTakesTheFillPointer : Prop :=
  (∀ (n : Fin 8) (x : Option (Fin 4)) (k : Fin 4) (s : State),
    let ofStream := fun k => (s.slot k).stream = n ∧ (s.slot k).state ≠ .free ∧ x ≠ some k
    s.newestSlot n x = some k ↔ ∃ front back, s.store.imaging = front ++ k :: back ∧ ofStream k ∧
      ∀ k' ∈ back, ¬ofStream k') ∧
  (∀ (r : StreamRec) (p : Nat), r.release < r.ringSize → r.take < r.ringSize →
    (r.badFill p = true ↔ p % 4 ≠ 0 ∨ r.ringSize ≤ p ∨
      (r.release ≤ r.take ∧ r.release ≤ p ∧ p < r.take) ∨ (r.take < r.release ∧ (r.release ≤ p ∨ p < r.take)))) ∧
  (∀ (n : Fin 8) (data : List Byte) (j : JobInfo) (s : State), s.OnBus (.descriptor n) 8 → data.length = 8 →
    (s.stream n).clearOwed = false → le16 data 4 = 0 → (s.stream n).badFill (le32 data 0) = true →
    s.owner = some n → s.OneActive → n ∉ s.sc.queue → s.comp.waits = true → s.comp.job = some j →
    ∃ t, exec (.descriptorRead data) s = .next t ∧ (t.stream n).state = .faulted ∧ (t.stream n).fault = .badFill ∧
      (t.stream n).take = (s.stream n).take ∧ (t.stream n).fill = (s.stream n).fill ∧ t.comp.waits = false ∧
      t.sc.buffer = [] ∧ t.Owes ⟨.descriptor n, true, false, false⟩ ∧
      (∀ i, s.comp.state = .waitStrike → j.started = true → s.composing = some i →
        (s.slot i).strikes ≠ [] ∨ 1 < s.comp.cursor.getD 1 → (s.slot i).state = .composing → (s.slot i).split = 0 →
        (t.slot i).state = .closed ∧ (t.slot i).mark = false ∧
          (t.slot i).entry = some ⟨0, (s.slot i).copy.length⟩ ∧
          (t.slot i).jobEnds = (s.slot i).jobEnds ++ [⟨j.tag, .faulted⟩]) ∧
      (∀ k, s.comp.state = .waitSlot → j.started = true → s.composing = none → s.newestSlot n none = some k →
        t.slot k = { s.slot k with jobEnds := (s.slot k).jobEnds ++ [⟨j.tag, .faulted⟩] } ∧
          t.store.imaging = s.store.imaging ∧ ∀ k', k' ≠ k → t.slot k' = s.slot k') ∧
      (s.comp.state = .waitSlot → j.started = false → t.store = s.store ∧
        ((s.stream n).reports = [] → s.writer.reporting n = false → (t.stream n).jobTag = j.tag ∧
          (t.stream n).jobOutcome = .faulted ∧ (t.stream n).jobPages = 0 ∧
          t.Owes ⟨.descriptor n, true, true, false⟩)) ∧
      t.hostMem = s.hostMem) ∧
  ∀ (n : Fin 8) (data : List Byte) (s : State), s.OnBus (.descriptor n) 8 → data.length = 8 → s.Composed →
    (s.stream n).clearOwed = false → le16 data 4 = 0 →
    ∃ t, exec (.descriptorRead data) s = .next t ∧ (t.stream n).flushSecs = min (le16 data 6) 60 ∧
      ((s.stream n).state = .closed ∨ (s.stream n).state = .faulted → (t.stream n).fill = (s.stream n).fill) ∧
      ((s.stream n).state ≠ .closed → (s.stream n).state ≠ .faulted → (s.stream n).badFill (le32 data 0) = false →
        (t.stream n).fill = le32 data 0) ∧
      ((s.stream n).state = .idle → (s.stream n).discard = false → (s.stream n).rush = false →
        (s.stream n).badFill (le32 data 0) = false → le32 data 0 ≠ (s.stream n).take → s.owner ≠ none →
        (t.stream n).state = .queued ∧ t.sc.queue = s.sc.queue ++ [n]) ∧
      (s.GrantsNothing → (s.stream n).state = .idle → (s.stream n).discard = true →
        (s.stream n).badFill (le32 data 0) = false → le32 data 0 ≠ (s.stream n).take →
        (t.stream n).state = .queued ∧ (t.stream n).discard = true ∧ t.sc.queue = s.sc.queue) ∧
      (∀ front back, (s.stream n).state = .idle → (s.stream n).discard = false → (s.stream n).rush = true →
        (s.stream n).badFill (le32 data 0) = false → le32 data 0 ≠ (s.stream n).take → s.owner ≠ none →
        s.sc.queue = front ++ back → (∀ m ∈ front.getLast?, (s.stream m).rush = true) →
        (∀ m ∈ back, (s.stream m).rush = false) →
        (t.stream n).state = .queued ∧ (t.stream n).rush = true ∧ t.sc.queue = front ++ n :: back) ∧
      ((s.stream n).state = .idle → (s.stream n).discard = false → (s.stream n).badFill (le32 data 0) = false →
        le32 data 0 ≠ (s.stream n).take → s.owner = none → s.sc.queue = [] → s.regs.run = true →
        (t.stream n).state = .active ∧ t.sc.queue = [] ∧ t.comp.state = .ready) ∧
      ((s.stream n).state = .active → (s.stream n).badFill (le32 data 0) = false →
        le32 data 0 ≠ (s.stream n).take → s.comp.state = .atFill →
        t.comp.state = .ready ∧ t.comp.flush = .stopped) ∧
      ((s.stream n).state = .idle ∨ (s.stream n).state = .queued → (s.stream n).badFill (le32 data 0) = true →
        (t.stream n).state = .faulted ∧ (t.stream n).fault = .badFill ∧ (t.stream n).fill = (s.stream n).fill ∧
          n ∉ t.sc.queue ∧ t.Owes ⟨.descriptor n, true, false, false⟩) ∧
      ((s.stream n).state = .active → n ∉ s.sc.queue → (s.stream n).badFill (le32 data 0) = true →
        (t.stream n).state = .faulted ∧ (t.stream n).fault = .badFill ∧ (t.stream n).fill = (s.stream n).fill ∧
          (t.stream n).take = (s.stream n).take ∧ t.Owes ⟨.descriptor n, true, false, false⟩) ∧
      (∀ m : Fin 8, m.val = n.val + 1 → m.val < s.sc.streamCount → s.sc.cut = false →
        t.sc.phase = .descriptor m) ∧
      (n.val + 1 = 8 ∨ s.sc.streamCount ≤ n.val + 1 → s.sc.cut = false →
        (s.sc.dirOwed = true → t.sc.phase = .directory ∧ t.sc.scan = s.sc.scan) ∧
        (s.sc.dirOwed = false → s.sc.scan ≠ .scanningOwed → t.sc.phase = .none ∧ t.sc.scan = .noScan ∧
          t.regs.sweepTimer = (if s.regs.run = true ∧ s.hasArea = true ∧ s.regs.sweepInterval ≠ 0
            then some (s.regs.sweepInterval.toNat * 10) else none)) ∧
        (s.sc.dirOwed = false → s.sc.scan = .scanningOwed → s.regs.run = true →
          t.sc.phase = .header ∧ t.sc.scan = .scanning ∧ t.regs.sweepTimer = none) ∧
        (s.sc.dirOwed = false → s.sc.recordOwed = true →
          t.sc.recordOwed = false ∧ t.Owes ⟨.deviceRecord, false, false, false⟩)) ∧
      (∀ m, m ≠ n → (t.stream m).fill = (s.stream m).fill ∧ (t.stream m).take = (s.stream m).take ∧
        (t.stream m).fault = (s.stream m).fault) ∧
      t.hostMem = s.hostMem ∧ t.regs.run = s.regs.run

/-- DESCRIPTOR_READ with a request, each named by its code: OPEN needs the second read of the ring base and size, any
other waits to be acted on; with clear owed the request is not acted on and the request field write is owed again.
That an OPEN's second read completes by DESCRIPTOR_READ, and that a request waits for a command of its own, is the
model's choice (log 30). -/
def Obligations.DescriptorReadHoldsTheRequest : Prop :=
  (∀ b : List Byte, takenOf b = {
    fill := le32 b 0
    code := requestCode (le16 b 4)
    flush := if le16 b 6 < 60 then le16 b 6 else 60 }) ∧
  (requestCode 0 = .none ∧ requestCode 1 = .openRing ∧ requestCode 2 = .close ∧ requestCode 3 = .cancel ∧
    requestCode 4 = .rush ∧ requestCode 5 = .reset ∧ ∀ v, 6 ≤ v → requestCode v = .unknown) ∧
  ∀ (n : Fin 8) (data : List Byte) (s : State), data.length = 8 → s.Composed → s.GrantsNothing →
    (s.OnBus (.descriptor n) 8 →
      ∃ t, exec (.descriptorRead data) s = .next t ∧
        ((s.stream n).clearOwed = false → le16 data 4 = 1 → t.sc.phase = .openRead n (takenOf data)) ∧
        ((s.stream n).clearOwed = false → 2 ≤ le16 data 4 → t.sc.phase = .request n (takenOf data) 0 0) ∧
        ((s.stream n).clearOwed = true → t.sc.phase = .acting n (takenOf data) ∧
          t.Owes ⟨.requestField n, false, false, false⟩) ∧
        (le16 data 4 ≠ 0 ∨ (s.stream n).clearOwed = true →
          (∀ m, (t.stream m).core = (s.stream m).core) ∧ t.sc.queue = s.sc.queue ∧ t.comp = s.comp ∧
          t.store = s.store ∧ t.form = s.form ∧ t.hostMem = s.hostMem)) ∧
    (∀ x, s.OnBus (.openRead n) 8 → s.sc.phase = .openRead n x →
      ∃ t, exec (.descriptorRead data) s = .next t ∧
        t.sc.phase = .request n x (BitVec.ofNat 32 (le32 data 0)) (le32 data 4) ∧
        (∀ m, (t.stream m).core = (s.stream m).core) ∧ t.sc.queue = s.sc.queue ∧ t.comp = s.comp ∧
        t.store = s.store ∧ t.form = s.form ∧ t.hostMem = s.hostMem)

/-- OPEN: accepted in CLOSED when the ring checks out and no page of the stream is left, with the record cleared and
the stream IDLE or QUEUED at the tail; else REFUSED_STATE or BAD_RING, which change nothing else of the stream. Every
answer owes the result write. With nothing queued, no owner and RUN 1 a stream with a fill is granted at once. That an
OPEN to IDLE owes STREAMn at the descriptor write for the change of state, and again at the request field write for
the request, is DEDUCED (R12 against R21, log 21). -/
def Obligations.OpenIsAnswered : Prop :=
  (∀ (s : State) (n : Fin 8), s.owner = some n ↔ (s.stream n).state = .active ∧ ∀ m < n, (s.stream m).state ≠ .active) ∧
  ∀ (n : Fin 8) (x : Taken) (base : Word32) (size : Nat) (s : State), s.regs.resetBusy = false →
    s.sc.phase = .request n x base size → x.code = .openRing → s.Composed →
    (s.owner = none → s.sc.queue = [] → s.regs.run = true → (s.stream n).state = .closed → base.toNat % 4 = 0 →
      size % 256 = 0 → 1024 ≤ size → size ≤ 1048576 → x.fill % 4 = 0 → x.fill < size → x.fill ≠ 0 →
      (∀ i, (s.slot i).stream = n → (s.slot i).state = .free) →
      ∃ t, exec .openRequest s = .next t ∧ (t.stream n).state = .active ∧ (t.stream n).result = .accepted ∧
        (t.stream n).ringBase = base ∧ (t.stream n).ringSize = size ∧ (t.stream n).fill = x.fill ∧
        (t.stream n).take = 0 ∧ (t.stream n).release = 0 ∧ t.sc.queue = [] ∧ t.comp.state = .ready ∧
        t.sc.phase = .acting n x ∧ t.Owes ⟨.descriptor n, false, false, true⟩ ∧ t.store = s.store ∧
        t.form = s.form ∧ t.hostMem = s.hostMem) ∧
    (s.GrantsNothing → s.owner ≠ none ∨ s.regs.run = false ∨ x.fill = 0 ∨ (s.stream n).state ≠ .closed ∨
        (base.toNat % 4 ≠ 0 ∨ size % 256 ≠ 0 ∨ size < 1024 ∨ 1048576 < size ∨ x.fill % 4 ≠ 0 ∨ size ≤ x.fill) ∨
        (∃ i, (s.slot i).stream = n ∧ (s.slot i).state ≠ .free) →
      ∃ t, exec .openRequest s = .next t ∧ t.sc.phase = .acting n x ∧ t.Owes ⟨.descriptor n, false, false, true⟩ ∧
      ((s.stream n).state ≠ .closed →
        (t.stream n).core = { (s.stream n).core with result := .refusedState } ∧ t.sc.queue = s.sc.queue) ∧
      ((s.stream n).state = .closed →
        base.toNat % 4 ≠ 0 ∨ size % 256 ≠ 0 ∨ size < 1024 ∨ 1048576 < size ∨ x.fill % 4 ≠ 0 ∨ size ≤ x.fill →
        (t.stream n).core = { (s.stream n).core with result := .badRing } ∧ t.sc.queue = s.sc.queue) ∧
      ((s.stream n).state = .closed → base.toNat % 4 = 0 → size % 256 = 0 → 1024 ≤ size → size ≤ 1048576 →
        x.fill % 4 = 0 → x.fill < size → (∃ i, (s.slot i).stream = n ∧ (s.slot i).state ≠ .free) →
        (t.stream n).core = { (s.stream n).core with result := .refusedState } ∧ t.sc.queue = s.sc.queue) ∧
      ((s.stream n).state = .closed → base.toNat % 4 = 0 → size % 256 = 0 → 1024 ≤ size → size ≤ 1048576 →
        x.fill % 4 = 0 → x.fill < size → (∀ i, (s.slot i).stream = n → (s.slot i).state = .free) →
        (t.stream n).core = { StreamRec.initial with
          state := if x.fill = 0 then .idle else .queued
          ringBase := base
          ringSize := size
          fill := x.fill
          result := .accepted
          flushSecs := (s.stream n).flushSecs } ∧
        (t.stream n).reports = [] ∧ (t.stream n).jobTag = 0 ∧ (t.stream n).jobOutcome = .noneYet ∧
        (t.stream n).jobPages = 0 ∧ t.sc.queue = (if x.fill = 0 then s.sc.queue else s.sc.queue ++ [n]) ∧
        (x.fill = 0 → t.Owes ⟨.descriptor n, true, false, false⟩)) ∧
      (∀ m, m ≠ n → (t.stream m).core = (s.stream m).core) ∧ t.comp = s.comp ∧ t.store = s.store ∧
      t.form = s.form ∧ t.hostMem = s.hostMem)

/-- CLOSE: accepted in IDLE and QUEUED, the stream leaving the Job Queue with its rush and discard clear and its
pages untouched; REFUSED_STATE otherwise. That the change to CLOSED owes STREAMn at the descriptor write beside the
request's own raise is DEDUCED (R12 against R21, log 21). -/
def Obligations.CloseIsAnswered : Prop :=
  ∀ (n : Fin 8) (x : Taken) (base : Word32) (size : Nat) (s : State), s.regs.resetBusy = false →
    s.sc.phase = .request n x base size → x.code = .close → s.Composed → s.GrantsNothing →
    ∃ t, exec .closeRequest s = .next t ∧ t.sc.phase = .acting n x ∧ t.Owes ⟨.descriptor n, false, false, true⟩ ∧
      ((s.stream n).state = .idle ∨ (s.stream n).state = .queued →
        (t.stream n).core = { (s.stream n).core with
          state := .closed
          rush := false
          discard := false
          discardReports := false
          discardTag := none
          discardStalled := false
          result := .accepted } ∧
        t.sc.queue = s.sc.queue.filter (· ≠ n) ∧ t.Owes ⟨.descriptor n, true, false, true⟩) ∧
      ((s.stream n).state ≠ .idle → (s.stream n).state ≠ .queued →
        (t.stream n).core = { (s.stream n).core with result := .refusedState } ∧ t.sc.queue = s.sc.queue) ∧
      (∀ m, m ≠ n → (t.stream m).core = (s.stream m).core) ∧ t.comp = s.comp ∧ t.store = s.store ∧
      t.form = s.form ∧ t.hostMem = s.hostMem

/-- CANCEL of a stream that is not ACTIVE, or is ACTIVE with no JOB taken: a discard begins at take outside the Job
Queue, or goes on, or there is nothing to cancel; the stream's pages stay. That an IDLE stream with its discard flag
set is answered NOTHING_TO_CANCEL too is the model's choice (R24 against R46, log 49). -/
def Obligations.CancelBeginsADiscard : Prop :=
  (∀ sl : Slot, sl.onEngine = true ↔ sl.state = .imaging ∨ sl.state = .sent) ∧
  ∀ (n : Fin 8) (x : Taken) (base : Word32) (size : Nat) (s : State), s.regs.resetBusy = false →
    s.sc.phase = .request n x base size → x.code = .cancel → s.Composed → s.GrantsNothing →
    ((s.stream n).state = .active → s.comp.job = none ∧ s.sc.queue = [] ∧ s.owner = some n) →
    ∃ t, exec .cancelRequest s = .next t ∧ t.sc.phase = .acting n x ∧ t.Owes ⟨.descriptor n, false, false, true⟩ ∧
      ((s.stream n).state = .queued → (s.stream n).discard = false →
        (t.stream n).core = { (s.stream n).core with
          discard := true
          discardReports := true
          discardTag := none
          discardStalled := false
          result := .accepted } ∧
        t.sc.queue = s.sc.queue.filter (· ≠ n)) ∧
      ((s.stream n).state = .queued → (s.stream n).discard = true →
        (t.stream n).core = { (s.stream n).core with result := .accepted } ∧ t.sc.queue = s.sc.queue) ∧
      ((s.stream n).state = .idle ∨ (s.stream n).state = .closed →
        (t.stream n).core = { (s.stream n).core with result := .nothingToCancel } ∧ t.sc.queue = s.sc.queue) ∧
      ((s.stream n).state = .faulted →
        (t.stream n).core = { (s.stream n).core with result := .refusedState } ∧ t.sc.queue = s.sc.queue) ∧
      ((s.stream n).state = .active →
        (t.stream n).core = { (s.stream n).core with
          state := if (s.stream n).fill ≠ (s.stream n).take then .queued else .idle
          discard := true
          discardReports := true
          discardTag := none
          discardStalled := false
          result := .accepted } ∧
        t.comp = Composer.initial ∧ t.sc.buffer = []) ∧
      (∀ m, m ≠ n → (t.stream m).core = (s.stream m).core) ∧ t.store = s.store ∧ t.form = s.form ∧
      t.hostMem = s.hostMem

/-- CANCEL of the ACTIVE stream after its JOB: its slots become FREE, a load is abandoned, release moves to take, the
rest of the job is to be discarded without a report, and ownership is given up; HALT goes out exactly when one of
the slots was IMAGING or SENT. Every report owed falls due, DONE and the job in progress as CANCELLED, and the
oldest is made; a JOB whose job is not yet in progress is reported CANCELLED behind them. -/
def Obligations.CancelEndsTheActiveJob : Prop :=
  ∀ (n : Fin 8) (x : Taken) (base : Word32) (size : Nat) (s : State), s.regs.resetBusy = false →
    s.sc.phase = .request n x base size → x.code = .cancel → (s.stream n).state = .active → s.comp.job ≠ none →
    s.owner = some n → s.OneActive → s.sc.queue = [] → s.refusalWaits = false →
    ∃ t, exec .cancelRequest s = .next t ∧ t.sc.phase = .acting n x ∧ t.Owes ⟨.descriptor n, false, false, true⟩ ∧
      (t.stream n).state = (if (s.stream n).fill ≠ (s.stream n).take then .queued else .idle) ∧
      (t.stream n).discard = true ∧ (t.stream n).discardReports = false ∧
      (t.stream n).release = (s.stream n).take ∧ (t.stream n).take = (s.stream n).take ∧
      (t.stream n).fill = (s.stream n).fill ∧ (t.stream n).result = .accepted ∧ t.sc.queue = [] ∧
      t.sc.buffer = [] ∧ t.comp = Composer.initial ∧ (∀ l, t.form ≠ .loading l) ∧
      (∀ i, (t.slot i).stream = n → (t.slot i).state = .free) ∧
      ((∀ i, (s.slot i).stream = n → (s.slot i).onEngine = false) →
        (∀ i, (s.slot i).stream ≠ n → t.slot i = s.slot i) ∧ t.linkOut = s.linkOut) ∧
      ((∃ i, (s.slot i).stream = n ∧ (s.slot i).onEngine = true) → s.engine.halting = false →
        t.linkOut = s.linkOut ++ [⟨s.engine.frameSeq, .halt⟩] ∧ t.engine.halting = true ∧ t.engine.bandRoom = 0 ∧
          t.engine.sent = []) ∧
      (∀ j r rest, s.comp.job = some j → (s.stream n).reports = r :: rest → r.due = false →
        s.writer.reporting n = false → (t.stream n).jobTag = r.tag ∧
          (t.stream n).jobOutcome = (if r.outcome = .faulted then .faulted else .cancelled) ∧
          (t.stream n).jobPages = r.pages ∧ t.Owes ⟨.descriptor n, true, true, true⟩ ∧
          (t.stream n).reports = (rest.map fun p => if p.due then p else { p with
            due := true, outcome := if p.outcome = .faulted then .faulted else .cancelled }) ++
            (if j.started then [] else [⟨j.tag, .cancelled, true, 0⟩])) ∧
      (∀ j, s.comp.job = some j → j.started = false → (s.stream n).reports = [] → s.writer.reporting n = false →
        (t.stream n).jobTag = j.tag ∧ (t.stream n).jobOutcome = .cancelled ∧ (t.stream n).jobPages = 0 ∧
          (t.stream n).reports = [] ∧ t.Owes ⟨.descriptor n, true, true, true⟩) ∧
      t.hostMem = s.hostMem

/-- RUSH: the flag is set in IDLE, QUEUED and ACTIVE; a QUEUED stream that was not rushed moves directly behind the
last rushed entry other than itself, or to the head; CLOSED and FAULTED answer REFUSED_STATE. -/
def Obligations.RushMovesTheStreamForward : Prop :=
  ∀ (n : Fin 8) (x : Taken) (base : Word32) (size : Nat) (s : State), s.regs.resetBusy = false →
    s.sc.phase = .request n x base size → x.code = .rush → s.Composed →
    s.owner ≠ none ∨ s.regs.run = false ∨ (s.sc.queue = [] ∧ (s.stream n).state ≠ .queued) →
    ∃ t, exec .rushRequest s = .next t ∧ t.sc.phase = .acting n x ∧ t.Owes ⟨.descriptor n, false, false, true⟩ ∧
      ((s.stream n).state = .closed ∨ (s.stream n).state = .faulted →
        (t.stream n).core = { (s.stream n).core with result := .refusedState } ∧ t.sc.queue = s.sc.queue) ∧
      ((s.stream n).state ≠ .closed → (s.stream n).state ≠ .faulted →
        (t.stream n).core = { (s.stream n).core with rush := true, result := .accepted }) ∧
      ((s.stream n).state = .idle ∨ (s.stream n).state = .active ∨
          ((s.stream n).state = .queued ∧ ((s.stream n).discard = true ∨ (s.stream n).rush = true)) →
        t.sc.queue = s.sc.queue) ∧
      (∀ front back, (s.stream n).state = .queued → (s.stream n).discard = false → (s.stream n).rush = false →
        s.sc.queue.filter (· ≠ n) = front ++ back → (∀ m ∈ back, (s.stream m).rush = false) →
        (∀ m ∈ front.getLast?, (s.stream m).rush = true) → t.sc.queue = front ++ n :: back) ∧
      (∀ m, m ≠ n → (t.stream m).core = (s.stream m).core) ∧ t.comp = s.comp ∧ t.store = s.store ∧
      t.form = s.form ∧ t.hostMem = s.hostMem

/-- RESET: accepted in every state; the stream becomes CLOSED with its slots FREE, out of the Job Queue, rush and
discard clear, its pointers, its seven counters, its last mark tag and its fault code kept, and the oldest report owed
made, as CANCELLED unless it is FAULTED. Where a slot of the stream was IMAGING or SENT, HALT goes out, and the slots
of other streams revert, each one that changes adding to its stream's reprints; else those stay as they are.
BAD_REQUEST: answered so, and nothing else changes. That the change to CLOSED owes STREAMn at the descriptor write
beside the request's own raise is DEDUCED (R12 against R21, log 21). -/
def Obligations.ResetClosesTheStream : Prop :=
  ∀ (n : Fin 8) (x : Taken) (base : Word32) (size : Nat) (s : State), s.regs.resetBusy = false →
    s.sc.phase = .request n x base size → s.Composed → s.GrantsNothing →
    (x.code = .reset →
      ∃ t, exec .resetRequest s = .next t ∧ t.sc.phase = .acting n x ∧ t.Owes ⟨.descriptor n, false, false, true⟩ ∧
        (t.stream n).state = .closed ∧ (t.stream n).result = .accepted ∧
        ((s.stream n).state = .closed → (t.stream n).core = { (s.stream n).core with result := .accepted } ∧
          t.sc.queue = s.sc.queue ∧ t.store = s.store ∧ t.comp = s.comp) ∧
        ((s.stream n).state ≠ .closed →
          (t.stream n).rush = false ∧ (t.stream n).discard = false ∧ n ∉ t.sc.queue ∧
          (∀ i, (t.slot i).stream = n → (t.slot i).state = .free) ∧
          t.Owes ⟨.descriptor n, true, false, true⟩) ∧
        ((s.stream n).state = .closed ∨ s.engine.halting = true ∨
            (∀ i, (s.slot i).stream = n → (s.slot i).onEngine = false) →
          (∀ i, (s.slot i).stream ≠ n → t.slot i = s.slot i) ∧ t.engine.halting = s.engine.halting ∧
          ((s.stream n).state ≠ .active → ∀ m, m ≠ n → (t.stream m).core = (s.stream m).core) ∧
          (s.refusalWaits = false → t.linkOut = s.linkOut)) ∧
        ((s.stream n).state ≠ .closed → (∃ i, (s.slot i).stream = n ∧ (s.slot i).onEngine = true) →
          s.engine.halting = false →
          t.linkOut = s.linkOut ++ [⟨s.engine.frameSeq, .halt⟩] ∧ t.engine.halting = true ∧ t.engine.bandRoom = 0 ∧
            t.engine.sent = [] ∧ (∀ i, (s.slot i).stream ≠ n → t.slot i = (s.slot i).reverted) ∧
            (∀ m, m ≠ n → (t.stream m).fill = (s.stream m).fill ∧ (t.stream m).take = (s.stream m).take ∧
              (t.stream m).release = (s.stream m).release ∧ (t.stream m).fault = (s.stream m).fault ∧
              (t.stream m).reprints = satAdd (s.stream m).reprints (s.slotsBegun m))) ∧
        (t.stream n).fill = (s.stream n).fill ∧ (t.stream n).take = (s.stream n).take ∧
        (t.stream n).release = (s.stream n).release ∧ (t.stream n).fault = (s.stream n).fault ∧
        (t.stream n).recordsTaken = (s.stream n).recordsTaken ∧
        (t.stream n).pagesExited = (s.stream n).pagesExited ∧ (t.stream n).reprints = (s.stream n).reprints ∧
        (t.stream n).late = (s.stream n).late ∧ (t.stream n).excess = (s.stream n).excess ∧
        (t.stream n).overrun = (s.stream n).overrun ∧ (t.stream n).substitutes = (s.stream n).substitutes ∧
        (t.stream n).markTag = (s.stream n).markTag ∧
        (∀ r rest, (s.stream n).state ≠ .closed → (s.stream n).reports = r :: rest → r.due = false →
          s.writer.reporting n = false → (t.stream n).jobTag = r.tag ∧
            (t.stream n).jobOutcome = (if r.outcome = .faulted then .faulted else .cancelled) ∧
            (t.stream n).jobPages = r.pages ∧ t.Owes ⟨.descriptor n, true, true, true⟩) ∧
        t.hostMem = s.hostMem) ∧
    (x.code = .unknown →
      ∃ t, exec .badRequest s = .next t ∧ t.sc.phase = .acting n x ∧ t.Owes ⟨.descriptor n, false, false, true⟩ ∧
        (t.stream n).core = { (s.stream n).core with result := .badRequest } ∧
        (∀ m, m ≠ n → (t.stream m).core = (s.stream m).core) ∧ t.sc.queue = s.sc.queue ∧ t.comp = s.comp ∧
        t.store = s.store ∧ t.form = s.form ∧ t.hostMem = s.hostMem)

/-- FONT_DIRECTORY_READ: the directory is set aside with the header's font count, or put in force at once with the
cache emptied at a band boundary, unless the cache is FLUSHING; a fill in flight goes on (log 28). No directory read is
owed any more, unless AREA_BASE has changed since it was issued, the device record write owed to the first scan is asked
for, and the scan ends. A form check that waited for a directory is made against the one put in force (R76; log 23). A
directory's fields are clamped to their ranges as it is taken, here and by a flush. Until one is in force there is one
typeface, of no glyphs and 8 by 8. -/
def Obligations.FontDirectoryIsSetAside : Prop :=
  (∀ s : State, (s.cache.inForce = none → s.directory.count = 1 ∧ s.directory.font 0 = ⟨0, 0, 8, 8⟩) ∧
    (∀ d, s.cache.inForce = some d → s.directory = d) ∧
    (s.refusalWaits = true ↔ ∃ m ∈ s.engine.sent, m.awaiting = true)) ∧
  (∀ (count : Nat) (b : List Byte), (directoryOf count b).count = count ∧ ∀ t, t < 4 →
    (directoryOf count b).font t = {
      base := BitVec.ofNat 32 (le32 b (16 * t))
      count := if le16 b (16 * t + 4) = 0 then 1 else if 192 < le16 b (16 * t + 4) then 192 else le16 b (16 * t + 4)
      width := if byteAt b (16 * t + 6) < 8 then 8 else if 48 < byteAt b (16 * t + 6) then 48 else byteAt b (16 * t + 6)
      height := if byteAt b (16 * t + 7) < 8 then 8 else if 64 < byteAt b (16 * t + 7) then 64
        else byteAt b (16 * t + 7) }) ∧
  ∀ (data : List Byte) (s : State), s.OnBus .fontDirectory 64 → data.length = 64 → s.refusalWaits = false →
    ∃ t, exec (.fontDirectoryRead data) s = .next t ∧ t.sc.dirOwed = s.sc.moved ∧
      (s.sc.scan ≠ .scanningOwed → t.sc.scan = .noScan ∧ t.sc.phase = .none ∧
        (s.regs.run = true → s.hasArea = true → s.regs.sweepInterval ≠ 0 →
          t.regs.sweepTimer = some (s.regs.sweepInterval.toNat * 10))) ∧
      (s.sc.scan = .scanningOwed → s.regs.run = true → t.sc.scan = .scanning ∧ t.sc.phase = .header) ∧
      (s.atBoundary = false → t.cache = { s.cache with aside := some (directoryOf s.sc.fontCount data) }) ∧
      (s.sc.recordOwed = true → t.sc.recordOwed = false ∧ t.Owes ⟨.deviceRecord, false, false, false⟩) ∧
      (s.cache.flush = .reading →
        t.cache = { s.cache with aside := some (directoryOf s.sc.fontCount data) }) ∧
      (s.atBoundary = true → s.cache.flush ≠ .reading →
        t.cache.inForce = some (directoryOf s.sc.fontCount data) ∧ t.cache.aside = none ∧ t.cache.fill = s.cache.fill ∧
        (∀ k : Fin 32, t.cache.sets[k] = CacheSet.empty) ∧ t.cache.hits = s.cache.hits ∧
        t.cache.misses = s.cache.misses) ∧
      (∀ l, s.form = .loading l → l.step = .check → s.comp.waits = false → s.sc.readFailed = false →
        s.atBoundary = true → s.cache.flush ≠ .reading →
        (formAccepted ((directoryOf s.sc.fontCount data).font 0).count l.recordBytes = true →
          t.form = .loading { l with step := .vft }) ∧
        (∀ n, formAccepted ((directoryOf s.sc.fontCount data).font 0).count l.recordBytes = false →
          s.owner = some n → n ∉ s.sc.queue → t.form = .empty ∧ (t.stream n).state = .faulted ∧
            (t.stream n).fault = .badForm ∧ (t.stream n).take = (s.stream n).take)) ∧
      t.builder = s.builder ∧ t.linkOut = s.linkOut ∧ t.hostMem = s.hostMem ∧ t.regs.run = s.regs.run

/-! ## Records, forms and the flush timer -/

/-- RING_READ: the bytes enter the read buffer behind those it holds; those of a discard read are held apart. While the
records in the buffer reach a WRAP the ACTIVE stream asks for no further read (log 18). -/
def Obligations.RingBytesEnterTheBuffer : Prop :=
  (∀ (n : Fin 8) (records : List (List Byte)) (back : List Byte) (s : State), (s.stream n).state = .active →
    s.sc.buffer = records.flatten ++ back → s.sc.buffer.length ≤ 512 →
    (∀ r ∈ records, r.length = (recordHeader r).length ∧ (recordHeader r).sound = true) →
    (recordHeader back).kind = .wrap → (recordHeader back).length = 8 → 8 ≤ back.length → s.ringReadOf n = none) ∧
  ∀ (n : Fin 8) (len : Nat) (data : List Byte) (s : State), data.length = len → s.Composed →
    (s.OnBus (.ring n) len →
      ∃ t, exec (.ringRead data) s = .next t ∧ t.sc.buffer = s.sc.buffer ++ data ∧ t.sc.held = s.sc.held ∧
        t.sc.view = s.sc.view ∧ t.store = s.store ∧ t.form = s.form ∧ t.hostMem = s.hostMem ∧
        (s.GrantsNothing → (∀ m, (t.stream m).core = (s.stream m).core) ∧ t.comp = s.comp ∧
          t.sc.queue = s.sc.queue)) ∧
    (s.OnBus (.discardRing n) len →
      ∃ t, exec (.ringRead data) s = .next t ∧ t.sc.held = some ⟨n, data⟩ ∧ t.sc.buffer = s.sc.buffer ∧
        t.sc.view = s.sc.view ∧ t.store = s.store ∧ t.form = s.form ∧ t.hostMem = s.hostMem ∧
        (s.GrantsNothing → (∀ m, (t.stream m).core = (s.stream m).core) ∧ t.comp = s.comp ∧
          t.sc.queue = s.sc.queue))

/-- The carriage movements: a space that stays on the form, one that runs over it, a skip to the next line that
carries its stop or else to the first, and the skip to the top. -/
def Obligations.CarriageMovements : Prop :=
  ∀ (f : Form) (c : Nat), 1 ≤ c → c ≤ f.lines →
    (∀ k, c + k ≤ f.lines → f.move c (.space k) = (0, c + k)) ∧
      (∀ k, f.lines < c + k → ∃ turns line, f.move c (.space k) = (turns, line) ∧ 1 ≤ turns ∧ 1 ≤ line ∧
        line ≤ f.lines ∧ turns * f.lines + line = c + k) ∧
      (∀ stop l, c < l → l ≤ f.lines → f.carries stop l = true → (∀ k, c < k → k < l → f.carries stop k = false) →
        f.move c (.stop stop) = (0, l)) ∧
      (∀ stop l, (∀ k, c < k → k ≤ f.lines → f.carries stop k = false) → 1 ≤ l → l ≤ f.lines →
        f.carries stop l = true → (∀ k, 1 ≤ k → k < l → f.carries stop k = false) →
        f.move c (.stop stop) = (1, l)) ∧
      f.move c .top = (1, 1)

/-- LINE within one page: the cursor moves, a strike is placed on the line reached unless the text count is 0, the
cursor moves again, and take advances; take at fill loads the flush timer. A record at take is whole when its bytes are
in hand below fill and the ring end and its kind, length and text count hold, and bad where one of these or the ring end
fails (that a record is bad on its header alone, before its later bytes are in hand, is DEDUCED, log 17); the carriage
bytes are the twelve of the manual, a stop byte needing a line that carries its stop. A take that reaches the ring size
becomes 0. -/
def Obligations.LinePlacesAStrike : Prop :=
  (∀ (w : Nat) (c : BitVec w) (k : Nat), (satAdd c k).toNat = min (c.toNat + k) (2 ^ w - 1)) ∧
  (∀ b : List Byte,
    let h := recordHeader b
    (h.kind = .line ↔ byteAt b 0 = 1) ∧ (h.kind = .job ↔ byteAt b 0 = 2) ∧ (h.kind = .endJob ↔ byteAt b 0 = 3) ∧
      (h.kind = .mark ↔ byteAt b 0 = 4) ∧ (h.kind = .wrap ↔ byteAt b 0 = 5) ∧ h.keyed = (byteAt b 1).testBit 0 ∧
      h.template = (byteAt b 1).testBit 1 ∧ h.length = byteAt b 2 + 256 * byteAt b 3 ∧ h.before = byteAt b 4 ∧
      h.after = byteAt b 5 ∧ h.typeface = byteAt b 6 ∧ h.textCount = byteAt b 7) ∧
  (∀ h : RecordHeader, h.sound = true ↔
    (h.kind = .line ∧ h.length = 8 + (h.textCount + 3) / 4 * 4 ∧ h.textCount ≤ 160) ∨ (h.kind = .job ∧ h.length = 16) ∨
      ((h.kind = .endJob ∨ h.kind = .mark) ∧ h.length = 12) ∨ (h.kind = .wrap ∧ h.length = 8)) ∧
  (∀ (r : StreamRec) (b : List Byte) (h : RecordHeader), r.atTake b = .whole h ↔
    h = recordHeader b ∧ h.sound = true ∧ h.length ≤ b.length ∧ h.length ≤ r.span ∧ r.take + h.length ≤ r.ringSize) ∧
  (∀ (r : StreamRec) (b : List Byte), 8 ≤ b.length → 8 ≤ r.span → r.take + 8 ≤ r.ringSize →
    (r.atTake b = .bad (recordHeader b).kind ↔ r.ringSize < r.take + (recordHeader b).length ∨
      ((recordHeader b).length ≤ r.span ∧ (recordHeader b).sound = false))) ∧
  (∀ (r : StreamRec) (len : Nat), r.take < r.ringSize →
    (r.take + len = r.ringSize → r.after len = 0) ∧ (r.take + len ≠ r.ringSize → r.after len = r.take + len) ∧
      (r.fill < r.ringSize → r.span = if r.take ≤ r.fill then r.fill - r.take else r.ringSize - r.take + r.fill)) ∧
  (∀ f : Form, (∀ k, f.hasStop (.space k) = true) ∧ f.hasStop .top = true ∧
    (∀ k n, f.carries k n = (f.vft.getD (n - 1) 0).getLsbD (k - 1)) ∧
    ∀ k, f.hasStop (.stop k) = true ↔ ∃ l, 1 ≤ l ∧ l ≤ f.lines ∧ f.carries k l = true) ∧
  ((∀ v, v ≤ 3 → carriageOf v = some (.space v)) ∧ carriageOf 0x40 = some .top ∧
    (∀ k, 1 ≤ k → k ≤ 8 → carriageOf (0x40 + k) = some (.stop k)) ∧
    ∀ v, 3 < v → v < 0x40 ∨ 0x48 < v → carriageOf v = none) ∧
  ∀ (n : Fin 8) (i : Fin 4) (h : RecordHeader) (b a : Carriage) (l1 l2 : Nat) (s : State),
    s.regs.resetBusy = false → s.regs.run = true → s.owner = some n → s.Composed → s.comp.state = .ready →
    s.comp.jobInProgress = true → (s.stream n).atTake s.sc.buffer = .whole h → h.kind = .line →
    carriageOf h.before = some b → carriageOf h.after = some a → s.loadedForm.hasStop b = true →
    s.loadedForm.hasStop a = true → s.composing = some i → s.loadedForm.move (s.comp.cursor.getD 1) b = (0, l1) →
    s.loadedForm.move l1 a = (0, l2) →
    (h.textCount ≠ 0 → (s.slot i).split ≤ (s.slot i).copy.top l1 ∧ (s.slot i).strikesOn l1 < 4 ∧
      s.store.poolUsed < 1024) →
    ∃ t, exec .lineRecord s = .next t ∧ t.comp.cursor = some l2 ∧ (t.stream n).cursorLine = l2 ∧
      (t.stream n).take = (s.stream n).after h.length ∧
      (t.stream n).recordsTaken = satAdd (s.stream n).recordsTaken 1 ∧ t.sc.buffer = s.sc.buffer.drop h.length ∧
      (h.textCount ≠ 0 →
        (t.slot i).strikes = (s.slot i).strikes ++ [{
          line := l1
          place := (s.slot i).strikesOn l1 + 1
          seq := (s.slot i).seqCount + 1
          typeface := h.typeface
          keyed := h.keyed
          template := h.template
          codes := ((s.sc.buffer.drop 8).take h.textCount).take s.loadedForm.positions
          glyphs := none }] ∧
        (t.slot i).seqCount = (s.slot i).seqCount + 1 ∧ t.store.poolUsed = s.store.poolUsed + 1 ∧
        (t.stream n).overrun = satAdd (s.stream n).overrun (h.textCount - s.loadedForm.positions)) ∧
      (h.textCount = 0 → (t.slot i).strikes = (s.slot i).strikes ∧ t.store.poolUsed = s.store.poolUsed ∧
        (t.stream n).overrun = (s.stream n).overrun) ∧
      (t.slot i).releaseOff = (s.stream n).after h.length ∧ (t.slot i).state = (s.slot i).state ∧
      (t.slot i).mark = (s.slot i).mark ∧ (t.slot i).split = (s.slot i).split ∧ (t.slot i).entry = (s.slot i).entry ∧
      ((s.stream n).fill ≠ (s.stream n).after h.length → t.comp.state = .ready ∧ t.comp.flush = s.comp.flush) ∧
      ((s.stream n).fill = (s.stream n).after h.length → t.comp.state = .atFill ∧
        t.comp.flush = (if (s.stream n).flushSecs = 0 then .stopped
          else .running ((s.stream n).flushSecs * 1000))) ∧
      (∀ j, j ≠ i → t.slot j = s.slot j) ∧ (∀ m, m ≠ n → (t.stream m).core = (s.stream m).core) ∧
      (t.stream n).state = .active ∧ (t.stream n).release = (s.stream n).release ∧
      (t.stream n).late = (s.stream n).late ∧ (t.stream n).excess = (s.stream n).excess ∧
      t.store.imaging = s.store.imaging ∧ t.form = s.form ∧ t.sc.queue = s.sc.queue ∧ t.sc.view = s.sc.view ∧
      t.hostMem = s.hostMem

/-- LINE whose strike is dropped: on a line above the split row it counts late, on a line of four strikes it counts
excess, and the record goes on; with no strike entry free the record waits where it is. -/
def Obligations.LineDropsItsStrike : Prop :=
  (∀ (sl : Slot) (line : Nat), sl.strikesOn line = (sl.strikes.filter fun k => k.line = line).length) ∧
  ∀ (n : Fin 8) (i : Fin 4) (h : RecordHeader) (b a : Carriage) (l1 l2 : Nat) (s : State),
    s.regs.resetBusy = false → s.regs.run = true → s.owner = some n → s.Composed → s.comp.state = .ready →
    s.comp.jobInProgress = true → (s.stream n).atTake s.sc.buffer = .whole h → h.kind = .line →
    carriageOf h.before = some b → carriageOf h.after = some a → s.loadedForm.hasStop b = true →
    s.loadedForm.hasStop a = true → s.composing = some i → s.loadedForm.move (s.comp.cursor.getD 1) b = (0, l1) →
    s.loadedForm.move l1 a = (0, l2) → h.textCount ≠ 0 →
    ∃ t, exec .lineRecord s = .next t ∧
      ((s.slot i).copy.top l1 < (s.slot i).split →
        (t.stream n).late = satAdd (s.stream n).late 1 ∧ (t.stream n).excess = (s.stream n).excess ∧
          t.comp.cursor = some l2 ∧ (t.stream n).take = (s.stream n).after h.length) ∧
      ((s.slot i).split ≤ (s.slot i).copy.top l1 → 4 ≤ (s.slot i).strikesOn l1 →
        (t.stream n).excess = satAdd (s.stream n).excess 1 ∧ (t.stream n).late = (s.stream n).late ∧
          t.comp.cursor = some l2 ∧ (t.stream n).take = (s.stream n).after h.length) ∧
      ((s.slot i).split ≤ (s.slot i).copy.top l1 → (s.slot i).strikesOn l1 < 4 → 1024 ≤ s.store.poolUsed →
        t.comp.state = .waitStrike ∧ t.comp.cursor = some l1 ∧ (t.stream n).take = (s.stream n).take ∧
          t.sc.buffer = s.sc.buffer) ∧
      ((s.slot i).copy.top l1 < (s.slot i).split ∨ 4 ≤ (s.slot i).strikesOn l1 ∨ 1024 ≤ s.store.poolUsed →
        (t.slot i).strikes = (s.slot i).strikes ∧ t.store.poolUsed = s.store.poolUsed ∧
          (t.stream n).overrun = (s.stream n).overrun) ∧
      (∀ j, j ≠ i → t.slot j = s.slot j) ∧ (∀ m, m ≠ n → (t.stream m).core = (s.stream m).core) ∧
      t.form = s.form ∧ t.sc.queue = s.sc.queue ∧ t.hostMem = s.hostMem

/-- LINE that turns pages. One without text that skips to the top of the form closes its page, which joins the imaging
list; the next page opens in the slot the ring order gives with the next page number, or the record waits for a slot.
The close fills the first header template strike of the header line with the FIRST and LAST catchwords and the page
number, translates every strike not yet translated and the rule code against the form and the directory in force, and
counts the substitutes. In any LINE the movement before the text turns pages first, the text is placed on the page and
line it reaches, and the movement after turns the rest: each turn closes a page and opens the next in ring order, and
the turn that finds no slot FREE waits, its page closed, for what is left of the record. -/
def Obligations.SkipToTopTurnsThePage : Prop :=
  (∀ (f : Form) (d : Directory) (face : Nat) (c : Byte),
    let e := (f.translate.getD c.toNat 0).toNat
    let u := if face < d.count then face else 0
    (e = 0xFFFF → translateCode f d face c = (.blank, false)) ∧
      (e = 0xFFFE ∨ (e ≠ 0xFFFF ∧ (d.font u).count ≤ e) →
        translateCode f d face c = (.glyph 0 f.substitute, true)) ∧
      (e ≠ 0xFFFF → e ≠ 0xFFFE → e < (d.font u).count → translateCode f d face c = (.glyph u e, false))) ∧
  (∀ (pos : Nat) (run codes : List Byte), 1 ≤ pos →
    (writeCodes pos run codes).length = max codes.length (pos - 1 + run.length) ∧
      ∀ k, (writeCodes pos run codes).getD k 32 =
        if pos ≤ k + 1 ∧ k + 1 < pos + run.length then run.getD (k + 1 - pos) 32 else codes.getD k 32) ∧
  (∀ width n : Nat, n < 1000000 → (numberCodes width n).length = width ∧
    (10 ^ width ≤ n → ∀ c ∈ numberCodes width n, c = 42) ∧
    (n < 10 ^ width → ∀ k, k < width → (numberCodes width n).getD (width - 1 - k) 0 =
      if k = 0 ∨ 10 ^ k ≤ n then BitVec.ofNat 8 (48 + n / 10 ^ k % 10) else 32)) ∧
  (∀ (n : Fin 8) (i : Fin 4) (h : RecordHeader) (b a : Carriage) (m1 m2 l1 l2 : Nat) (j : JobInfo)
    (added : List Strike) (s : State),
    s.regs.resetBusy = false → s.regs.run = true → s.owner = some n → s.Composed → s.comp.state = .ready →
    s.comp.job = some j → j.started = true → (s.stream n).atTake s.sc.buffer = .whole h → h.kind = .line →
    carriageOf h.before = some b → carriageOf h.after = some a → s.loadedForm.hasStop b = true →
    s.loadedForm.hasStop a = true → s.loadedForm.move (s.comp.cursor.getD 1) b = (m1, l1) →
    s.loadedForm.move l1 a = (m2, l2) → 1 ≤ m1 + m2 → s.composing = some i → (∀ k, k ≠ i → (s.slot k).mark = false) →
    (s.slot i).state = .composing → (s.slot i).split = 0 → (s.slot i).firstClose = false →
    (h.textCount ≠ 0 → s.store.poolUsed < 1024 ∧ (m1 = 0 → (s.slot i).strikesOn l1 < 4)) →
    (added = if h.textCount = 0 then [] else [{
      line := l1
      place := (if m1 = 0 then (s.slot i).strikesOn l1 else 0) + 1
      seq := (if m1 = 0 then (s.slot i).seqCount else 0) + 1
      typeface := h.typeface
      keyed := h.keyed
      template := h.template
      codes := ((s.sc.buffer.drop 8).take h.textCount).take s.loadedForm.positions
      glyphs := none }]) →
    (∀ k ∈ (s.slot i).strikes ++ added, k.template = false ∨ k.line ≠ s.loadedForm.headerLine) →
    let l := s.store.lastOpened
    let free := [l + 1, l + 2, l + 3, l].filter fun k => (s.slot k).state = .free
    let pages := i :: free
    let turns := m1 + m2
    let number := fun k => ((s.slot i).pageNo + k) % 1000000
    let translated := fun k : Strike => { k with
      glyphs := some (k.glyphs.getD (k.codes.map fun c =>
        (translateCode s.loadedForm s.directory k.typeface c).1)) }
    ∃ t, exec .lineRecord s = .next t ∧ t.store.imaging = s.store.imaging ++ pages.take turns ∧
      (∀ k p, k < turns → pages[k]? = some p →
        (t.slot p).state = .closed ∧ (t.slot p).mark = false ∧ (t.slot p).firstClose = true ∧
        (t.slot p).entry =
          some ⟨0, if k = 0 then (s.slot i).copy.length else s.loadedForm.copy.length⟩ ∧
        (t.slot p).strikes = ((if k = 0 then (s.slot i).strikes else []) ++ if k = m1 then added else []).map translated ∧
        (k = 0 → (t.slot p).jobEnds = (s.slot i).jobEnds ∧ (t.slot p).releaseOff = (s.slot i).releaseOff ∧
          (t.slot p).pageNo = (s.slot i).pageNo ∧ (t.slot p).stream = (s.slot i).stream)) ∧
      (∀ k p, 1 ≤ k → k ≤ turns → pages[k]? = some p →
        (t.slot p).stream = n ∧ (t.slot p).jobTag = j.tag ∧ (t.slot p).firstOfJob = false ∧
        (t.slot p).pageNo = number k ∧ (t.slot p).copy = s.loadedForm.copy ∧ (t.slot p).jobEnds = [] ∧
        (t.slot p).split = 0 ∧ (k < turns → (t.slot p).releaseOff = (s.stream n).take)) ∧
      (∀ p, pages[turns]? = some p →
        (t.slot p).state = .composing ∧ (t.slot p).mark = true ∧ (t.slot p).firstClose = false ∧
        (t.slot p).entry = none ∧ (t.slot p).strikes = (if m2 = 0 then added else []) ∧
        (t.slot p).releaseOff = (s.stream n).after h.length ∧ t.store.lastOpened = p ∧
        t.comp.cursor = some l2 ∧ (t.stream n).cursorLine = l2 ∧ (t.stream n).pageNo = number turns ∧
        (t.stream n).take = (s.stream n).after h.length ∧ t.sc.buffer = s.sc.buffer.drop h.length ∧
        (t.stream n).recordsTaken = satAdd (s.stream n).recordsTaken 1 ∧
        ((s.stream n).fill ≠ (s.stream n).after h.length → t.comp.state = .ready)) ∧
      (pages[turns]? = none →
        t.comp.state = .waitSlot ∧ (t.stream n).take = (s.stream n).take ∧ t.sc.buffer = s.sc.buffer ∧
        (t.stream n).recordsTaken = (s.stream n).recordsTaken ∧
        (free.length < m1 → t.comp.cursor = some l1 ∧ t.comp.waiting = some {
          line := l1
          turns := m1 - free.length - 1
          pageNo := number (free.length + 1)
          rest := .strikeAndAfter }) ∧
        (m1 ≤ free.length → t.comp.cursor = some l2 ∧ t.comp.waiting = some {
          line := l2
          turns := turns - free.length - 1
          pageNo := number (free.length + 1)
          rest := .nothing })) ∧
      t.store.poolUsed = s.store.poolUsed + (if m1 ≤ free.length then added.length else 0) ∧
      (t.stream n).overrun = (if m1 ≤ free.length then
        satAdd (s.stream n).overrun (h.textCount - s.loadedForm.positions) else (s.stream n).overrun) ∧
      (∀ k, k ∉ pages.take (turns + 1) → t.slot k = s.slot k) ∧
      ((s.slot i).stream = n → ∀ m, m ≠ n → (t.stream m).core = (s.stream m).core) ∧
      t.form = s.form ∧ t.sc.queue = s.sc.queue ∧ t.hostMem = s.hostMem) ∧
  ∀ (n : Fin 8) (i : Fin 4) (h : RecordHeader) (j : JobInfo) (s : State),
    s.regs.resetBusy = false → s.regs.run = true → s.owner = some n → s.Composed → s.comp.state = .ready →
    s.comp.job = some j → j.started = true → (s.stream n).atTake s.sc.buffer = .whole h → h.kind = .line →
    h.before = 0x40 → h.after = 0 → h.textCount = 0 → s.composing = some i → (∀ k, k ≠ i → (s.slot k).mark = false) →
    (s.slot i).state = .composing → (s.slot i).split = 0 → (s.slot i).firstClose = false → 1 ≤ s.loadedForm.lines →
    ∃ t, exec .lineRecord s = .next t ∧ (t.slot i).state = .closed ∧ (t.slot i).mark = false ∧
      (t.slot i).entry = some ⟨0, (s.slot i).copy.length⟩ ∧ (t.slot i).jobEnds = (s.slot i).jobEnds ∧
      (t.slot i).releaseOff = (s.slot i).releaseOff ∧ t.store.imaging = s.store.imaging ++ [i] ∧
      t.store.poolUsed = s.store.poolUsed ∧ t.comp.cursor = some 1 ∧
      (∀ k, s.freeSlot = some k →
        (t.slot k).state = .composing ∧ (t.slot k).mark = true ∧ (t.slot k).stream = n ∧
        (t.slot k).pageNo = ((s.slot i).pageNo + 1) % 1000000 ∧ (t.slot k).firstOfJob = false ∧
        (t.slot k).jobTag = j.tag ∧ (t.slot k).copy = s.loadedForm.copy ∧ (t.slot k).strikes = [] ∧
        (t.slot k).split = 0 ∧ (t.slot k).entry = none ∧ (t.slot k).releaseOff = (s.stream n).after h.length ∧
        t.store.lastOpened = k ∧ (t.stream n).pageNo = ((s.slot i).pageNo + 1) % 1000000 ∧
        (t.stream n).take = (s.stream n).after h.length) ∧
      (s.freeSlot = none → t.comp.state = .waitSlot ∧ (t.stream n).take = (s.stream n).take ∧
        (t.stream n).pageNo = (s.stream n).pageNo ∧ t.sc.buffer = s.sc.buffer) ∧
      (t.slot i).firstClose = true ∧
      (t.slot i).fillMade = ((s.slot i).fillMade ||
        decide (s.loadedForm.top s.loadedForm.headerLine < (s.slot i).copy.length)) ∧
      (t.slot i).ruleRef = some (translateCode s.loadedForm s.directory 0 s.loadedForm.ruleCode).1 ∧
      ((∀ k ∈ (s.slot i).strikes, k.template = false ∨ k.line ≠ s.loadedForm.headerLine) →
        (t.slot i).strikes = ((s.slot i).strikes.map fun k => { k with
          glyphs := some (k.glyphs.getD (k.codes.map fun c =>
            (translateCode s.loadedForm s.directory k.typeface c).1)) }) ∧
        ((s.slot i).stream = n → (t.stream n).substitutes = satAdd (s.stream n).substitutes
          (((s.slot i).strikes.map fun k => if k.glyphs.isNone
            then k.codes.countP (fun c => (translateCode s.loadedForm s.directory k.typeface c).2) else 0).sum +
            if (translateCode s.loadedForm s.directory 0 s.loadedForm.ruleCode).2 then 1 else 0))) ∧
      (∀ (k : Strike) (caught codes : List Byte), (s.slot i).fillMade = false →
        s.loadedForm.top s.loadedForm.headerLine < (s.slot i).copy.length →
        (s.slot i).strikes.find? (fun k => k.template && decide (k.line = s.loadedForm.headerLine)) = some k →
        (∀ k' ∈ (s.slot i).strikes, k'.seq = k.seq → k' = k) → k.glyphs = none →
        ((s.loadedForm.captureLen = 0 ∨ ∀ k' ∈ (s.slot i).strikes, k'.keyed = false) ∧ caught = k.codes) ∨
          (s.loadedForm.captureLen ≠ 0 ∧ ∃ a z, ((s.slot i).strikes.filter (·.keyed)).head? = some a ∧
            ((s.slot i).strikes.filter (·.keyed)).getLast? = some z ∧
            caught = writeCodes s.loadedForm.lastPos
              ((List.range s.loadedForm.captureLen).map fun x => z.codes.getD (s.loadedForm.capturePos - 1 + x) 32)
              (writeCodes s.loadedForm.firstPos
                ((List.range s.loadedForm.captureLen).map fun x => a.codes.getD (s.loadedForm.capturePos - 1 + x) 32)
                k.codes)) →
        ((s.loadedForm.numberWidth = 0 ∨
            ((s.slot i).firstOfJob = true ∧ s.sc.firstPage.getLsbD (s.slot i).stream.val = true)) ∧ codes = caught) ∨
          (s.loadedForm.numberWidth ≠ 0 ∧
            ((s.slot i).firstOfJob = false ∨ s.sc.firstPage.getLsbD (s.slot i).stream.val = false) ∧
            codes = writeCodes s.loadedForm.numberPos
              (numberCodes s.loadedForm.numberWidth (s.slot i).pageNo) caught) →
        { k with
          codes := codes
          glyphs := some (codes.map fun c => (translateCode s.loadedForm s.directory k.typeface c).1) } ∈
          (t.slot i).strikes) ∧
      t.form = s.form ∧ t.hostMem = s.hostMem

/-- A record that fails its checks faults the stream there, in the order of the checks: take stays, ownership is given
up, and the composed page closes as the last of its job, whose FAULTED report its exit makes; with no page left the
report is made at once, and so is that of a JOB record that fails with no job taken. That a record faults on its
header alone, and one of unknown kind under any record command, is DEDUCED (log 17); that a fault with no JOB taken
and no JOB record at take has no report is DEDUCED (log 22). -/
def Obligations.BadRecordsFaultTheStream : Prop :=
  (∀ c : Composer, c.jobInProgress = true ↔ ∃ j, c.job = some j ∧ j.started = true) ∧
  ∀ (n : Fin 8) (c : Instr) (k : RecordKind) (code : FaultCode) (s : State),
    s.regs.resetBusy = false → s.regs.run = true → s.owner = some n → s.comp.state = .ready → n ∉ s.sc.queue →
    (c = .lineRecord ∧ k = .line) ∨ (c = .jobRecord ∧ k = .job) ∨ (c = .endRecord ∧ k = .endJob) ∨
      (c = .markRecord ∧ k = .mark) ∨ (c = .wrapRecord ∧ k = .wrap) →
    ((∃ k', (s.stream n).atTake s.sc.buffer = .bad k' ∧ (k' = k ∨ k' = .unknown)) ∧ code = .badRecord) ∨
      (∃ h, (s.stream n).atTake s.sc.buffer = .whole h ∧ h.kind = k ∧
        ((k = .job ∧ s.comp.jobInProgress = true ∧ code = .badRecord) ∨
          ((k = .line ∨ k = .endJob ∨ k = .mark) ∧ s.comp.jobInProgress = false ∧ code = .noJob) ∨
          (k = .line ∧ s.comp.jobInProgress = true ∧
            ((carriageOf h.before = none ∨ carriageOf h.after = none) ∧ code = .badCarriage ∨
              (∃ b a, carriageOf h.before = some b ∧ carriageOf h.after = some a ∧
                (s.loadedForm.hasStop b = false ∨ s.loadedForm.hasStop a = false) ∧ code = .missingStop))))) →
    ∃ t, exec c s = .next t ∧ (t.stream n).state = .faulted ∧ (t.stream n).fault = code ∧
      (t.stream n).take = (s.stream n).take ∧ (t.stream n).fill = (s.stream n).fill ∧
      (t.stream n).recordsTaken = (s.stream n).recordsTaken ∧ t.sc.buffer = [] ∧
      t.Owes ⟨.descriptor n, true, false, false⟩ ∧ (s.OneActive → s.sc.queue = [] → t.comp = Composer.initial) ∧
      (∀ i j, s.composing = some i → s.comp.job = some j → j.started = true →
        (s.slot i).strikes ≠ [] ∨ 1 < s.comp.cursor.getD 1 →
        (s.slot i).state = .composing → (s.slot i).split = 0 →
        (t.slot i).state = .closed ∧ (t.slot i).mark = false ∧
          (t.slot i).entry = some ⟨0, (s.slot i).copy.length⟩ ∧
          (t.slot i).jobEnds = (s.slot i).jobEnds ++ [⟨j.tag, .faulted⟩] ∧
          (t.slot i).strikes.length = (s.slot i).strikes.length) ∧
      (∀ i j r, s.composing = some i → s.comp.job = some j → j.started = true → (s.slot i).strikes = [] →
        s.comp.cursor = some 1 → (s.slot i).stream = n → s.newestSlot n (some i) = none →
        (s.stream n).reports = [r] → r.due = false → s.writer.reporting n = false →
        t.slot i = Slot.free ∧ (t.stream n).jobTag = r.tag ∧ (t.stream n).jobOutcome = .faulted ∧
          (t.stream n).jobPages = r.pages ∧ t.Owes ⟨.descriptor n, true, true, false⟩) ∧
      (s.comp.job = none → (s.stream n).atTake s.sc.buffer = .bad .job → (s.stream n).reports = [] →
        s.writer.reporting n = false → s.sc.buffer ≠ [] → (t.stream n).jobOutcome = .faulted ∧
          (t.stream n).jobPages = 0 ∧ t.Owes ⟨.descriptor n, true, true, false⟩ ∧
          (16 ≤ s.sc.buffer.length → 16 ≤ (s.stream n).span → 16 ≤ (s.stream n).ringSize - (s.stream n).take →
            (t.stream n).jobTag = BitVec.ofNat 32 (le32 s.sc.buffer 12))) ∧
      (s.comp.job = none → recordKind (byteAt s.sc.buffer 0) ≠ .job → (s.stream n).reports = [] →
        (t.stream n).reports = [] ∧ (t.stream n).jobTag = (s.stream n).jobTag ∧
          (t.stream n).jobOutcome = (s.stream n).jobOutcome) ∧
      t.sc.view = s.sc.view ∧ t.hostMem = s.hostMem

/-- JOB: the form named is loaded, take staying on the JOB; a form number not below the header's count faults the
stream with BAD_FORM and a FAULTED report. -/
def Obligations.JobBeginsTheLoadOfItsForm : Prop :=
  ∀ (n : Fin 8) (h : RecordHeader) (s : State),
    s.regs.resetBusy = false → s.regs.run = true → s.owner = some n → s.comp.state = .ready →
    s.sc.readFailed = false → s.comp.jobInProgress = false → (s.stream n).atTake s.sc.buffer = .whole h →
    h.kind = .job →
    ∃ t, exec .jobRecord s = .next t ∧ (t.stream n).take = (s.stream n).take ∧
      (byteAt s.sc.buffer 8 < s.sc.formCount → t.comp.state = .loadingForm ∧
        t.comp.job = some ⟨BitVec.ofNat 32 (le32 s.sc.buffer 12), byteAt s.sc.buffer 8, le24 s.sc.buffer 9, false⟩ ∧
        t.form = .loading ⟨byteAt s.sc.buffer 8, .recordLow, [], [], []⟩ ∧
        (∀ m, (t.stream m).core = (s.stream m).core) ∧ t.sc.buffer = s.sc.buffer ∧ t.sc.queue = s.sc.queue) ∧
      (s.sc.formCount ≤ byteAt s.sc.buffer 8 → n ∉ s.sc.queue → (t.stream n).state = .faulted ∧
        (t.stream n).fault = .badForm ∧ t.form = .empty ∧ t.sc.buffer = [] ∧
        t.Owes ⟨.descriptor n, true, false, false⟩ ∧
        ((s.stream n).reports = [] → s.writer.reporting n = false →
          (t.stream n).jobTag = BitVec.ofNat 32 (le32 s.sc.buffer 12) ∧ (t.stream n).jobOutcome = .faulted ∧
            (t.stream n).jobPages = 0 ∧ t.Owes ⟨.descriptor n, true, true, false⟩) ∧
        (∀ r rest, (s.stream n).reports = r :: rest → r.due = false →
          (t.stream n).reports = (s.stream n).reports ++ [⟨BitVec.ofNat 32 (le32 s.sc.buffer 12), .faulted, true, 0⟩])) ∧
      t.store = s.store ∧ t.sc.view = s.sc.view ∧ t.hostMem = s.hostMem

/-- END: the composing page, if it holds a strike or the cursor is past line 1, closes as the last of its job, with
outcome DONE; else it is released unused, which with no other page of the stream makes the DONE report at once; take
advances and ownership is given up, to IDLE, or to the Job Queue, at its tail or behind the rushed entries, whose head
is granted at once. An untouched page hands its release offset, its mark tag and the job's end to an older page of the
stream; a page flushed before keeps its place in the imaging list and its rows from the split row on. -/
def Obligations.EndFinishesTheJob : Prop :=
  ∀ (n : Fin 8) (i : Fin 4) (h : RecordHeader) (j : JobInfo) (s : State),
    s.regs.resetBusy = false → s.regs.run = true → s.owner = some n → s.comp.state = .ready → s.OneActive →
    s.form.noCheck = true → s.comp.job = some j → j.started = true →
    (s.stream n).atTake s.sc.buffer = .whole h → h.kind = .endJob → s.composing = some i → (s.slot i).stream = n →
    ∃ t, exec .endRecord s = .next t ∧ (t.stream n).take = (s.stream n).after h.length ∧
      (t.stream n).recordsTaken = satAdd (s.stream n).recordsTaken 1 ∧ t.sc.buffer = [] ∧
      ((s.slot i).strikes ≠ [] ∨ 1 < s.comp.cursor.getD 1 → (s.slot i).state = .composing → (s.slot i).split = 0 →
        (s.slot i).firstClose = false →
        (t.slot i).state = .closed ∧ (t.slot i).mark = false ∧
          (t.slot i).entry = some ⟨0, (s.slot i).copy.length⟩ ∧
          (t.slot i).jobEnds = (s.slot i).jobEnds ++ [⟨j.tag, .done⟩] ∧
          (t.slot i).releaseOff = (s.stream n).after h.length ∧ t.store.imaging = s.store.imaging ++ [i]) ∧
      ((s.slot i).strikes = [] → s.comp.cursor = some 1 → s.newestSlot n (some i) = none →
        t.slot i = Slot.free ∧ (t.stream n).release = (s.stream n).after h.length ∧
        (∀ r, (s.stream n).reports = [r] → r.due = false → s.writer.reporting n = false →
          (t.stream n).jobTag = r.tag ∧ (t.stream n).jobOutcome = .done ∧ (t.stream n).jobPages = r.pages ∧
            t.Owes ⟨.descriptor n, true, true, false⟩)) ∧
      (∀ e, (s.slot i).strikes ≠ [] ∨ 1 < s.comp.cursor.getD 1 → (s.slot i).state ≠ .composing →
        (s.slot i).entry = some e → (s.slot i).firstClose = true →
        (t.slot i).state = (s.slot i).state ∧ (t.slot i).mark = false ∧
          (t.slot i).entry = some ⟨e.first, (s.slot i).copy.length⟩ ∧
          (t.slot i).jobEnds = (s.slot i).jobEnds ++ [⟨j.tag, .done⟩] ∧ t.store.imaging = s.store.imaging) ∧
      ((s.slot i).strikes ≠ [] ∨ 1 < s.comp.cursor.getD 1 → (s.slot i).state = .composing → 0 < (s.slot i).split →
        (s.slot i).firstClose = true →
        (t.slot i).state = .imaging ∧ (t.slot i).mark = false ∧
          (t.slot i).entry = some ⟨(s.slot i).split, (s.slot i).copy.length⟩ ∧
          (t.slot i).jobEnds = (s.slot i).jobEnds ++ [⟨j.tag, .done⟩] ∧ t.store.imaging = s.store.imaging) ∧
      (∀ k, (s.slot i).strikes = [] → s.comp.cursor = some 1 → s.newestSlot n (some i) = some k →
        t.slot i = Slot.free ∧ t.slot k = { s.slot k with
          releaseOff := (s.stream n).after h.length
          markTag := if (s.slot i).markTag = none then (s.slot k).markTag else (s.slot i).markTag
          jobEnds := (s.slot k).jobEnds ++ [⟨j.tag, .done⟩] } ∧ (t.stream n).release = (s.stream n).release) ∧
      ((s.stream n).fill = (s.stream n).after h.length → n ∉ s.sc.queue → (t.stream n).state = .idle ∧
        t.Owes ⟨.descriptor n, true, false, false⟩ ∧ (s.sc.queue = [] → t.comp = Composer.initial)) ∧
      ((s.stream n).fill ≠ (s.stream n).after h.length → (s.stream n).rush = true →
        (∀ m ∈ s.sc.queue, (s.stream m).rush = false) →
        (t.stream n).state = .active ∧ (t.stream n).rush = false ∧ t.sc.queue = s.sc.queue ∧ t.comp.state = .ready ∧
          t.comp.cursor = none ∧ t.comp.job = none) ∧
      ((s.stream n).fill ≠ (s.stream n).after h.length → (s.stream n).rush = false → s.sc.queue = [] →
        (t.stream n).state = .active ∧ (t.stream n).rush = false ∧ t.sc.queue = [] ∧ t.comp.state = .ready ∧
          t.comp.cursor = none ∧ t.comp.job = none) ∧
      (∀ m front back, (s.stream n).fill ≠ (s.stream n).after h.length → (s.stream n).rush = true → m ≠ n →
        s.sc.queue = m :: front ++ back → (∀ m' ∈ (m :: front).getLast?, (s.stream m').rush = true) →
        (∀ m' ∈ back, (s.stream m').rush = false) →
        (t.stream n).state = .queued ∧ t.sc.queue = front ++ n :: back ∧ (t.stream m).state = .active ∧
          (t.stream m).rush = false ∧ t.comp.state = .ready) ∧
      (∀ m rest, (s.stream n).fill ≠ (s.stream n).after h.length → (s.stream n).rush = false → m ≠ n →
        s.sc.queue = m :: rest →
        (t.stream n).state = .queued ∧ t.sc.queue = rest ++ [n] ∧ (t.stream m).state = .active ∧
          (t.stream m).rush = false ∧ t.comp.state = .ready ∧ t.comp.cursor = none ∧ t.comp.job = none) ∧
      t.form = s.form ∧ t.sc.view = s.sc.view ∧ t.hostMem = s.hostMem

/-- MARK: the composing page takes its tag. WRAP: take becomes 0. Both count as taken and move the page's release
offset. -/
def Obligations.MarkAndWrapMoveTake : Prop :=
  ∀ (n : Fin 8) (h : RecordHeader) (s : State),
    s.regs.resetBusy = false → s.regs.run = true → s.owner = some n → s.Composed → s.comp.state = .ready →
    (s.stream n).atTake s.sc.buffer = .whole h →
    (∀ i, h.kind = .mark → s.comp.jobInProgress = true → s.composing = some i →
      ∃ t, exec .markRecord s = .next t ∧ (t.slot i).markTag = some (BitVec.ofNat 32 (le32 s.sc.buffer 8)) ∧
        (t.slot i).releaseOff = (s.stream n).after h.length ∧ (t.slot i).strikes = (s.slot i).strikes ∧
        (t.slot i).state = (s.slot i).state ∧ (t.stream n).take = (s.stream n).after h.length ∧
        (t.stream n).recordsTaken = satAdd (s.stream n).recordsTaken 1 ∧ t.comp.cursor = s.comp.cursor ∧
        (t.stream n).state = .active ∧ t.sc.buffer = s.sc.buffer.drop h.length ∧
        (∀ k, k ≠ i → t.slot k = s.slot k) ∧ (∀ m, m ≠ n → (t.stream m).core = (s.stream m).core) ∧
        t.form = s.form ∧ t.hostMem = s.hostMem) ∧
    (h.kind = .wrap →
      ∃ t, exec .wrapRecord s = .next t ∧ (t.stream n).take = 0 ∧
        (t.stream n).recordsTaken = satAdd (s.stream n).recordsTaken 1 ∧
        (∀ i, s.composing = some i → (t.slot i).releaseOff = 0 ∧ (t.slot i).strikes = (s.slot i).strikes) ∧
        ((s.stream n).fill ≠ 0 → t.comp.state = .ready ∧ t.comp.cursor = s.comp.cursor ∧
          (t.stream n).state = .active) ∧
        ((s.stream n).fill = 0 → s.composing = none → s.OneActive → n ∉ s.sc.queue → (t.stream n).state = .idle ∧
          t.Owes ⟨.descriptor n, true, false, false⟩) ∧
        t.store.poolUsed = s.store.poolUsed ∧ t.store.imaging = s.store.imaging ∧ t.form = s.form ∧
        t.hostMem = s.hostMem)

/-- DISCARD_RECORD: the record held is skipped, take and release moving together, or faults the stream where it fails
its checks, without a report; an END ends the discard, reports the job CANCELLED when the discard began with a queued
stream or an ACTIVE one with no JOB taken and not otherwise, and the stream goes on as IDLE, or as QUEUED at the tail
of the Job Queue or behind its rushed entries; with nothing queued and no owner it is granted at once. That the latest
JOB skipped gives the report its tag, where several stand before the END, is the model's choice (log 16). -/
def Obligations.DiscardSkipsRecordsToTheEnd : Prop :=
  (∀ h : RecordHeader, h.skipBytes = if h.kind = .job then 16 else if h.kind = .endJob then 12 else 8) ∧
  (∀ (n : Fin 8) (bytes : List Byte) (k : RecordKind) (s : State), s.regs.resetBusy = false → s.regs.run = true →
    s.Composed → s.owner ≠ none ∨ s.sc.queue = [] → s.sc.held = some ⟨n, bytes⟩ → (s.stream n).discard = true →
    (s.stream n).state = .idle ∨ (s.stream n).state = .queued →
    min 8 ((s.stream n).ringSize - (s.stream n).take) ≤ bytes.length →
    (s.stream n).atTake (bytes ++ List.replicate (recordHeader bytes).length 0) = .bad k →
    ∃ t, exec .discardRecord s = .next t ∧ (t.stream n).state = .faulted ∧ (t.stream n).fault = .badRecord ∧
      (t.stream n).take = (s.stream n).take ∧ (t.stream n).release = (s.stream n).release ∧
      (t.stream n).fill = (s.stream n).fill ∧ n ∉ t.sc.queue ∧ t.sc.held = none ∧
      t.Owes ⟨.descriptor n, true, false, false⟩ ∧
      ((s.stream n).reports = [] → (t.stream n).reports = [] ∧ (t.stream n).jobTag = (s.stream n).jobTag ∧
        (t.stream n).jobOutcome = (s.stream n).jobOutcome) ∧
      (∀ m, m ≠ n → (t.stream m).core = (s.stream m).core) ∧ t.comp = s.comp ∧ t.store = s.store ∧ t.form = s.form ∧
      t.hostMem = s.hostMem) ∧
  ∀ (n : Fin 8) (bytes : List Byte) (s : State),
    let h := recordHeader bytes
    let next := if h.kind = .wrap then 0 else (s.stream n).after h.length
    s.regs.resetBusy = false → s.regs.run = true → s.Composed → s.owner ≠ none ∨ s.sc.queue = [] →
    s.sc.held = some ⟨n, bytes⟩ →
    (s.stream n).discard = true → (s.stream n).state = .idle ∨ (s.stream n).state = .queued →
    (s.stream n).atTake (bytes ++ List.replicate h.length 0) = .whole h → h.skipBytes ≤ bytes.length →
    ∃ t, exec .discardRecord s = .next t ∧ (t.stream n).take = next ∧ (t.stream n).release = next ∧
      (h.kind ≠ .endJob → (t.stream n).discard = true ∧ t.sc.queue = s.sc.queue ∧
        ((s.stream n).fill = next → (t.stream n).state = .idle) ∧
        ((s.stream n).fill ≠ next → (t.stream n).state = (s.stream n).state)) ∧
      (h.kind = .job → (t.stream n).discardTag = some (BitVec.ofNat 32 (le32 bytes 12))) ∧
      (h.kind = .endJob → (t.stream n).discard = false ∧
        ((s.stream n).fill = next → (t.stream n).state = .idle ∧ t.sc.queue = s.sc.queue) ∧
        (s.owner ≠ none → (s.stream n).fill ≠ next → (s.stream n).rush = false →
          (t.stream n).state = .queued ∧ t.sc.queue = s.sc.queue ++ [n]) ∧
        (∀ front back, s.owner ≠ none → (s.stream n).fill ≠ next → (s.stream n).rush = true →
          s.sc.queue = front ++ back → (∀ m ∈ front.getLast?, (s.stream m).rush = true) →
          (∀ m ∈ back, (s.stream m).rush = false) →
          (t.stream n).state = .queued ∧ t.sc.queue = front ++ n :: back) ∧
        (s.owner = none → (s.stream n).fill ≠ next → (t.stream n).state = .active ∧ (t.stream n).rush = false ∧
          t.sc.queue = [] ∧ t.comp.state = .ready ∧ t.comp.job = none) ∧
        ((s.stream n).discardReports = true → (s.stream n).reports = [] → s.writer.waiting = [] →
          s.writer.issued = none →
          (t.stream n).jobTag = (s.stream n).discardTag.getD (BitVec.ofNat 32 (le32 bytes 8)) ∧
            (t.stream n).jobOutcome = .cancelled ∧ (t.stream n).jobPages = 0 ∧
            t.Owes ⟨.descriptor n, true, true, false⟩) ∧
        ((s.stream n).discardReports = false → (s.stream n).reports = [] → (t.stream n).reports = [] ∧
          (t.stream n).jobTag = (s.stream n).jobTag ∧ (t.stream n).jobOutcome = (s.stream n).jobOutcome ∧
          (t.stream n).jobPages = (s.stream n).jobPages)) ∧
      t.sc.held = none ∧ (t.stream n).fill = (s.stream n).fill ∧
      (∀ m, m ≠ n → (t.stream m).core = (s.stream m).core) ∧
      (s.owner ≠ none ∨ h.kind ≠ .endJob ∨ (s.stream n).fill = next → t.comp = s.comp) ∧ t.store = s.store ∧
      t.form = s.form ∧ t.hostMem = s.hostMem

/-- FORM_TRANSFER before the last: the record in two halves, then its check against typeface 0 of the directory in
force, then the vertical format table and the translate table. With a directory set aside behind a flush or a band in
hand, and none in force, the check waits (R76). Before the first directory read has completed any record is refused
(R140) or its check waits (R76), as the free value says in which the model leaves that contradiction open (DESIGN
CHOICE, log 23). A record that is refused faults the stream at its JOB. The check is that of every range, fit, position
and reference. -/
def Obligations.FormLoadGoesOnByTransfers : Prop :=
  (∀ c : Composer, c.waits = true ↔ c.state = .waitSlot ∨ c.state = .waitStrike) ∧
  (∀ (glyphs : Nat) (b : List Byte),
    let lines := byteAt b 1
    let positions := byteAt b 9
    let fits := fun pos len : Nat => 1 ≤ pos ∧ pos + len - 1 ≤ positions
    let len := byteAt b 25
    formAccepted glyphs b = true ↔
      (1 ≤ byteAt b 0 ∧ 600 ≤ le16 b 2 ∧ le16 b 2 ≤ 7200 ∧ 1 ≤ lines ∧ lines ≤ 192 ∧ 3 ≤ byteAt b 8 ∧
        byteAt b 8 ≤ 12 ∧ le16 b 4 ≤ 600 ∧ 1 ≤ positions ∧ positions ≤ 160 ∧ 12 ≤ byteAt b 10 ∧ byteAt b 10 ≤ 40 ∧
        le16 b 6 ≤ 1023 ∧ 16 ≤ byteAt b 11 ∧ byteAt b 11 ≤ 63 ∧ (∀ k ∈ [12, 13, 14], 1 ≤ byteAt b k ∧ byteAt b k ≤ 63) ∧
        len ≤ 32 ∧ 1 ≤ byteAt b 15 ∧ byteAt b 15 ≤ lines ∧ byteAt b 30 ≤ 191) ∧
      (le16 b 4 + 300 * (lines - 1) / byteAt b 8 < le16 b 2 ∧ le16 b 6 + positions * byteAt b 10 ≤ 4096) ∧
      (0 < len → fits (byteAt b 24) len ∧ fits (byteAt b 26) len ∧ fits (byteAt b 27) len) ∧
      (0 < byteAt b 29 → fits (byteAt b 28) (min (byteAt b 29) 6)) ∧
      (∀ r ∈ [0, 1, 2, 3], byteAt b (32 + 4 * r) ≠ 0 → byteAt b (32 + 4 * r) ≤ positions ∧ 1 ≤ byteAt b (33 + 4 * r) ∧
        byteAt b (33 + 4 * r) ≤ byteAt b (34 + 4 * r) ∧ byteAt b (34 + 4 * r) ≤ lines) ∧
      le32 b 16 % 4 = 0 ∧ le32 b 20 % 4 = 0 ∧ byteAt b 30 < glyphs) ∧
  ∀ (l : Load) (len : Nat) (data : List Byte) (s : State), data.length = len → s.form = .loading l →
    s.comp.waits = false → s.sc.readFailed = false →
    (s.OnBus .formRecord len → l.step = .recordLow →
      ∃ t, exec (.formTransfer data) s = .next t ∧
        t.form = .loading { l with step := .recordHigh, recordBytes := l.recordBytes ++ data } ∧
        t.store = s.store ∧ t.sc.view = s.sc.view ∧ t.hostMem = s.hostMem) ∧
    (s.OnBus .formRecord len → l.step = .recordHigh → s.cache.aside = none →
      ∃ t, exec (.formTransfer data) s = .next t ∧
        (s.cache.inForce = none →
          if Config.refusesUnread = true then
            t.form = .empty ∧ ∀ n, s.owner = some n → n ∉ s.sc.queue → (t.stream n).state = .faulted ∧
              (t.stream n).fault = .badForm ∧ (t.stream n).take = (s.stream n).take
          else t.form = .loading { l with step := .check, recordBytes := l.recordBytes ++ data } ∧ t.store = s.store) ∧
        (∀ d, s.cache.inForce = some d → formAccepted (d.font 0).count (l.recordBytes ++ data) = true →
          t.form = .loading { l with step := .vft, recordBytes := l.recordBytes ++ data }) ∧
        (∀ d n, s.cache.inForce = some d → formAccepted (d.font 0).count (l.recordBytes ++ data) = false →
          s.owner = some n → n ∉ s.sc.queue →
          t.form = .empty ∧ (t.stream n).state = .faulted ∧ (t.stream n).fault = .badForm ∧
            (t.stream n).take = (s.stream n).take) ∧
        t.sc.view = s.sc.view ∧ t.hostMem = s.hostMem) ∧
    (s.OnBus .formRecord len → l.step = .recordHigh → s.cache.inForce = none → s.cache.aside ≠ none →
      s.cache.flush = .reading ∨ s.atBoundary = false → s.refusalWaits = false →
      ∃ t, exec (.formTransfer data) s = .next t ∧
        t.form = .loading { l with step := .check, recordBytes := l.recordBytes ++ data } ∧
        t.cache = s.cache ∧ t.store = s.store ∧ t.sc.view = s.sc.view ∧ t.hostMem = s.hostMem) ∧
    (s.OnBus .vft len → l.step = .vft →
      ∃ t, exec (.formTransfer data) s = .next t ∧
        t.form = .loading { l with
          step := if (l.vftBytes ++ data).length < (byteAt l.recordBytes 1 + 3) / 4 * 4 then .vft else .translate
          vftBytes := l.vftBytes ++ data } ∧
        t.store = s.store ∧ t.sc.view = s.sc.view ∧ t.hostMem = s.hostMem) ∧
    (s.OnBus .translate len → l.step = .translate → (l.translateBytes ++ data).length < 512 →
      ∃ t, exec (.formTransfer data) s = .next t ∧
        t.form = .loading { l with translateBytes := l.translateBytes ++ data } ∧
        t.store = s.store ∧ t.sc.view = s.sc.view ∧ t.hostMem = s.hostMem)

/-- FORM_TRANSFER, the last: the form is LOADED, and the job's first page opens in the slot the ring order gives (the
first FREE one after the slot opened last), at line 1 with the JOB's page number modulo 1,000,000, take advancing past
the JOB; with no slot FREE the Composer waits. The form holds the record's fields, every one at its offset, with the
strobe widths and the page-number width clamped, and the slot copies what its page needs of it. -/
def Obligations.AcceptedFormOpensTheFirstPage : Prop :=
  (∀ (s : State) (i : Fin 4), s.composing = some i ↔ (s.slot i).mark = true ∧ ∀ k < i, (s.slot k).mark = false) ∧
  (∀ s : State, (s.freeSlot = none ↔ ∀ i, (s.slot i).state ≠ .free) ∧ ∀ i : Fin 4, s.freeSlot = some i ↔
    (s.slot i).state = .free ∧ ∀ k : Fin 4, (k.val + 3 - s.store.lastOpened.val) % 4 <
      (i.val + 3 - s.store.lastOpened.val) % 4 → (s.slot k).state ≠ .free) ∧
  (∀ (number : Nat) (b vft xlate : List Byte),
    let f := formOf number b vft xlate
    let top := byteAt b 11 - 4
    f.e1 = min (byteAt b 12) top ∧ f.e2 = min (max (byteAt b 13) f.e1) top ∧ f.e3 = min (max (byteAt b 14) f.e2) top ∧
      f.numberWidth = min (byteAt b 29) 6 ∧ f.strobePeriod = byteAt b 11 ∧ f.stock = byteAt b 0 ∧
      f.length = le16 b 2 ∧ f.lines = byteAt b 1 ∧ f.pitch = byteAt b 8 ∧ f.topMargin = le16 b 4 ∧
      f.positions = byteAt b 9 ∧ f.charPitch = byteAt b 10 ∧ f.leftMargin = le16 b 6 ∧ f.headerLine = byteAt b 15 ∧
      f.number = number ∧ f.capturePos = byteAt b 24 ∧ f.captureLen = byteAt b 25 ∧ f.firstPos = byteAt b 26 ∧
      f.lastPos = byteAt b 27 ∧ f.numberPos = byteAt b 28 ∧ f.substitute = byteAt b 30 ∧
      f.ruleCode.toNat = byteAt b 31 ∧ f.rules.length = 4 ∧
      (∀ r < 4, f.rules[r]? = some {
        position := byteAt b (32 + 4 * r)
        first := byteAt b (33 + 4 * r)
        last := byteAt b (34 + 4 * r) }) ∧
      (∀ n, f.top n = le16 b 4 + 300 * (n - 1) / byteAt b 8) ∧
      (∀ c : Byte, (f.translate.getD c.toNat 0).toNat = le16 xlate (2 * c.toNat)) ∧
      (∀ stop n, 1 ≤ n → n ≤ byteAt b 1 → f.carries stop n = (vft.getD (n - 1) 0).getLsbD (stop - 1)) ∧
      (16 ≤ byteAt b 11 → 1 ≤ byteAt b 12 → 1 ≤ byteAt b 13 → 1 ≤ byteAt b 14 →
        1 ≤ f.e1 ∧ f.e1 ≤ f.e2 ∧ f.e2 ≤ f.e3 ∧ f.e3 ≤ top)) ∧
  (∀ f : Form,
    f.copy = {
      stock := f.stock
      length := f.length
      lines := f.lines
      pitch := f.pitch
      topMargin := f.topMargin
      positions := f.positions
      charPitch := f.charPitch
      leftMargin := f.leftMargin
      strobe := ⟨f.e1, f.e2, f.e3, f.strobePeriod⟩
      rules := f.rules } ∧
      (∀ n, f.copy.top n = f.top n) ∧ ∀ s : State, s.form = .loaded f → s.loadedForm = f) ∧
  ∀ (n : Fin 8) (l : Load) (j : JobInfo) (len : Nat) (data : List Byte) (s : State), data.length = len →
    s.OnBus .translate len → s.form = .loading l → l.step = .translate → 512 ≤ (l.translateBytes ++ data).length →
    s.owner = some n → s.comp.state = .loadingForm → s.comp.job = some j → s.sc.readFailed = false →
    (∀ k, (s.slot k).mark = false) →
    ∃ t, exec (.formTransfer data) s = .next t ∧
      t.form = .loaded (formOf l.number l.recordBytes l.vftBytes (l.translateBytes ++ data)) ∧
      (∀ i, s.freeSlot = some i →
        (t.slot i).state = .composing ∧ (t.slot i).mark = true ∧ (t.slot i).stream = n ∧ (t.slot i).jobTag = j.tag ∧
        (t.slot i).firstOfJob = true ∧ (t.slot i).pageNo = j.firstPage % 1000000 ∧ (t.slot i).split = 0 ∧
        (t.slot i).strikes = [] ∧ (t.slot i).releaseOff = (s.stream n).after 16 ∧
        (t.slot i).copy = (formOf l.number l.recordBytes l.vftBytes (l.translateBytes ++ data)).copy ∧
        t.store.lastOpened = i ∧ t.comp.cursor = some 1 ∧ t.comp.job = some { j with started := true } ∧
        (t.stream n).take = (s.stream n).after 16 ∧ (t.stream n).pageNo = j.firstPage % 1000000 ∧
        (t.stream n).cursorLine = 1 ∧ t.sc.buffer = s.sc.buffer.drop 16 ∧
        (∀ k, k ≠ i → t.slot k = s.slot k)) ∧
      (s.freeSlot = none → t.comp.state = .waitSlot ∧ t.comp.cursor = some 1 ∧ t.comp.job = some j ∧
        (t.stream n).take = (s.stream n).take ∧ t.store = s.store) ∧
      (∀ m, m ≠ n → (t.stream m).core = (s.stream m).core) ∧ t.sc.queue = s.sc.queue ∧ t.sc.view = s.sc.view ∧
      t.hostMem = s.hostMem

/-- FLUSH_TIMER_EXPIRY: a page with an unsent strike is closed up to the top row of the line below its last struck line,
or to the form's length, and stays the composing page; at its first close it joins the imaging list, at a second
flush it keeps its place there; any other page stays as it is; the timer stands expired, and cursor and take stay.
That the command brings the clock to the timer's end is the model's choice (log 3). -/
def Obligations.FlushTimerClosesTheUnsentRows : Prop :=
  ∀ (ms : Nat) (n : Fin 8) (i : Fin 4) (s : State), s.regs.resetBusy = false → s.comp.flush = .running ms →
    s.owner = some n → s.Composed → s.composing = some i →
    ∃ t, exec .flushTimerExpiry s = .next t ∧ t.comp.flush = .expired ∧ t.comp.state = s.comp.state ∧
      t.comp.cursor = s.comp.cursor ∧ t.now = s.now + ms ∧
      ((∃ k ∈ (s.slot i).strikes, (s.slot i).split ≤ (s.slot i).copy.top k.line) →
        (s.slot i).state = .composing →
        (t.slot i).entry = some ⟨(s.slot i).split, (s.slot i).flushRow⟩ ∧ (t.slot i).split = (s.slot i).flushRow ∧
          (t.slot i).state = (if (s.slot i).split = 0 then .closed else .imaging) ∧
          t.store.imaging = (if (s.slot i).firstClose then s.store.imaging else s.store.imaging ++ [i]) ∧
          (t.slot i).firstClose = true) ∧
      (∀ m, (∃ k ∈ (s.slot i).strikes, k.line = m) → (∀ k ∈ (s.slot i).strikes, k.line ≤ m) →
        (s.slot i).flushRow = if (s.slot i).copy.lines ≤ m then (s.slot i).copy.length
          else (s.slot i).copy.topMargin + 300 * m / (s.slot i).copy.pitch) ∧
      (∀ e, (∃ k ∈ (s.slot i).strikes, (s.slot i).split ≤ (s.slot i).copy.top k.line) →
        (s.slot i).state ≠ .composing → (s.slot i).entry = some e →
        (t.slot i).entry = some ⟨e.first, (s.slot i).flushRow⟩ ∧ (t.slot i).split = (s.slot i).flushRow ∧
          (t.slot i).state = (s.slot i).state) ∧
      ((∀ k ∈ (s.slot i).strikes, (s.slot i).copy.top k.line < (s.slot i).split) → t.store = s.store) ∧
      (t.slot i).mark = (s.slot i).mark ∧ (t.slot i).pageNo = (s.slot i).pageNo ∧
      (t.slot i).releaseOff = (s.slot i).releaseOff ∧ (∀ k, k ≠ i → t.slot k = s.slot k) ∧
      (∀ m, (t.stream m).take = (s.stream m).take ∧ (t.stream m).state = (s.stream m).state) ∧
      t.store.poolUsed = s.store.poolUsed ∧ t.form = s.form ∧ t.sc.view = s.sc.view ∧ t.hostMem = s.hostMem

/-! ## Transfers that end -/

/-- The 48 bytes a descriptor write carries, field by field, and where they go, with the codes of their states; the two
bytes of a request field write; the 128 bytes of a device record write, in two halves; the payload words of MOUNT, BAND
and SLEW, TOP, HALT and POLL carrying none; the frame kinds; and the bits of a frame on the line, with its CRC. -/
def Obligations.DescriptorBytesAreLaidOut : Prop :=
  ((∀ d, (TxBody.mount d).kind = 1) ∧ (∀ seq page m, (TxBody.band seq page m).kind = 2 ∧
    (TxBody.slew seq page m).kind = 3) ∧ TxBody.top.kind = 4 ∧ TxBody.halt.kind = 5 ∧ TxBody.poll.kind = 6 ∧
    TxBody.top.payload = [] ∧ TxBody.halt.payload = [] ∧ TxBody.poll.payload = []) ∧
  (∀ (b0 b1 b2 b3 : Byte) (i : Nat) (b : List Byte), b.drop i = [b0, b1, b2, b3] →
    byteAt b i = b0.toNat ∧ le16 b i = b0.toNat + 256 * b1.toNat ∧
      le24 b i = b0.toNat + 256 * b1.toNat + 65536 * b2.toNat ∧
      le32 b i = b0.toNat + 256 * b1.toNat + 65536 * b2.toNat + 16777216 * b3.toNat) ∧
  ([StreamState.closed, .idle, .queued, .active, .faulted].map StreamState.code = [0, 1, 2, 3, 4] ∧
    [WaitReason.none, .forms, .operatorStop, .jam, .notReady, .offline, .hostPause, .slotWait].map WaitReason.code =
      [0, 1, 2, 3, 4, 5, 6, 7] ∧
    [RequestResult.noneYet, .accepted, .refusedState, .badRequest, .badRing, .nothingToCancel].map RequestResult.code =
      [0, 1, 2, 3, 4, 5] ∧
    [FaultCode.none, .badFill, .badRecord, .badCarriage, .noJob, .badForm, .missingStop, .memRead, .formRead].map
      FaultCode.code = [0, 1, 2, 3, 4, 5, 6, 7, 8] ∧
    [JobOutcome.noneYet, .done, .cancelled, .faulted].map JobOutcome.code = [0, 1, 2, 3] ∧
    [SlotState.free, .composing, .closed, .imaging, .sent].map SlotState.code = [0, 1, 2, 3, 4] ∧
    (∀ r, [EngineState.offline, .idle, .feeding, .held r, .formsWait, .jammed].map EngineState.code =
      [0, 1, 2, 3, 4, 5])) ∧
  (∀ (n : Fin 8) (s : State), (s.writeOf (.requestField n)).addr = s.regs.areaBase + BitVec.ofNat 32 (64 + 64 * n.val + 12) ∧
    (s.writeOf (.requestField n)).len = 2 ∧ (s.writeOf (.requestField n)).data = [0, 0]) ∧
  (∀ d : Nat, d < 8192 → ∃ w : Word32, (TxBody.mount d).payload = [w] ∧ w.toNat = d) ∧
  (∀ (seq : BitVec 16) (page : BitVec 8) (m : Message) (body : TxBody),
    (body = .slew seq page m ∧ m.count < 8192) ∨ (body = .band seq page m ∧ m.count < 128) →
    (∀ k, m.strobe = some k → k.e1 < 64 ∧ k.e2 < 64 ∧ k.e3 < 64 ∧ k.period < 64) →
    ∃ w0 w1 rest, body.payload = w0 :: w1 :: rest ∧ w0.toNat % 65536 = seq.toNat ∧
      w0.toNat / 65536 % 256 = page.toNat ∧ (body = .slew seq page m → w0.toNat / 2 ^ 24 = 0) ∧
      (body = .band seq page m → w0.toNat / 2 ^ 24 = m.count) ∧
      (∀ k, m.strobe = some k → w1.toNat % 64 = k.e1 ∧ w1.toNat / 64 % 64 = k.e2 ∧ w1.toNat / 4096 % 64 = k.e3 ∧
        w1.toNat / 2 ^ 18 % 64 = k.period) ∧
      (m.strobe = none → w1.toNat % 2 ^ 24 = 0) ∧ w1.getLsbD 24 = m.marks.first ∧ w1.getLsbD 25 = m.marks.last ∧
      w1.getLsbD 26 = m.marks.hold ∧ w1.toNat < 2 ^ 27 ∧
      (body = .slew seq page m → ∃ w2 : Word32, rest = [w2] ∧ w2.toNat = m.count) ∧
      (body = .band seq page m → rest.length = 256 * m.count ∧
        ((∀ row col, densityAt m.body.dots row col ≤ 3) → ∀ r < m.count, ∀ k < 256, ∀ w, rest[256 * r + k]? = some w →
          ∀ i < 16, w.toNat / 4 ^ i % 4 = densityAt m.body.dots (m.row + r) (16 * k + i)))) ∧
  (∀ s : State,
    let w := s.writeOf .deviceRecord
    let b := w.data
    w.addr = s.regs.areaBase + BitVec.ofNat 32 2688 ∧ w.len = 64 ∧ b.length = 64 ∧
      byteAt b 0 = s.engine.state.code ∧ byteAt b 1 = s.engine.state.wait.code ∧
      (s.engine.mountedStock < 256 → byteAt b 2 = s.engine.mountedStock) ∧ byteAt b 3 = 0 ∧
      (s.engine.mountedLength < 65536 → le16 b 4 = s.engine.mountedLength) ∧
      (s.store.poolUsed < 65536 → le16 b 6 = s.store.poolUsed) ∧
      (∀ i : Fin 4, byteAt b (8 + i.val) = (s.slot i).state.code) ∧ le32 b 12 = s.counts.underruns.toNat ∧
      le32 b 16 = s.counts.linkErrors.toNat ∧ le32 b 20 = s.counts.refusals.toNat ∧
      le32 b 24 = s.counts.bandsSent.toNat ∧ le32 b 28 = s.counts.pagesExited.toNat ∧
      le32 b 32 = s.cache.hits.toNat ∧ le32 b 36 = s.cache.misses.toNat ∧ le32 b 40 = s.cache.faults.toNat ∧
      le32 b 44 = s.counts.memFaults.toNat ∧ le32 b 48 = s.counts.lastFault.toNat ∧
      (∀ k, 52 ≤ k → byteAt b k = 0) ∧
      s.secondHalf.addr = s.regs.areaBase + BitVec.ofNat 32 2752 ∧ s.secondHalf.data = List.replicate 64 0) ∧
  (∀ f : TxFrame,
    let words := f.body.payload
    let bits := f.line
    let sum := crcOf ((bits.drop 18).take (27 + 32 * words.length))
    bits.length = 61 + 32 * words.length ∧ bits.take 18 = List.replicate 16 true ++ [false, true] ∧
      (∀ k < 4, bits[18 + k]? = some (f.body.kind.testBit k)) ∧
      (∀ k < 8, bits[22 + k]? = some (f.seq.getLsbD k)) ∧
      (∀ k < 15, bits[30 + k]? = some (words.length.testBit k)) ∧
      (∀ j w, words[j]? = some w → ∀ k < 32, bits[45 + 32 * j + k]? = some (w.getLsbD k)) ∧
      (∀ k < 16, bits[45 + 32 * words.length + k]? = some (sum.getLsbD (15 - k)))) ∧
  (crcOf [] = 0xFFFF ∧ ∀ (l : List Bool) (b : Bool), crcOf (l ++ [b]) =
    if (crcOf l).getLsbD 15 = b then crcOf l <<< 1 else (crcOf l <<< 1) ^^^ 0x1021) ∧
  ∀ (n : Fin 8) (s : State),
    let r := s.stream n
    let b := (s.writeOf (.descriptor n)).data
    (s.writeOf (.descriptor n)).addr = s.regs.areaBase + BitVec.ofNat 32 (64 + 64 * n.val + 16) ∧
      (s.writeOf (.descriptor n)).len = 48 ∧ b.length = 48 ∧ byteAt b 0 = r.state.code ∧ byteAt b 1 = r.wait.code ∧
      byteAt b 2 = r.result.code ∧ byteAt b 3 = r.fault.code ∧ (r.take < 2 ^ 32 → le32 b 4 = r.take) ∧
      (r.release < 2 ^ 32 → le32 b 8 = r.release) ∧ le32 b 12 = r.recordsTaken.toNat ∧
      le32 b 16 = r.pagesExited.toNat ∧ (r.pageNo < 2 ^ 32 → le32 b 20 = r.pageNo) ∧ le32 b 24 = r.markTag.toNat ∧
      le32 b 28 = r.jobTag.toNat ∧ byteAt b 32 = r.jobOutcome.code ∧ (r.cursorLine < 256 → byteAt b 33 = r.cursorLine) ∧
      le16 b 34 = r.reprints.toNat ∧ le16 b 36 = r.late.toNat ∧ le16 b 38 = r.excess.toNat ∧
      le16 b 40 = r.overrun.toNat ∧ le16 b 42 = r.substitutes.toNat ∧ le32 b 44 = r.jobPages.toNat

/-- DESCRIPTOR_WRITE places its bytes, raises STREAMn where it is owed and leads to the request field write after a
result; REQUEST_FIELD_WRITE raises STREAMn, clears clear owed, takes the fill pointer and the flush interval that were
held with the request (R7 and R28; that they wait for the request's end is DEDUCED, log 13) and lets the scan go on;
DEVICE_RECORD_WRITE goes on with the record's second half, and then ends. Each requester whose place is empty asks for
its next transfer, at its address and of its length: the scan's reads and the streams' ring reads in turn (log 15;
that a discard reads 16 bytes at most is the model's choice, log 16, and that the ACTIVE stream reads ahead also while
RUN is 0 is DEDUCED, log 18), the parts of a form load, of a fill or the
directory of a flush, and the head of the Status Writer's list. When the bus is free the MTU grants the first pending
place from its pointer on, which then names the next; under urgency the Glyph Filler goes first, the pointer
staying. -/
def Obligations.WritesEndAsOwed : Prop :=
  (∀ s : State, s.hasArea = true →
    (s.sc.phase = .header → s.scanRead = some ⟨.areaHeader, s.regs.areaBase, 64, []⟩) ∧
    (∀ n, s.sc.phase = .descriptor n →
      s.scanRead = some ⟨.descriptor n, s.regs.areaBase + BitVec.ofNat 32 (72 + 64 * n.val), 8, []⟩) ∧
    (∀ n x, s.sc.phase = .openRead n x →
      s.scanRead = some ⟨.openRead n, s.regs.areaBase + BitVec.ofNat 32 (64 + 64 * n.val), 8, []⟩) ∧
    (s.sc.phase = .directory → s.scanRead = some ⟨.fontDirectory, s.regs.areaBase + 576, 64, []⟩) ∧
    ∀ l : Load,
      (l.step = .recordLow →
        s.formRead l = some ⟨.formRecord, s.regs.areaBase + BitVec.ofNat 32 (640 + 128 * l.number), 64, []⟩) ∧
      (l.step = .recordHigh →
        s.formRead l = some ⟨.formRecord, s.regs.areaBase + BitVec.ofNat 32 (704 + 128 * l.number), 64, []⟩)) ∧
  (∀ (l : Load) (s : State),
    (l.step = .vft → s.formRead l = some ⟨.vft,
      BitVec.ofNat 32 (le32 l.recordBytes 16) + BitVec.ofNat 32 l.vftBytes.length,
      min 64 ((byteAt l.recordBytes 1 + 3) / 4 * 4 - l.vftBytes.length), []⟩) ∧
    (l.step = .translate → s.formRead l = some ⟨.translate,
      BitVec.ofNat 32 (le32 l.recordBytes 20) + BitVec.ofNat 32 l.translateBytes.length,
      min 64 (512 - l.translateBytes.length), []⟩) ∧
    (l.step = .check → s.formRead l = none)) ∧
  (∀ (n : Fin 8) (records : List (List Byte)) (back : List Byte) (s : State),
    let r := s.stream n
    let pos := (r.take + s.sc.buffer.length) % r.ringSize
    let most := min (min 64 (r.span - s.sc.buffer.length)) (min (r.ringSize - pos) (512 - s.sc.buffer.length))
    r.state = .active → s.sc.readFailed = false → s.sc.buffer = records.flatten ++ back →
    (∀ b ∈ records, b.length = (recordHeader b).length ∧ (recordHeader b).sound = true ∧
      (recordHeader b).kind ≠ .wrap) →
    back.length < 8 ∨ (recordHeader back).sound = false ∨
      ((recordHeader back).kind ≠ .wrap ∧ back.length < (recordHeader back).length) →
    (most < 4 → s.ringReadOf n = none) ∧
    (4 ≤ most → ∃ len, len % 4 = 0 ∧ len ≤ most ∧ most < len + 4 ∧
      s.ringReadOf n = some ⟨.ring n, r.ringBase + BitVec.ofNat 32 pos, len, []⟩)) ∧
  (∀ (n : Fin 8) (s : State), (s.stream n).state = .idle ∨ (s.stream n).state = .queued → (s.stream n).discard = true →
    s.regs.run = true → (s.stream n).discardStalled = false → s.sc.held = none → 8 ≤ (s.stream n).span →
    s.ringReadOf n = some ⟨.discardRing n, (s.stream n).ringBase + BitVec.ofNat 32 (s.stream n).take,
      min (min 16 (s.stream n).span) ((s.stream n).ringSize - (s.stream n).take), []⟩) ∧
  (∀ (r : Request) (s : State),
    (s.mtu.reader = .empty → s.scanRead = some r → (∀ n, s.ringReadOf n = none) ∨ s.sc.lastWasScan = false →
      (s.askNext .streamReader).mtu.reader = .pending r) ∧
    (∀ n, s.mtu.reader = .empty → s.ringReadOf n = some r → s.scanRead = none ∨ s.sc.lastWasScan = true →
      (∀ m : Fin 8, (m.val + 7 - s.sc.lastStream.val) % 8 < (n.val + 7 - s.sc.lastStream.val) % 8 →
        s.ringReadOf m = none) →
      (s.askNext .streamReader).mtu.reader = .pending r ∧ (s.askNext .streamReader).sc.lastStream = n) ∧
    (∀ l, s.mtu.loader = .empty → s.form = .loading l → s.formRead l = some r →
      (s.askNext .formLoader).mtu.loader = .pending r) ∧
    (∀ f, s.mtu.filler = .empty → s.cache.fill = some f → s.fillRead f = some r →
      (s.askNext .glyphFiller).mtu.filler = .pending r) ∧
    (s.mtu.filler = .empty → s.cache.fill = none → s.cache.flush = .reading → s.hasArea = true →
      (s.askNext .glyphFiller).mtu.filler = .pending ⟨.flushDirectory, s.regs.areaBase + 576, 64, []⟩) ∧
    (∀ o rest, s.mtu.writer = .empty → s.hasArea = true → s.writer.issued = none → s.writer.waiting = o :: rest →
      (s.askNext .statusWriter).mtu.writer = .pending (s.writeOf o.kind) ∧
        (s.askNext .statusWriter).writer.issued = some o ∧ (s.askNext .statusWriter).writer.waiting = rest) ∧
    (∀ o, s.mtu.writer = .empty → s.hasArea = true → s.writer.issued = some o → s.writer.secondHalf = true →
      (s.askNext .statusWriter).mtu.writer = .pending s.secondHalf)) ∧
  (∀ (q : Requester) (r : Request) (s : State), s.mtu.inFlight = none → s.mtu.place q = .pending r →
    ¬(s.engine.state = .feeding ∧ s.engine.cond.inMotion = true ∧ s.engine.bandRoom = 2 ∧
      (∃ f, s.cache.fill = some f ∧ f.wanted = true) ∧ ∃ r', s.mtu.filler = .pending r') →
    (∀ p ∈ s.mtu.pointer.round.takeWhile (· ≠ q), ∀ r', s.mtu.place p ≠ .pending r') →
    s.arbitrate.mtu.inFlight = some ⟨q, r, true⟩ ∧ s.arbitrate.mtu.limit = some 1 ∧
      s.arbitrate.mtu.place q = .granted ∧ s.arbitrate.mtu.pointer = q.next ∧
      ∀ p, p ≠ q → s.arbitrate.mtu.place p = s.mtu.place p) ∧
  (∀ (r : Request) (f : Fill) (s : State), s.mtu.inFlight = none → s.mtu.filler = .pending r →
    s.engine.state = .feeding → s.engine.cond.inMotion = true → s.engine.bandRoom = 2 → s.cache.fill = some f →
    f.wanted = true → s.arbitrate.mtu.inFlight = some ⟨.glyphFiller, r, true⟩ ∧
      s.arbitrate.mtu.limit = some 1 ∧ s.arbitrate.mtu.filler = .granted ∧
      s.arbitrate.mtu.pointer = s.mtu.pointer) ∧
  (∀ s : State, s.mtu.inFlight ≠ none → s.arbitrate = s) ∧
  ∀ (n : Fin 8) (s : State), s.Composed →
    (∀ o x, s.WritingOnBus (.descriptorWrite n) → s.writer.issued = some o → s.mtu.inFlight = some x →
      ∃ t, exec .descriptorWrite s = .next t ∧ (o.event = true → t.regs.events.getLsbD n.val = true) ∧
        (o.result = true → t.Owes ⟨.requestField n, false, false, false⟩) ∧
        (s.MemoryCanonical → x.request.addr.toNat + x.request.len ≤ 2 ^ 32 → ∀ k, k < x.request.len →
          t.hostMem.read (x.request.addr.toNat + k) = x.request.data[k]?) ∧
        t.store = s.store ∧ t.form = s.form ∧ t.sc.view = s.sc.view ∧
        (s.GrantsNothing → (∀ m, (t.stream m).core = (s.stream m).core) ∧ t.comp = s.comp)) ∧
    (∀ x, s.WritingOnBus (.requestField n) → s.sc.phase = .acting n x →
      ∃ t, exec .requestFieldWrite s = .next t ∧ t.regs.events.getLsbD n.val = true ∧
        (t.stream n).clearOwed = false ∧
        ((s.stream n).state ≠ .closed → (s.stream n).state ≠ .faulted → (s.stream n).badFill x.fill = false →
          (t.stream n).fill = x.fill) ∧
        (t.stream n).flushSecs = x.flush ∧
        (∀ m : Fin 8, m.val = n.val + 1 → m.val < s.sc.streamCount → s.sc.cut = false →
          t.sc.phase = .descriptor m)) ∧
    (∀ o, s.WritingOnBus .deviceRecord ∨ s.WritingOnBus .deviceRecordHigh → s.writer.issued = some o →
      ∃ t, exec .deviceRecordWrite s = .next t ∧
        (s.writer.secondHalf = false → t.writer.secondHalf = true ∧ t.writer.issued = some o) ∧
        (s.writer.secondHalf = true → t.writer.secondHalf = false) ∧ t.store = s.store ∧ t.form = s.form ∧
        t.sc.view = s.sc.view ∧
        (s.GrantsNothing → (∀ m, (t.stream m).core = (s.stream m).core) ∧ t.comp = s.comp))

/-- BUS_ERROR and LIMIT_TIMER_EXPIRY: the failure is counted with its address, and its requester acts: MEMFAULT for
the scan's reads, the flush's directory and the writes, a stream fault for ring and form reads, a glyph fault for a
sub-block: the cell that waited is drawn as the fault box, and the sub-block stays absent, while a fill given up only
ends. An answer that comes late, for a transfer that has ended at its limit, is discarded (log 58). The failure asks
for a device record write, but where it is that of a device record write which a failure had asked for. The bytes of a
failed write are unknown (log 5), but for the second half of a device record, which stays the old one, in a device
reset too, which counts nothing. That the expiry brings the clock to the timer's end is the model's choice (log 3). -/
def Obligations.FailedTransfersAreCounted : Prop :=
  (∀ s : State, s.boundaryCounts = {
    underruns := s.counts.underruns
    linkErrors := s.counts.linkErrors
    refusals := s.counts.refusals
    bandsSent := s.counts.bandsSent
    pagesExited := s.counts.pagesExited
    hits := s.cache.hits
    misses := s.cache.misses
    faults := s.cache.faults }) ∧
  (∀ (data : List Byte) (c : Instr) (s : State), c ∈ [.areaHeaderRead data true, .descriptorRead data true,
      .fontDirectoryRead data true, .ringRead data true, .formTransfer data true, .subBlockRead data true,
      .flushDirectoryRead data true, .descriptorWrite true, .requestFieldWrite true, .deviceRecordWrite true,
      .busError true] → exec c s = .next s) ∧
  (∀ (c : Instr) (x : Transfer) (s : State), s.regs.resetBusy = true → s.mtu.inFlight = some x →
    c = .busError ∨ (c = .limitTimerExpiry ∧ s.mtu.limit ≠ none) →
    ∃ t, exec c s = .next t ∧ t.mtu.inFlight = none ∧ t.mtu.limit = none ∧ t.counts = s.counts ∧
      t.writer = s.writer ∧ t.regs.events = s.regs.events ∧ t.sc = s.sc ∧ t.store = s.store ∧
      (x.request.kind = .deviceRecordHigh → t.hostMem = s.hostMem)) ∧
  ∀ (c : Instr) (x : Transfer) (s : State), s.regs.resetBusy = false → s.mtu.inFlight = some x →
    c = .busError ∨ (c = .limitTimerExpiry ∧ s.mtu.limit ≠ none) → s.comp.waits = false → s.form.noCheck = true →
    ∃ t, exec c s = .next t ∧ t.counts.memFaults = satAdd s.counts.memFaults 1 ∧ t.counts.lastFault = x.request.addr ∧
      (x.wanted = true → x.request.kind = .areaHeader ∨ (∃ n, x.request.kind = .descriptor n) ∨
          (∃ n, x.request.kind = .openRead n) ∨ x.request.kind = .fontDirectory ∨ x.request.kind = .flushDirectory ∨
          (∃ n, x.request.kind = .descriptorWrite n) ∨ (∃ n, x.request.kind = .requestField n) ∨
          x.request.kind = .deviceRecord ∨ x.request.kind = .deviceRecordHigh →
        t.regs.events.getLsbD 10 = true) ∧
      ((x.request.kind ≠ .deviceRecord ∧ x.request.kind ≠ .deviceRecordHigh) ∨ s.writer.failureIssued = false →
        t.Owes ⟨.deviceRecord, false, false, false⟩) ∧
      (x.wanted = true → x.request.kind = .deviceRecord ∨ x.request.kind = .deviceRecordHigh →
        s.writer.failureIssued = true → s.writer.waiting = [] → s.boundaryCounts = s.counts.shown →
        s.refusalWaits = false → s.gate = s.engine.state → s.engine.holdOwed = .none → s.sc.readFailed = false →
        ¬t.Owes ⟨.deviceRecord, false, false, false⟩) ∧
      (x.wanted = true → x.request.kind = .areaHeader → s.sc.scan ≠ .scanningOwed →
        t.sc.scan = .noScan ∧ t.sc.streamCount = s.sc.streamCount ∧ t.sc.dirOwed = s.sc.dirOwed ∧
          t.sc.recordOwed = s.sc.recordOwed) ∧
      (∀ n o, x.wanted = true → x.request.kind = .descriptorWrite n → s.writer.issued = some o → o.event = true →
        t.regs.events.getLsbD n.val = true) ∧
      (∀ n, x.wanted = true → x.request.kind = .requestField n →
        t.regs.events.getLsbD n.val = true ∧ (t.stream n).clearOwed = true) ∧
      (∀ n, x.wanted = true → x.request.kind = .formRecord ∨ x.request.kind = .vft ∨ x.request.kind = .translate →
        s.owner = some n → n ∉ s.sc.queue →
        (t.stream n).state = .faulted ∧ (t.stream n).fault = .formRead ∧ t.form = .empty) ∧
      (∀ n, x.wanted = true → x.request.kind = .ring n → s.comp.state = .loadingForm → t.sc.readFailed = true) ∧
      (∀ n, x.wanted = true → x.request.kind = .ring n → s.comp.state = .ready → s.regs.run = true →
        s.owner = some n → n ∉ s.sc.queue → s.sc.buffer = [] → 8 ≤ (s.stream n).span →
        8 ≤ (s.stream n).ringSize - (s.stream n).take →
        (t.stream n).state = .faulted ∧ (t.stream n).fault = .memRead ∧ (t.stream n).take = (s.stream n).take) ∧
      (∀ n, x.wanted = true → x.request.kind = .discardRing n → s.sc.readFailed = false →
        (t.stream n).state = .faulted ∧ (t.stream n).fault = .memRead) ∧
      (x.wanted = true → x.request.kind = .subBlock → s.cache.fill ≠ none →
        t.cache.faults = satAdd s.cache.faults 1) ∧
      (∀ f w cell e, x.wanted = true → x.request.kind = .subBlock → s.cache.fill = some f → f.wanted = true →
        s.builder.state = .fillWait → s.builder.work = some w → w.cells = [cell] → w.rebuild = none →
        s.builder.slew = none → w.dots ≠ [] → s.cache.flush = .none → s.cache.aside = none → s.refusalWaits = false →
        (s.slot w.slot).entry = some e → (s.slot w.slot).mark = false →
        let font := s.directory.font (s.directory.drawing cell.typeface)
        t.cache.fill = none ∧ t.cache.sets = s.cache.sets ∧ t.cache.hits = s.cache.hits ∧
          t.cache.misses = s.cache.misses ∧ t.builder.state = .offering ∧ t.builder.work = none ∧
          t.builder.nextRow = w.last ∧ t.builder.offer = [{
            slot := some w.slot
            row := w.first
            count := w.last - w.first
            body := .band (addMarks (cellDots font.width font.height cell w.first w.last
              (boxDot font.width font.height)) w.dots)
            marks := ⟨decide (w.first = 0), decide (w.last = e.last), false⟩
            strobe := some (s.slot w.slot).copy.strobe }]) ∧
      (∀ f, x.wanted = true → x.request.kind = .subBlock → s.cache.fill = some f → f.wanted = false →
        s.atBoundary = true → s.refusalWaits = false →
        t.cache.fill = none ∧ t.builder = s.builder ∧ t.cache.hits = s.cache.hits ∧ t.cache.misses = s.cache.misses ∧
          (s.cache.flush = .none → s.cache.aside = none → t.cache.sets = s.cache.sets) ∧
          (s.cache.flush = .waitFill → t.cache.flush = .reading ∧ ∀ k : Fin 32, t.cache.sets[k] = CacheSet.empty)) ∧
      (s.MemoryCanonical → x.request.addr.toNat + x.request.data.length ≤ 2 ^ 32 →
        x.request.kind ≠ .deviceRecordHigh → ∀ k, k < x.request.data.length →
        t.hostMem.read (x.request.addr.toNat + k) = none) ∧
      (x.request.kind = .deviceRecordHigh → t.hostMem = s.hostMem) ∧
      (c = .busError → t.now = s.now)

/-! ## Imaging -/

/-- BAND_BEGIN on rows with nothing on them. A page with no strike, its four column rules unused, is offered as one
SLEW with the marks of a whole page and the strobe triple. From a later row on, up to the entry's end, the blank bands
join the slew that is pending, or make one of their own, which is offered with the last mark, or with hold after on the
composing page; it carries first and the triple where it starts at row 0. An entry with no rows left is ended by the
pending slew, or else by the closing message: a SLEW of one row with the last mark alone. That one BAND_BEGIN goes
through all the blank bands is the model's choice (log 26). -/
def Obligations.BlankPageIsOneSlew : Prop :=
  (∀ (i : Fin 4) (d : Nat) (s : State), s.regs.resetBusy = false → s.builder.state = .still → s.leave = true →
    s.cache.flush = .none → s.Composed → s.head = some i → s.builder.slot ≠ some i →
    (s.slot i).entry = some ⟨0, d⟩ → (s.slot i).copy.length = d → 1 ≤ d → d ≤ 7200 → (s.slot i).state = .closed →
    (s.slot i).mark = false → (s.slot i).strikes = [] → (∀ r ∈ (s.slot i).copy.rules, r.position = 0) →
    ∃ t, exec .bandBegin s = .next t ∧ t.builder.state = .offering ∧
      t.builder.offer = [{
        slot := some i
        row := 0
        count := d
        body := .slew
        marks := ⟨true, true, false⟩
        strobe := some (s.slot i).copy.strobe }] ∧
      t.builder.work = none ∧ t.builder.slew = none ∧ t.slot i = { s.slot i with state := .imaging } ∧
      (∀ k, k ≠ i → t.slot k = s.slot k) ∧ t.store.imaging = s.store.imaging ∧ t.cache.hits = s.cache.hits ∧
      t.cache.misses = s.cache.misses ∧ t.linkOut = s.linkOut ∧ t.form = s.form ∧ t.hostMem = s.hostMem) ∧
  ∀ (i : Fin 4) (e : Entry) (row : Nat) (pend : Option PendingSlew) (s : State), s.BandFrom i e row pend →
    let sl := s.slot i
    let imaging := { sl with state := if sl.state = .closed then .imaging else sl.state }
    let slew : Nat → Nat → Message := fun start count => {
      slot := some i
      row := start
      count := count
      body := .slew
      marks := ⟨decide (start = 0), decide (start + count = e.last) && !sl.mark,
        decide (start + count = e.last) && sl.mark⟩
      strobe := if start = 0 then some sl.copy.strobe else none }
    (row < e.last → e.last ≤ sl.copy.length → e.last ≤ 7200 → (∀ p, pend = some p → p.row + p.count = row) →
      sl.cells = [] ∨ (s.cache.aside = none ∧ ∀ c ∈ sl.cells, c.meets s.directory row e.last = false) →
      ∃ t, exec .bandBegin s = .next t ∧ t.builder.state = .offering ∧
        (pend = none → t.builder.offer = [slew row (e.last - row)]) ∧
        (∀ p, pend = some p → t.builder.offer = [slew p.row (e.last - p.row)]) ∧ t.builder.work = none ∧
        t.builder.slew = none ∧ t.builder.nextRow = e.last ∧ t.slot i = imaging ∧
        (∀ k, k ≠ i → t.slot k = s.slot k) ∧ t.store.imaging = s.store.imaging ∧ t.cache.hits = s.cache.hits ∧
        t.cache.misses = s.cache.misses ∧ t.linkOut = s.linkOut ∧ t.form = s.form ∧ t.hostMem = s.hostMem) ∧
    (e.last ≤ row → s.builder.work = none →
      ∃ t, exec .bandBegin s = .next t ∧ t.builder.state = .offering ∧
        (pend = none → t.builder.offer = [{
          slot := some i
          row := row
          count := 1
          body := .slew
          marks := ⟨false, true, false⟩
          strobe := none }]) ∧
        (∀ p, pend = some p → t.builder.offer = [slew p.row p.count]) ∧ t.builder.work = none ∧
        t.builder.slew = none ∧ t.slot i = imaging ∧ (∀ k, k ≠ i → t.slot k = s.slot k) ∧
        t.store.imaging = s.store.imaging ∧ t.cache.hits = s.cache.hits ∧ t.cache.misses = s.cache.misses ∧
        t.linkOut = s.linkOut ∧ t.form = s.form ∧ t.hostMem = s.hostMem)

/-- BAND_BEGIN on any band of a page, its rows from next row to the next multiple of 64 or the entry's end: a first
cell whose glyph is in no entry of its set is a miss, claims the least recent way, which is emptied and takes its tag,
and the band waits for the fill of the needed sub-blocks, those whose rows meet the band; one whose entry lacks needed
sub-blocks waits for those. The way becomes the most recent. A cell whose glyph is held is a hit, and one beyond the
directory is drawn as the fault box and counts nothing; the band of one such cell is offered with its dots, behind the
slew that was pending. A cell marks each of its set dots once, inside the band and left of column 4,096, and a dot's
density is its marks, 3 at most. The cells of a page come line by line, on each line its strikes in the order they were
placed, a strike's positions from left to right, then the column rules in use; blanks draw nothing. -/
def Obligations.FirstMissWaitsForItsFill : Prop :=
  (∀ c : FormCopy, (∀ p, c.left p = c.leftMargin + (p - 1) * c.charPitch) ∧
    (∀ n, c.top n = c.topMargin + 300 * (n - 1) / c.pitch) ∧ ∀ n p, c.cell n p .blank = none ∧
      ∀ face index, c.cell n p (.glyph face index) = some ⟨c.top n, c.left p, face, index⟩) ∧
  (∀ (c : FormCopy) (k : Strike), (k.glyphs = none → k.cells c = []) ∧ ∀ gs, k.glyphs = some gs →
    k.cells c = (List.range gs.length).filterMap fun x => c.cell k.line (x + 1) (gs.getD x .blank)) ∧
  (∀ (sl : Slot) (n : Nat),
    sl.ruleCells n = (sl.copy.rules.filter fun r => r.position ≠ 0 ∧ r.first ≤ n ∧ n ≤ r.last).filterMap fun r =>
      sl.copy.cell n r.position (sl.ruleRef.getD .blank)) ∧
  (∀ sl : Slot, sl.cells = ((List.range sl.copy.lines).map fun x =>
    ((sl.strikes.filter fun k => k.line = x + 1).map fun k => k.cells sl.copy).flatten ++
      sl.ruleCells (x + 1)).flatten) ∧
  (∀ (d : Directory) (first last : Nat) (c : Cell), c.meets d first last = true ↔
    c.top < last ∧ first < c.top + (d.font (d.drawing c.typeface)).height) ∧
  (∀ (d : Directory) (face : Nat), (face < d.count → d.drawing face = face) ∧ (d.count ≤ face → d.drawing face = 0) ∧
    ∀ f, d.fonts[face]? = some f → d.font face = f) ∧
  (∀ face index : Nat, (setOf face index).val = (index + 7 * face) % 32) ∧
  (∀ (c : CacheSet) (tag : Nat × Nat) (w : Fin 4), (c.find tag = some w → c.ways[w].tag = some tag) ∧
    (c.find tag = none ↔ ∀ v : Fin 4, c.ways[v].tag ≠ some tag) ∧ (c.order.getLast? = some w → c.oldest = w)) ∧
  (∀ (f : FontRec) (top first last : Nat), 1 ≤ f.height → first < last → top < last → first < top + f.height →
    (f.needed top first last).Pairwise (· < ·) ∧ ∀ k : Fin 4, k ∈ f.needed top first last ↔
      ∃ r < f.height, k.val * ((f.height + 3) / 4) ≤ r ∧ r < (k.val + 1) * ((f.height + 3) / 4) ∧ first ≤ top + r ∧
        top + r < last) ∧
  (∀ (w h : Nat) (c : Cell) (first last : Nat) (isSet : Nat → Nat → Bool),
    (cellDots w h c first last isSet).Nodup ∧ ∀ key, key ∈ cellDots w h c first last isSet ↔
      ∃ r k, r < h ∧ k < w ∧ isSet r k = true ∧ first ≤ c.top + r ∧ c.top + r < last ∧ c.col + k < 4096 ∧
        key = (c.top + r) * 4096 + (c.col + k)) ∧
  (∀ (keys : List Nat) (row col : Nat),
    densityAt (addMarks keys []) row col = min 3 (keys.count (row * 4096 + col))) ∧
  (∀ w h r k : Nat, boxDot w h r k = true ↔ (r = 0 ∨ r + 1 = h ∨ k = 0 ∨ k + 1 = w)) ∧
  (∀ (i : Fin 4) (e : Entry) (row : Nat) (pend : Option PendingSlew) (cell : Cell) (s : State),
    s.BandFrom i e row pend → row < e.last → e.last ≤ (s.slot i).copy.length →
    let sl := s.slot i
    let stop := min (64 * (row / 64) + 64) e.last
    let marks : Nat → Nat → PageMarks := fun start after =>
      ⟨decide (start = 0), decide (after = e.last) && !sl.mark, decide (after = e.last) && sl.mark⟩
    let offer : List Nat → List Message := fun keys =>
      (pend.toList.map fun p => {
        slot := some i
        row := p.row
        count := p.count
        body := .slew
        marks := marks p.row (p.row + p.count)
        strobe := if p.row = 0 then some sl.copy.strobe else none }) ++
      [{
        slot := some i
        row := row
        count := stop - row
        body := .band (addMarks keys [])
        marks := marks row stop
        strobe := some sl.copy.strobe }]
    sl.cells.filter (Cell.meets s.directory row stop) = [cell] → s.cache.fill = none →
    let face := s.directory.drawing cell.typeface
    let font := s.directory.font face
    (∀ w, cell.index < font.count → s.cache.sets[setOf face cell.index].find (face, cell.index) = some w →
      let entry := s.cache.sets[setOf face cell.index].ways[w]
      let keys := cellDots font.width font.height cell row stop fun r col => rowDot (entry.row font r) col
      (∀ b ∈ font.needed cell.top row stop, (entry.subs[b]).isSome = true) → keys ≠ [] →
      ∃ t, exec .bandBegin s = .next t ∧ t.builder.state = .offering ∧ t.builder.offer = offer keys ∧
        t.cache.hits = satAdd s.cache.hits 1 ∧ t.cache.misses = s.cache.misses ∧
        (s.cache.aside = none → t.cache.sets[setOf face cell.index].order =
          w :: s.cache.sets[setOf face cell.index].order.filter (· ≠ w)) ∧
        t.builder.nextRow = stop ∧ t.builder.slew = none ∧ t.linkOut = s.linkOut ∧ t.form = s.form ∧
        t.hostMem = s.hostMem) ∧
    (font.count ≤ cell.index →
      let keys := cellDots font.width font.height cell row stop (boxDot font.width font.height)
      keys ≠ [] →
      ∃ t, exec .bandBegin s = .next t ∧ t.builder.state = .offering ∧ t.builder.offer = offer keys ∧
        t.cache.hits = s.cache.hits ∧ t.cache.misses = s.cache.misses ∧ t.cache.faults = s.cache.faults ∧
        t.builder.nextRow = stop ∧ t.builder.slew = none ∧ t.linkOut = s.linkOut ∧ t.form = s.form ∧
        t.hostMem = s.hostMem)) ∧
  ∀ (i : Fin 4) (e : Entry) (row : Nat) (pend : Option PendingSlew) (cell : Cell) (cells : List Cell) (way : Fin 4)
    (todo : List (Fin 4)) (ways : Vector CacheEntry 4) (s : State),
    let sl := s.slot i
    let stop := min (64 * (row / 64) + 64) e.last
    let face := s.directory.drawing cell.typeface
    let font := s.directory.font face
    let k := setOf face cell.index
    let needed := font.needed cell.top row stop
    s.BandFrom i e row pend → row < e.last → e.last ≤ sl.copy.length →
    sl.cells.filter (Cell.meets s.directory row stop) = cell :: cells →
    s.cache.fill = none → cell.index < font.count →
    (s.cache.sets[k].find (face, cell.index) = none ∧ way = s.cache.sets[k].oldest ∧ todo = needed ∧
        ways = s.cache.sets[k].ways.set way ⟨some (face, cell.index), Vector.replicate 4 none⟩) ∨
      (s.cache.sets[k].find (face, cell.index) = some way ∧ todo ≠ [] ∧ ways = s.cache.sets[k].ways ∧
        todo = needed.filter fun b => (s.cache.sets[k].ways[way].subs[b]).isNone) →
    ∃ t, exec .bandBegin s = .next t ∧ t.builder.state = .fillWait ∧ t.builder.slot = some i ∧
      t.builder.nextRow = row ∧ t.builder.slew = pend ∧
      t.builder.work = some {
        slot := i
        first := row
        last := stop
        dots := []
        cells := cell :: cells
        rebuild := none } ∧
      t.cache.fill = some {
        set := k
        way := way
        typeface := face
        index := cell.index
        font := font
        todo := todo
        got := []
        wanted := true } ∧
      t.cache.sets[k].ways = ways ∧ t.cache.sets[k].order = way :: s.cache.sets[k].order.filter (· ≠ way) ∧
      (∀ k' : Fin 32, k' ≠ k → t.cache.sets[k'] = s.cache.sets[k']) ∧
      t.cache.misses = satAdd s.cache.misses 1 ∧ t.cache.hits = s.cache.hits ∧
      t.slot i = { sl with state := if sl.state = .closed then .imaging else sl.state } ∧
      (∀ j, j ≠ i → t.slot j = s.slot j) ∧ t.linkOut = s.linkOut ∧ t.form = s.form ∧ t.hostMem = s.hostMem

/-- SUB_BLOCK_READ: the bytes gather until the sub-block is whole; then its rows are stored, where the entry still
holds the fill's glyph, and the fill goes on with the next or ends, drawing the cell that waited from the rows it now
holds and offering the band when it was the last. A fill given up keeps its sub-block; a lookup held behind it is
judged then, a hit where the fill brought what it needs, and a flush that waited for it empties the cache. A
sub-block's bytes stand in host memory at the glyph's rows, read in a span widened to multiples of 4.
FLUSH_DIRECTORY_READ: the new directory is in force, one set aside is dropped, and GLYPH_FLUSH reads 0. A hold owed is
entered at the boundary that the finished band makes, also where the gate has moved the engine to IDLE or FORMS_WAIT
meanwhile (DEDUCED, log 55). -/
def Obligations.GlyphReadsFillTheCache : Prop :=
  (∀ (f : FontRec) (g k : Nat),
    let quarter := (f.height + 3) / 4
    let rowBytes := (f.width + 7) / 8
    let start := f.base + BitVec.ofNat 32 ((g * f.height + k * quarter) * rowBytes)
    f.subBytes k = (min ((k + 1) * quarter) f.height - k * quarter) * rowBytes ∧
      (f.widened g k).1 = start.toNat % 4 ∧ (f.widened g k).2 % 4 = 0 ∧
      (f.widened g k).1 + f.subBytes k ≤ (f.widened g k).2 ∧ (f.widened g k).2 < (f.widened g k).1 + f.subBytes k + 4 ∧
      (∀ (fl : Fill) (j : Fin 4) (ks : List (Fin 4)) (s : State), fl.font = f → fl.index = g → j.val = k →
        fl.todo = j :: ks → s.fillRead fl = some ⟨.subBlock,
          start - BitVec.ofNat 32 (start.toNat % 4) + BitVec.ofNat 32 fl.got.length,
          min 64 ((f.widened g k).2 - fl.got.length), []⟩) ∧
      (∀ (e : CacheEntry) (j : Fin 4) (b : List Byte) (r i : Nat), j.val = k → e.subs[j] = some b → r < f.height →
        k * quarter ≤ r → r < (k + 1) * quarter → i < rowBytes →
        (e.row f r)[i]? = b[(r - k * quarter) * rowBytes + i]?)) ∧
  (∀ (b : List Byte) (i j : Nat), j < 8 → rowDot b (8 * i + j) = (b.getD i 0).getLsbD (7 - j)) ∧
  (∀ (len : Nat) (data : List Byte) (f : Fill) (k : Fin 4) (s : State),
    let stored := some (((f.got ++ data).drop (f.font.widened f.index k.val).1).take (f.font.subBytes k.val))
    data.length = len → s.OnBus .subBlock len → s.cache.fill = some f → f.todo = [k] → f.wanted = false →
    (f.font.widened f.index k.val).2 ≤ (f.got ++ data).length → s.refusalWaits = false → s.Composed →
    (s.atBoundary = true →
      ∃ t, exec (.subBlockRead data) s = .next t ∧ t.cache.fill = none ∧ t.builder = s.builder ∧
        t.cache.hits = s.cache.hits ∧ t.cache.misses = s.cache.misses ∧ t.cache.faults = s.cache.faults ∧
        (s.cache.flush = .none → s.cache.aside = none →
          (s.cache.sets[f.set].ways[f.way]).tag = some (f.typeface, f.index) →
          ((t.cache.sets[f.set]).ways[f.way]).subs[k] = stored) ∧
        (s.cache.flush = .waitFill → t.cache.flush = .reading ∧ ∀ j : Fin 32, t.cache.sets[j] = CacheSet.empty) ∧
        t.store = s.store ∧ t.linkOut = s.linkOut ∧ t.form = s.form ∧ t.hostMem = s.hostMem) ∧
    (∀ w cell e, s.builder.state = .fillWait → s.builder.work = some w → w.cells = [cell] → w.rebuild = none →
      s.builder.slew = none → s.cache.flush = .none → s.cache.aside = none → (s.slot w.slot).entry = some e →
      (s.slot w.slot).mark = false → w.dots ≠ [] → s.directory.drawing cell.typeface = f.typeface →
      cell.index = f.index → f.font = s.directory.font f.typeface → f.index < f.font.count →
      f.set = setOf f.typeface f.index → s.cache.sets[f.set].find (f.typeface, f.index) = some f.way →
      (∀ j ∈ f.font.needed cell.top w.first w.last, j = k ∨ (s.cache.sets[f.set].ways[f.way].subs[j]).isSome = true) →
      ∃ t, exec (.subBlockRead data) s = .next t ∧ t.cache.fill = none ∧ t.cache.hits = satAdd s.cache.hits 1 ∧
        t.cache.misses = s.cache.misses ∧ ((t.cache.sets[f.set]).ways[f.way]).subs[k] = stored ∧
        t.builder.state = .offering ∧ t.builder.work = none ∧ t.builder.nextRow = w.last ∧
        t.builder.offer = [{
          slot := some w.slot
          row := w.first
          count := w.last - w.first
          body := .band (addMarks (cellDots f.font.width f.font.height cell w.first w.last fun r col =>
            rowDot (((t.cache.sets[f.set]).ways[f.way]).row f.font r) col) w.dots)
          marks := ⟨decide (w.first = 0), decide (w.last = e.last), false⟩
          strobe := some (s.slot w.slot).copy.strobe }] ∧
        t.store = s.store ∧ t.linkOut = s.linkOut ∧ t.form = s.form ∧ t.hostMem = s.hostMem)) ∧
  (∀ (len : Nat) (data : List Byte) (f : Fill) (k : Fin 4) (ks : List (Fin 4)) (s : State), data.length = len →
      s.OnBus .subBlock len → s.cache.fill = some f → f.todo = k :: ks → s.refusalWaits = false → s.Composed →
      s.atBoundary = false →
      ∃ t, exec (.subBlockRead data) s = .next t ∧
        ((f.got ++ data).length < (f.font.widened f.index k.val).2 →
          t.cache = { s.cache with fill := some { f with got := f.got ++ data } } ∧ t.builder = s.builder ∧
            t.store = s.store) ∧
        ((f.font.widened f.index k.val).2 ≤ (f.got ++ data).length → ks ≠ [] →
          t.cache.fill = some { f with todo := ks, got := [] } ∧
          ((s.cache.sets[f.set].ways[f.way]).tag = some (f.typeface, f.index) →
            ((t.cache.sets[f.set]).ways[f.way]).subs[k] =
              some (((f.got ++ data).drop (f.font.widened f.index k.val).1).take (f.font.subBytes k.val))) ∧
          t.builder = s.builder ∧ t.store = s.store) ∧
        (∀ w cell e, (f.font.widened f.index k.val).2 ≤ (f.got ++ data).length → ks = [] →
          f.wanted = true → s.builder.work = some w → w.cells = [cell] → w.rebuild = none → s.builder.slew = none →
          s.builder.state = .fillWait → s.cache.flush = .none → s.cache.aside = none →
          (s.slot w.slot).entry = some e → (s.slot w.slot).mark = false → w.dots ≠ [] →
          t.cache.fill = none ∧ t.builder.state = .offering ∧ t.builder.work = none ∧
            t.builder.nextRow = w.last ∧
            ((s.cache.sets[f.set].ways[f.way]).tag = some (f.typeface, f.index) →
              ((t.cache.sets[f.set]).ways[f.way]).subs[k] =
                some (((f.got ++ data).drop (f.font.widened f.index k.val).1).take (f.font.subBytes k.val))) ∧
            t.builder.offer = [{
              slot := some w.slot
              row := w.first
              count := w.last - w.first
              body := .band (addMarks (cellDots f.font.width f.font.height cell w.first w.last fun r col =>
                rowDot (((t.cache.sets[f.set]).ways[f.way]).row f.font r) col) w.dots)
              marks := ⟨decide (w.first = 0), decide (w.last = e.last), false⟩
              strobe := some (s.slot w.slot).copy.strobe }] ∧
            (s.engine.state = .feeding ∨ s.engine.state = .idle ∨ s.engine.state = .formsWait →
              (s.engine.holdOwed = .operatorStop → t.engine.state = .held .operatorStop) ∧
              (s.engine.holdOwed = .hostPause → t.engine.state = .held .hostPause) ∧
              (s.engine.holdOwed ≠ .none → t.engine.holdOwed = .none ∧ t.regs.events.getLsbD 8 = true)) ∧
            t.store = s.store) ∧
        t.linkOut = s.linkOut ∧ t.form = s.form ∧ t.hostMem = s.hostMem) ∧
    (∀ (data : List Byte) (s : State), data.length = 64 → s.OnBus .flushDirectory 64 → s.refusalWaits = false →
      s.cache.fill = none →
      ∃ t, exec (.flushDirectoryRead data) s = .next t ∧ t.cache.inForce = some (directoryOf s.sc.fontCount data) ∧
        t.cache.aside = none ∧ t.cache.flush = .none ∧ (t.readRegister 0x00).getLsbD 2 = false ∧
        (∀ l, s.form = .loading l → l.step = .check → s.comp.waits = false → s.sc.readFailed = false →
          (formAccepted ((directoryOf s.sc.fontCount data).font 0).count l.recordBytes = true →
            t.form = .loading { l with step := .vft }) ∧
          (∀ n, formAccepted ((directoryOf s.sc.fontCount data).font 0).count l.recordBytes = false →
            s.owner = some n → n ∉ s.sc.queue → t.form = .empty ∧ (t.stream n).state = .faulted ∧
              (t.stream n).fault = .badForm ∧ (t.stream n).take = (s.stream n).take)) ∧
        t.cache.sets = s.cache.sets ∧ t.cache.hits = s.cache.hits ∧ t.cache.misses = s.cache.misses ∧
        t.builder = s.builder ∧ t.linkOut = s.linkOut ∧ t.hostMem = s.hostMem ∧ t.regs.run = s.regs.run)

/-- MESSAGE_HANDOVER, under the leave to image (FEEDING, no hold owed, no halt, no refusal waiting, and the key of the
head of imaging mounted): the alignment is put right before a first-of-page message with MOUNT and TOP or TOP; the
message takes the next band sequence number and the page's sequence number, one unit of band room and a place in the
sent list; the entry advances, or ends and leaves the slot SENT or COMPOSING; the linger timer is loaded. A hold-after
message taken after a final close leaves the entry without rows, which its last message ends (DEDUCED, log 51). A
rebuilt band is resent with the band and page sequence numbers it had, and takes band room; the offers behind it go on
waiting. That the Builder is STILL once the offer is empty, the next band waiting for its own BAND_BEGIN, is the
model's choice (R133; log 26). -/
def Obligations.HandoverSendsTheMessage : Prop :=
  (∀ s : State, s.leave = true ↔ s.engine.state = .feeding ∧ s.engine.holdOwed = .none ∧ s.engine.halting = false ∧
    (∀ e ∈ s.engine.sent, e.awaiting = false) ∧ ∃ front i back, s.store.imaging = front ++ i :: back ∧
      (∀ k ∈ front, (s.slot k).entry = none) ∧ (s.slot i).entry ≠ none ∧
      (s.slot i).copy.stock = s.engine.mountedStock ∧ (s.slot i).copy.length = s.engine.mountedLength) ∧
  (∀ (r : RebuiltOffer) (others : List RebuiltOffer) (old : SentMsg) (s : State), s.regs.resetBusy = false →
    s.builder.state = .offering → s.builder.rebuilt = r :: others →
    s.engine.sent.find? (fun e => decide (e.seq = r.seq)) = some old →
    (∀ e ∈ s.engine.sent, e.awaiting = true →
      e.seq = r.seq ∨ (e.isBand = true ∧ ∃ r' ∈ others, r'.seq = e.seq)) →
    s.leaveButRefusal = true → 1 ≤ s.engine.bandRoom → r.message.slot ≠ none → s.Composed →
    ∃ t, exec .messageHandover s = .next t ∧
      t.linkOut = s.linkOut ++ [⟨s.engine.frameSeq, r.message.frame r.seq old.pageSeq⟩] ∧
      t.engine.bandRoom = s.engine.bandRoom - 1 ∧ t.engine.bandSeq = s.engine.bandSeq ∧
      t.engine.pageSeq = s.engine.pageSeq ∧
      t.engine.sent = (s.engine.sent.map fun e =>
        if e.seq = r.seq then { e with sentAt := s.now, awaiting := false } else e) ∧
      t.counts.bandsSent =
        (if r.message.isBand then satAdd s.counts.bandsSent 1 else s.counts.bandsSent) ∧
      t.panel.linger = some 5000 ∧ t.builder.rebuilt = others ∧ t.builder.offer = s.builder.offer ∧
      t.builder.state = (if s.builder.offer = [] ∧ others = [] then .still else .offering) ∧ t.store = s.store ∧
      t.form = s.form ∧ t.hostMem = s.hostMem) ∧
  ∀ (m : Message) (rest : List Message) (i : Fin 4) (e : Entry) (s : State), s.regs.resetBusy = false →
    s.builder.state = .offering → s.builder.rebuilt = [] → s.builder.offer = m :: rest → m.slot = some i →
    s.leave = true → 1 ≤ s.engine.bandRoom → s.engine.sent.length < 4 → (s.slot i).entry = some e → s.Composed →
    ∃ t, exec .messageHandover s = .next t ∧
      (m.marks.first = false ∨ s.engine.alignment = .set →
        t.linkOut = s.linkOut ++ [⟨s.engine.frameSeq, m.frame s.engine.bandSeq
          (if m.marks.first then s.engine.pageSeq else (s.slot i).pageSeq.getD 0)⟩]) ∧
      (m.marks.first = true → s.engine.alignment = .off →
        t.linkOut = s.linkOut ++ [⟨s.engine.frameSeq, .top⟩,
          ⟨s.engine.frameSeq + 1, m.frame s.engine.bandSeq s.engine.pageSeq⟩]) ∧
      (m.marks.first = true → s.engine.alignment = .unknown →
        t.linkOut = s.linkOut ++ [⟨s.engine.frameSeq, .mount s.engine.mountedLength⟩,
          ⟨s.engine.frameSeq + 1, .top⟩, ⟨s.engine.frameSeq + 2, m.frame s.engine.bandSeq s.engine.pageSeq⟩]) ∧
      t.engine.bandSeq = s.engine.bandSeq + 1 ∧ t.engine.bandRoom = s.engine.bandRoom - 1 ∧
      t.engine.pageSeq = (if m.marks.first then s.engine.pageSeq + 1 else s.engine.pageSeq) ∧
      (m.marks.last = true → t.engine.alignment = .set) ∧
      (m.marks.last = false → m.marks.hold = true → t.engine.alignment = .off) ∧
      t.engine.sent = s.engine.sent ++ [{
        seq := s.engine.bandSeq
        pageSeq := if m.marks.first then s.engine.pageSeq else (s.slot i).pageSeq.getD 0
        slot := some i
        isBand := m.isBand
        row := m.row
        count := m.count
        marks := m.marks
        strobe := m.strobe
        sentAt := s.now
        refused := false
        awaiting := false }] ∧
      t.counts.bandsSent = (if m.isBand then satAdd s.counts.bandsSent 1 else s.counts.bandsSent) ∧
      t.panel.linger = some 5000 ∧
      (m.row + m.count < e.last → (t.slot i).entry = some ⟨m.row + m.count, e.last⟩ ∧
        (t.slot i).state = (s.slot i).state) ∧
      (e.last ≤ m.row + m.count → m.marks.hold = false ∨ (s.slot i).mark = true → (t.slot i).entry = none ∧
        (t.slot i).state = (if (s.slot i).mark then .composing else .sent)) ∧
      (e.last ≤ m.row + m.count → m.marks.hold = true → (s.slot i).mark = false →
        (t.slot i).entry = some ⟨e.last, e.last⟩ ∧ (t.slot i).state = (s.slot i).state) ∧
      (rest ≠ [] → t.builder.state = .offering ∧ t.builder.offer = rest) ∧
      (rest = [] → t.builder.state = .still ∧ t.builder.offer = []) ∧
      (∀ k, k ≠ i → t.slot k = s.slot k) ∧ t.store.imaging = s.store.imaging ∧
      t.store.poolUsed = s.store.poolUsed ∧ t.form = s.form ∧ t.hostMem = s.hostMem

/-! ## The engine link -/

/-- POLL_TIMER_EXPIRY sends a POLL and loads the poll and answer timers. ANSWER_TIMER_EXPIRY is a missed poll; the third
in a row takes the engine to be gone: OFFLINE, an empty sent list, and the reversion of every slot that has handed rows
over (IMAGING and SENT ones to CLOSED with their whole page waiting, or to COMPOSING under the mark, a COMPOSING one to
split row 0), each counting a reprint on its stream. That an expiry
brings the clock to the timer's end (log 3), and that the sending of the POLL is kept by that clock (log 36), is the
model's choice. -/
def Obligations.MissedPollsTakeTheEngineOffline : Prop :=
  (∀ sl : Slot,
    (sl.state = .sent ∨ (sl.state = .imaging ∧ sl.mark = false) → sl.reverted = { sl with
      state := .closed
      split := 0
      entry := some ⟨0, sl.copy.length⟩
      pageSeq := none }) ∧
    (sl.state = .imaging → sl.mark = true → sl.reverted = { sl with
      state := .composing
      split := 0
      entry := none
      pageSeq := none }) ∧
    (sl.state = .composing → 0 < sl.split → sl.reverted = { sl with
      split := 0
      pageSeq := none }) ∧
    (sl.state = .free ∨ sl.state = .closed ∨ (sl.state = .composing ∧ sl.split = 0) → sl.reverted = sl)) ∧
  ∀ (r : Nat) (s : State), s.regs.resetBusy = false →
    (s.engine.pollTimer = some r →
      ∃ t, exec .pollTimerExpiry s = .next t ∧ t.linkOut = s.linkOut ++ [⟨s.engine.frameSeq, .poll⟩] ∧
        t.engine.frameSeq = s.engine.frameSeq + 1 ∧ t.engine.pollTimer = some 20 ∧ t.engine.answerTimer = some 5 ∧
        t.engine.pollAt = s.now + r ∧ t.now = s.now + r ∧ t.engine.state = s.engine.state ∧
        t.engine.sent = s.engine.sent ∧ t.engine.missed = s.engine.missed ∧ t.sc = s.sc ∧ t.store = s.store ∧
        t.builder = s.builder ∧ t.cache = s.cache ∧ t.regs.events = s.regs.events ∧ t.counts = s.counts ∧
        t.hostMem = s.hostMem) ∧
    (s.engine.answerTimer = some r → s.engine.missed < 2 → s.Composed → s.refusalWaits = false →
      ∃ t, exec .answerTimerExpiry s = .next t ∧ t.engine.missed = s.engine.missed + 1 ∧
        t.engine.answerTimer = none ∧ t.engine.alignment = s.engine.alignment ∧ t.now = s.now + r ∧
        (s.engine.state ≠ .offline → t.engine.state ≠ .offline) ∧ t.store = s.store ∧ t.hostMem = s.hostMem) ∧
    (s.engine.answerTimer = some r → 2 ≤ s.engine.missed → s.engine.state ≠ .offline → s.Composed →
      ∃ t, exec .answerTimerExpiry s = .next t ∧ t.engine.state = .offline ∧ t.engine.missed = 3 ∧
        t.engine.answerTimer = none ∧ t.regs.events.getLsbD 9 = true ∧ t.engine.sent = [] ∧
        t.engine.alignment = .unknown ∧ t.engine.bandRoom = 0 ∧ t.engine.holdOwed = .none ∧
        t.engine.expected = none ∧ t.panel.lineOwed = false ∧
        (∀ i, (s.slot i).state = .sent → (t.slot i).state = .closed ∧ (t.slot i).split = 0 ∧
          (t.slot i).entry = some ⟨0, (s.slot i).copy.length⟩ ∧ (t.slot i).pageSeq = none ∧
          (t.slot i).strikes = (s.slot i).strikes) ∧
        (∀ i, t.slot i = (s.slot i).reverted) ∧ t.store.imaging = s.store.imaging ∧
        (∀ n, (t.stream n).reprints = satAdd (s.stream n).reprints (s.slotsBegun n)) ∧
        (∀ i, s.builder.slot = some i → (s.slot i).state = .imaging → t.builder = BandBuilder.initial) ∧
        t.linkOut = s.linkOut ∧ t.hostMem = s.hostMem)

/-- STATUS that accepts every message of the sent list and reports no jam and nothing out of readiness: the condition
record, the underruns, the band room less what was handed over since, the next frame expected; a poll it answers
is no longer missed. A last exit that differs from the one before is an EXIT; in the answer to a poll sent 20 ms after
it (by the model's clock, log 36), the oldest message still unaccepted is taken as refused; a halt ends with TOP once
the engine is not in motion; and a LINE advance owed is sent while paper is free and dropped otherwise, tested after
all of these (log 53). A frame passes when its kind, its length and its CRC agree, each STATUS field stands at its
bits, and of two band sequence numbers the one is at or before the other within half the range. -/
def Obligations.StatusIsTaken : Prop :=
  (∀ (w0 w1 : Word32) (rest : List Word32), payloadWord (w0 :: rest) 0 = w0 ∧ payloadWord (w0 :: w1 :: rest) 1 = w1) ∧
  (∀ w0 w1 : Word32,
    let c := conditionOf w0 w1
    c.ready = w0.getLsbD 0 ∧ c.inMotion = w0.getLsbD 1 ∧ c.jam = w0.getLsbD 4 ∧ c.formsOut = w0.getLsbD 5 ∧
      c.coverOpen = w0.getLsbD 6 ∧ c.notReadySeen = w0.getLsbD 7 ∧ c.formsLow = w0.getLsbD 8 ∧
      c.bandRoom = (if w0.getLsbD 3 then 2 else if w0.getLsbD 2 then 1 else 0) ∧ c.underruns < 256 ∧
      (∀ k < 8, c.underruns.testBit k = w0.getLsbD (16 + k)) ∧
      (∀ k < 8, c.lastExit.getLsbD k = w0.getLsbD (24 + k)) ∧ (∀ k < 16, c.lastAccepted.getLsbD k = w1.getLsbD k)) ∧
  (∀ a b : BitVec 16, seqAtOrBefore a b = true ↔ (b.toNat + 65536 - a.toNat) % 65536 < 32768) ∧
  (∀ f : RxFrame, f.passes = true ↔
    ((f.kind = 8 ∧ f.length = 2) ∨ (f.kind = 9 ∧ f.length = 1) ∨ (f.kind = 10 ∧ f.length = 1)) ∧
      f.payload.length = f.length.toNat ∧ ∃ bits : List Bool, bits.length = 27 + 32 * f.payload.length ∧
        (∀ k < 4, bits[k]? = some (f.kind.getLsbD k)) ∧ (∀ k < 8, bits[4 + k]? = some (f.seq.getLsbD k)) ∧
        (∀ k < 15, bits[12 + k]? = some (f.length.getLsbD k)) ∧
        (∀ j w, f.payload[j]? = some w → ∀ k < 32, bits[27 + 32 * j + k]? = some (w.getLsbD k)) ∧
        f.crc = crcOf bits) ∧
  (∀ (f : RxFrame) (c : Condition) (s : State), s.regs.resetBusy = false → f.passes = true → f.kind = 8 →
    c = conditionOf (payloadWord f.payload 0) (payloadWord f.payload 1) → s.engine.state ≠ .offline →
    c.jam = false → c.notReadySeen = false → c.formsOut = false → c.coverOpen = false → s.Composed →
    s.refusalWaits = false →
    (∀ i rest p, s.engine.lastExit = some p → p ≠ c.lastExit → s.store.imaging = i :: rest → i ∉ rest →
      (s.slot i).state = .sent → (s.slot i).pageSeq = some c.lastExit →
      s.engine.answerTimer = none → s.engine.halting = false → s.panel.lineOwed = false →
      ∃ t, exec (.status f) s = .next t ∧ t.slot i = Slot.free ∧ t.store.imaging = rest ∧
        t.store.poolUsed = s.store.poolUsed - (s.slot i).strikes.length ∧
        ((s.stream (s.slot i).stream).heldExits = 0 →
          (t.stream (s.slot i).stream).release = (s.slot i).releaseOff) ∧
        (t.stream (s.slot i).stream).pagesExited = satAdd (s.stream (s.slot i).stream).pagesExited 1 ∧
        t.counts.pagesExited = satAdd s.counts.pagesExited 1 ∧ t.engine.lastExit = some c.lastExit ∧
        (∀ k, k ≠ i → t.slot k = s.slot k) ∧ t.linkOut = s.linkOut ∧ t.hostMem = s.hostMem) ∧
    (s.engine.lastExit = none ∨ s.engine.lastExit = some c.lastExit →
      (∀ e rest, s.engine.sent = e :: rest → (∀ e' ∈ rest, e'.seq ≠ e.seq) →
        seqAtOrBefore e.seq c.lastAccepted = false → e.refused = false → s.engine.answerTimer ≠ none →
        e.sentAt + 20 ≤ s.engine.pollAt → s.engine.halting = false → s.panel.lineOwed = false →
        ∃ t, exec (.status f) s = .next t ∧ t.counts.refusals = satAdd s.counts.refusals 1 ∧
          (∀ i, e.isBand = true → e.slot = some i → (s.slot i).state ≠ .free →
            (s.slot i).pageSeq = some e.pageSeq →
            s.cache.flush = .none ∨ (s.cache.flush = .owed ∧ s.atBoundary = false) →
            t.builder.rebuilds e.seq = true ∧ t.linkOut = s.linkOut ∧
              ∃ e' ∈ t.engine.sent, e'.seq = e.seq ∧ e'.refused = true ∧ e'.awaiting = true) ∧
          (e.isBand = false → 1 ≤ c.bandRoom - s.engine.handed →
            t.linkOut = s.linkOut ++ [⟨s.engine.frameSeq, .slew e.seq e.pageSeq e.slew⟩] ∧
              t.engine.bandRoom = c.bandRoom - s.engine.handed - 1 ∧
              ∃ e' ∈ t.engine.sent, e'.seq = e.seq ∧ e'.refused = true ∧ e'.awaiting = false) ∧
          t.store = s.store ∧ t.hostMem = s.hostMem) ∧
      (s.engine.halting = true → s.engine.answerTimer = none → s.panel.lineOwed = false →
        ∃ t, exec (.status f) s = .next t ∧
          (c.inMotion = false → t.engine.halting = false ∧ t.engine.alignment = .set ∧
            t.linkOut = s.linkOut ++ [⟨s.engine.frameSeq, .top⟩]) ∧
          (c.inMotion = true → t.engine.halting = true ∧ t.engine.alignment = s.engine.alignment ∧
            t.linkOut = s.linkOut) ∧
          t.store = s.store ∧ t.hostMem = s.hostMem) ∧
      (s.panel.lineOwed = true → s.engine.answerTimer = none → s.engine.halting = false →
        (∀ e ∈ s.engine.sent, seqAtOrBefore e.seq c.lastAccepted = true) →
        ∃ t, exec (.status f) s = .next t ∧
          (1 ≤ c.bandRoom - s.engine.handed → s.paperFree = true → t.panel.lineOwed = false ∧
            t.engine.alignment = .off ∧ t.engine.bandRoom = c.bandRoom - s.engine.handed - 1 ∧
            t.linkOut = s.linkOut ++ [⟨s.engine.frameSeq, .slew s.engine.bandSeq s.engine.pageSeq {
              slot := none
              row := 0
              count := (match s.engine.mountedPitch with | some l => 300 / l | none => 50)
              body := .slew
              marks := ⟨false, false, true⟩
              strobe := none }⟩]) ∧
          (1 ≤ c.bandRoom - s.engine.handed → s.paperFree = false →
            t.panel.lineOwed = false ∧ t.linkOut = s.linkOut) ∧
          (c.bandRoom ≤ s.engine.handed → t.panel.lineOwed = true ∧ t.linkOut = s.linkOut) ∧
          t.store = s.store ∧ t.hostMem = s.hostMem))) ∧
  ∀ (f : RxFrame) (c : Condition) (s : State), s.regs.resetBusy = false → f.passes = true → f.kind = 8 →
    c = conditionOf (payloadWord f.payload 0) (payloadWord f.payload 1) → s.engine.state ≠ .offline →
    c.jam = false → c.notReadySeen = false → c.formsOut = false → c.coverOpen = false →
    s.engine.lastExit = none ∨ s.engine.lastExit = some c.lastExit →
    (∀ e ∈ s.engine.sent, seqAtOrBefore e.seq c.lastAccepted = true) → s.engine.halting = false →
    s.panel.lineOwed = false → s.Composed →
    ∃ t, exec (.status f) s = .next t ∧ t.engine.cond = c ∧ t.engine.sent = [] ∧
      t.engine.bandRoom = c.bandRoom - s.engine.handed ∧ t.engine.handed = 0 ∧
      t.engine.lastExit = some c.lastExit ∧ t.engine.expected = some (f.seq + 1) ∧
      t.counts.underruns = satAdd s.counts.underruns c.underruns ∧
      (∀ q, s.engine.expected = some q → t.counts.linkErrors = satAdd s.counts.linkErrors (f.seq - q).toNat) ∧
      (s.engine.expected = none → t.counts.linkErrors = s.counts.linkErrors) ∧
      (s.engine.answerTimer ≠ none → t.engine.answerTimer = none ∧ t.engine.missed = 0) ∧
      (s.engine.answerTimer = none → t.engine.missed = s.engine.missed) ∧
      (s.gate = s.engine.state → s.engine.holdOwed = .none → t.engine.state = s.engine.state) ∧
      t.engine.alignment = s.engine.alignment ∧ t.store = s.store ∧ t.form = s.form ∧ t.linkOut = s.linkOut ∧
      t.hostMem = s.hostMem

/-- STATUS with a jam jams the part and reverts every slot that has handed rows over, counting its reprint; one that
is not ready without a jam, and by which no message is taken as refused, holds an idle or feeding engine; the first
that answers a poll in OFFLINE brings the engine back, held with RETURNED, and HALT goes out. That it does so with a
jam latched too, which is taken at a later STATUS, is DEDUCED (log 25). -/
def Obligations.StatusJamsHoldsOrReturns : Prop :=
  ∀ (f : RxFrame) (c : Condition) (s : State), s.regs.resetBusy = false → f.passes = true → f.kind = 8 →
    c = conditionOf (payloadWord f.payload 0) (payloadWord f.payload 1) → s.Composed →
    (c.jam = true → s.engine.state ≠ .offline → s.engine.state ≠ .jammed →
      ∃ t, exec (.status f) s = .next t ∧ t.engine.state = .jammed ∧ t.regs.events.getLsbD 8 = true ∧
        t.engine.cond = c ∧ t.engine.sent = [] ∧ t.engine.alignment = .unknown ∧ t.engine.holdOwed = .none ∧
        t.engine.halting = false ∧ t.panel.lineOwed = false ∧
        (∀ i, (s.slot i).state = .sent → (t.slot i).state = .closed ∧
          (t.slot i).entry = some ⟨0, (s.slot i).copy.length⟩ ∧ (t.slot i).pageSeq = none) ∧
        (∀ i, t.slot i = (s.slot i).reverted) ∧ t.store.imaging = s.store.imaging ∧
        (∀ n, (t.stream n).reprints = satAdd (s.stream n).reprints (s.slotsBegun n)) ∧
        (∀ i, s.builder.slot = some i → (s.slot i).state = .imaging → t.builder = BandBuilder.initial) ∧
        t.store.poolUsed = s.store.poolUsed ∧ t.linkOut = s.linkOut ∧ t.hostMem = s.hostMem) ∧
    (c.jam = false → (c.notReadySeen || c.formsOut || c.coverOpen) = true →
      s.engine.state = .idle ∨ s.engine.state = .feeding →
      s.engine.answerTimer = none ∨ (∀ e ∈ s.engine.sent, seqAtOrBefore e.seq c.lastAccepted = true ∨
        e.refused = true ∨ s.engine.pollAt < e.sentAt + 20) →
      ∃ t, exec (.status f) s = .next t ∧ t.engine.state = .held .notReady ∧ t.regs.events.getLsbD 8 = true ∧
        t.engine.cond = c ∧ t.engine.holdOwed = .none ∧
        (s.engine.answerTimer ≠ none → t.engine.answerTimer = none ∧ t.engine.missed = 0) ∧ t.hostMem = s.hostMem) ∧
    (s.engine.state = .offline → s.engine.answerTimer ≠ none → s.refusalWaits = false →
      ∃ t, exec (.status f) s = .next t ∧ t.engine.state = .held .returned ∧ t.regs.events.getLsbD 8 = true ∧
        t.regs.events.getLsbD 9 = true ∧ t.engine.missed = 0 ∧ t.engine.answerTimer = none ∧ t.engine.cond = c ∧
        t.engine.bandRoom = c.bandRoom ∧ t.engine.lastExit = some c.lastExit ∧
        t.linkOut = s.linkOut ++ [⟨s.engine.frameSeq, .halt⟩] ∧ t.store = s.store ∧ t.hostMem = s.hostMem)

/-- EXIT: the SENT slot with its page sequence number, oldest of the imaging list, becomes FREE; its strikes return,
release moves to its offset, or stays where a discard's skips have taken it (log 39), the page is counted, its MARK is
reported, and so is the job whose last page it was, by a write of its own or by one that waits without a report
(R161), with its pages counted up to the 32-bit limit (PRESUMED, log 38). The older SENT slots go with it. The slot
freed ends a wait for a slot, and its strikes a wait for a strike entry: the record goes on, with its text where the
turn came before it, and a turn more closes the page just opened and waits again. A number that names no SENT slot
frees none. -/
def Obligations.ExitFreesThePage : Prop :=
  (∀ (w : StatusWriter) (n : Fin 8),
    (w.reporting n = true ↔ ∃ o, (o ∈ w.waiting ∨ w.issued = some o) ∧ o.kind = .descriptor n ∧ o.report = true) ∧
      (w.roomForReport n = true ↔ ∃ o ∈ w.waiting, o.kind = .descriptor n ∧ o.report = false)) ∧
  ∀ (f : RxFrame) (q : BitVec 8) (s : State), s.regs.resetBusy = false → f.passes = true → f.kind = 9 →
    q = BitVec.ofNat 8 (payloadWord f.payload 0).toNat → s.engine.state ≠ .offline → s.sc.readFailed = false →
    s.form.noCheck = true →
    (∀ i k rest, s.comp.waits = false → s.store.imaging = i :: k :: rest → i ≠ k → i ∉ rest → k ∉ rest →
      (s.slot i).state = .sent → (s.slot i).pageSeq ≠ some q → (s.slot k).state = .sent →
      (s.slot k).pageSeq = some q →
      ∃ t, exec (.exitFrame f) s = .next t ∧ t.slot i = Slot.free ∧ t.slot k = Slot.free ∧ t.store.imaging = rest ∧
        t.counts.pagesExited = satAdd (satAdd s.counts.pagesExited 1) 1 ∧
        t.store.poolUsed = s.store.poolUsed - (s.slot i).strikes.length - (s.slot k).strikes.length ∧
        ((s.stream (s.slot k).stream).heldExits = 0 →
          (t.stream (s.slot k).stream).release = (s.slot k).releaseOff) ∧
        (∀ j, j ≠ i → j ≠ k → t.slot j = s.slot j) ∧ t.form = s.form ∧ t.hostMem = s.hostMem) ∧
    (∀ i rest n p j, s.comp.state = .waitSlot → s.comp.waiting = some p →
      (p.rest = .nothing ∧ p.turns = 0) ∨ p.rest = .openJob → s.owner = some n →
      s.comp.job = some j → s.refusalWaits = false → (∀ k, (s.slot k).mark = false) → s.freeSlot = none →
      s.store.imaging = i :: rest → i ∉ rest → (s.slot i).state = .sent → (s.slot i).pageSeq = some q →
      ∃ t, exec (.exitFrame f) s = .next t ∧ (t.slot i).state = .composing ∧ (t.slot i).mark = true ∧
        (t.slot i).stream = n ∧ (t.slot i).copy = s.loadedForm.copy ∧ (t.slot i).strikes = [] ∧
        (t.slot i).split = 0 ∧ (t.slot i).entry = none ∧ (t.slot i).jobTag = j.tag ∧
        t.store.lastOpened = i ∧ t.store.imaging = rest ∧ t.comp.waits = false ∧
        (p.rest = .nothing → (t.slot i).pageNo = p.pageNo ∧ (t.slot i).firstOfJob = false ∧
          (t.stream n).pageNo = p.pageNo ∧ t.comp.cursor = some p.line ∧ (t.stream n).cursorLine = p.line ∧
          (t.stream n).take = (s.stream n).after (recordHeader s.sc.buffer).length) ∧
        (p.rest = .openJob → (t.slot i).pageNo = j.firstPage % 1000000 ∧ (t.slot i).firstOfJob = true ∧
          t.comp.job = some { j with started := true } ∧ t.comp.cursor = some 1 ∧
          (t.stream n).take = (s.stream n).after 16) ∧
        t.comp.state = (if (s.stream n).fill = (t.stream n).take then .atFill else .ready) ∧
        (∀ k, k ≠ i → t.slot k = s.slot k) ∧ t.form = s.form ∧ t.hostMem = s.hostMem) ∧
    (∀ i rest n p j, s.comp.state = .waitSlot → s.comp.waiting = some p → p.rest ≠ .openJob → s.owner = some n →
      s.comp.job = some j → s.refusalWaits = false → (∀ k, (s.slot k).mark = false) → s.freeSlot = none →
      s.store.imaging = i :: rest → i ∉ rest → (s.slot i).state = .sent → (s.slot i).pageSeq = some q →
      (1 ≤ p.turns →
        ∃ t, exec (.exitFrame f) s = .next t ∧ (t.slot i).state = .closed ∧ (t.slot i).mark = false ∧
          (t.slot i).stream = n ∧ (t.slot i).copy = s.loadedForm.copy ∧ (t.slot i).strikes = [] ∧
          (t.slot i).entry = some ⟨0, s.loadedForm.copy.length⟩ ∧ (t.slot i).pageNo = p.pageNo ∧
          t.store.lastOpened = i ∧ t.store.imaging = rest ++ [i] ∧ t.comp.state = .waitSlot ∧
          t.comp.cursor = some p.line ∧
          t.comp.waiting = some { p with
            turns := p.turns - 1
            pageNo := (p.pageNo + 1) % 1000000 } ∧
          (t.stream n).take = (s.stream n).take ∧ t.sc.buffer = s.sc.buffer ∧ (∀ k, k ≠ i → t.slot k = s.slot k) ∧
          t.form = s.form ∧ t.hostMem = s.hostMem) ∧
      (∀ h a l2, p.turns = 0 → p.rest = .strikeAndAfter → recordHeader s.sc.buffer = h → carriageOf h.after = some a →
        s.loadedForm.move p.line a = (0, l2) →
        (h.textCount ≠ 0 → s.store.poolUsed - (s.slot i).strikes.length < 1024) →
        ∃ t, exec (.exitFrame f) s = .next t ∧ (t.slot i).state = .composing ∧ (t.slot i).mark = true ∧
          (t.slot i).stream = n ∧ (t.slot i).copy = s.loadedForm.copy ∧ (t.slot i).pageNo = p.pageNo ∧
          (t.slot i).strikes = (if h.textCount = 0 then [] else [{
            line := p.line
            place := 1
            seq := 1
            typeface := h.typeface
            keyed := h.keyed
            template := h.template
            codes := ((s.sc.buffer.drop 8).take h.textCount).take s.loadedForm.positions
            glyphs := none }]) ∧
          t.store.poolUsed = s.store.poolUsed - (s.slot i).strikes.length + (if h.textCount = 0 then 0 else 1) ∧
          (t.stream n).overrun = satAdd (s.stream n).overrun (h.textCount - s.loadedForm.positions) ∧
          t.store.lastOpened = i ∧ t.store.imaging = rest ∧ t.comp.waits = false ∧ t.comp.cursor = some l2 ∧
          (t.stream n).take = (s.stream n).after h.length ∧ t.sc.buffer = s.sc.buffer.drop h.length ∧
          (∀ k, k ≠ i → t.slot k = s.slot k) ∧ t.form = s.form ∧ t.hostMem = s.hostMem)) ∧
    (∀ i rest n k l h a l2, s.comp.state = .waitStrike → s.owner = some n → s.refusalWaits = false →
      s.composing = some k → k ≠ i → s.comp.cursor = some l → recordHeader s.sc.buffer = h → h.textCount ≠ 0 →
      (s.slot k).split ≤ (s.slot k).copy.top l → (s.slot k).strikesOn l < 4 → carriageOf h.after = some a →
      s.loadedForm.move l a = (0, l2) → s.store.imaging = i :: rest → i ∉ rest → (s.slot i).state = .sent →
      (s.slot i).pageSeq = some q → s.store.poolUsed - (s.slot i).strikes.length < 1024 →
      ∃ t, exec (.exitFrame f) s = .next t ∧ t.slot i = Slot.free ∧ t.comp.waits = false ∧ t.comp.cursor = some l2 ∧
        (t.stream n).take = (s.stream n).after h.length ∧
        (t.slot k).strikes = (s.slot k).strikes ++ [{
          line := l
          place := (s.slot k).strikesOn l + 1
          seq := (s.slot k).seqCount + 1
          typeface := h.typeface
          keyed := h.keyed
          template := h.template
          codes := ((s.sc.buffer.drop 8).take h.textCount).take s.loadedForm.positions
          glyphs := none }] ∧
        t.store.poolUsed = s.store.poolUsed - (s.slot i).strikes.length + 1 ∧
        t.sc.buffer = s.sc.buffer.drop h.length ∧ t.form = s.form ∧ t.hostMem = s.hostMem) ∧
    (∀ i rest, s.comp.waits = false → s.store.imaging = i :: rest → i ∉ rest → (s.slot i).state = .sent → (s.slot i).pageSeq = some q →
      ∃ t, exec (.exitFrame f) s = .next t ∧ t.slot i = Slot.free ∧ t.store.imaging = rest ∧
        t.store.poolUsed = s.store.poolUsed - (s.slot i).strikes.length ∧
        ((s.stream (s.slot i).stream).heldExits = 0 →
          (t.stream (s.slot i).stream).release = (s.slot i).releaseOff) ∧
        ((s.stream (s.slot i).stream).heldExits ≠ 0 →
          (t.stream (s.slot i).stream).release = (s.stream (s.slot i).stream).release ∧
            (t.stream (s.slot i).stream).heldExits = (s.stream (s.slot i).stream).heldExits - 1) ∧
        (∀ r older tag o, (s.stream (s.slot i).stream).reports = r :: older → r.due = false →
          (s.slot i).jobEnds = [⟨tag, o⟩] →
          s.writer.reporting (s.slot i).stream = false ∨ s.writer.roomForReport (s.slot i).stream = true →
          (t.stream (s.slot i).stream).jobTag = r.tag ∧ (t.stream (s.slot i).stream).jobOutcome = o ∧
            (t.stream (s.slot i).stream).jobPages = satAdd r.pages 1 ∧
            (t.stream (s.slot i).stream).reports = older ∧ t.Owes ⟨.descriptor (s.slot i).stream, true, true, false⟩) ∧
        (t.stream (s.slot i).stream).pagesExited = satAdd (s.stream (s.slot i).stream).pagesExited 1 ∧
        (∀ tag, (s.slot i).markTag = some tag → (t.stream (s.slot i).stream).markTag = tag ∧
          t.Owes ⟨.descriptor (s.slot i).stream, true, false, false⟩) ∧
        t.counts.pagesExited = satAdd s.counts.pagesExited 1 ∧ (∀ k, k ≠ i → t.slot k = s.slot k) ∧
        (s.GrantsNothing → (∀ m, m ≠ (s.slot i).stream → (t.stream m).core = (s.stream m).core) ∧ t.comp = s.comp) ∧
        t.engine.expected = some (f.seq + 1) ∧ t.form = s.form ∧ t.hostMem = s.hostMem) ∧
    (s.comp.waits = false → (∀ i, (s.slot i).state = .sent → (s.slot i).pageSeq ≠ some q) →
      ∃ t, exec (.exitFrame f) s = .next t ∧ t.store = s.store ∧ t.counts.pagesExited = s.counts.pagesExited ∧
        t.engine.expected = some (f.seq + 1) ∧ t.hostMem = s.hostMem)

/-- REFUSED is counted; a first refusal of a SLEW is resent at once while there is band room, one of a BAND orders its
rebuild, which drops the band in hand and gives up the lookup it waits on, a rebuilt band's too (log 27), but waits
while a flush holds the Builder at a band boundary, or drops the message where its slot has become FREE, a second
refusal is a jam with HALT, and one that names no message is only counted. BAD_FRAME: a frame that fails a check
counts a link error and is discarded. -/
def Obligations.RefusedMessagesAreResent : Prop :=
  (∀ (f : RxFrame) (q : BitVec 16) (e : SentMsg) (i : Fin 4) (w : BandWork) (s : State), s.regs.resetBusy = false →
    s.Composed → f.passes = true → f.kind = 10 → q = BitVec.ofNat 16 (payloadWord f.payload 0).toNat →
    s.engine.state ≠ .offline → s.engine.sent.find? (fun e => decide (e.seq = q)) = some e → e.refused = false →
    e.isBand = true → e.slot = some i → (s.slot i).state ≠ .free → (s.slot i).pageSeq = some e.pageSeq →
    s.cache.flush = .none ∨ s.cache.flush = .owed → s.builder.work = some w → s.builder.state = .fillWait →
    ∃ t, exec (.refusedFrame f) s = .next t ∧ t.builder.rebuilds q = true ∧
      (∀ g, s.cache.fill = some g → t.cache.fill = some { g with wanted := false }) ∧
      (∀ w', t.builder.work = some w' → w'.rebuild ≠ none) ∧
      t.builder.nextRow = s.builder.nextRow ∧ t.builder.slew = s.builder.slew ∧ t.builder.offer = s.builder.offer ∧
      t.store = s.store ∧ t.hostMem = s.hostMem) ∧
  ∀ (f : RxFrame) (q : BitVec 16) (s : State), s.regs.resetBusy = false → s.Composed → s.refusalWaits = false →
    (f.passes = true → f.kind = 10 → q = BitVec.ofNat 16 (payloadWord f.payload 0).toNat →
      s.engine.state ≠ .offline →
      ∃ t, exec (.refusedFrame f) s = .next t ∧ t.counts.refusals = satAdd s.counts.refusals 1 ∧
        t.engine.expected = some (f.seq + 1) ∧
        ((∀ e ∈ s.engine.sent, e.seq ≠ q) → t.engine.sent = s.engine.sent ∧ t.linkOut = s.linkOut ∧
          t.store = s.store) ∧
        (∀ e, s.engine.sent.find? (fun e => decide (e.seq = q)) = some e → e.refused = false → e.isBand = false →
          1 ≤ s.engine.bandRoom →
          t.linkOut = s.linkOut ++ [⟨s.engine.frameSeq, .slew q e.pageSeq e.slew⟩] ∧
            t.engine.bandRoom = s.engine.bandRoom - 1 ∧ t.engine.sent.length = s.engine.sent.length ∧
            (∀ e' ∈ t.engine.sent, e'.seq = q → e'.refused = true ∧ e'.awaiting = false) ∧
            t.counts.bandsSent = s.counts.bandsSent ∧ t.store = s.store) ∧
        (∀ e i, s.engine.sent.find? (fun e => decide (e.seq = q)) = some e → e.refused = false → e.isBand = true →
          e.slot = some i → (s.slot i).state ≠ .free → (s.slot i).pageSeq = some e.pageSeq →
          s.cache.flush = .none ∨ (s.cache.flush = .owed ∧ s.atBoundary = false) →
          (∀ e' ∈ s.engine.sent, e'.seq = q → e' = e) →
          t.builder.rebuilds q = true ∧ (∀ e' ∈ t.engine.sent, e'.seq = q → e'.refused = true ∧ e'.awaiting = true) ∧
            t.linkOut = s.linkOut ∧ t.store = s.store) ∧
        (∀ e i, s.engine.sent.find? (fun e => decide (e.seq = q)) = some e → e.refused = false → e.isBand = true →
          e.slot = some i → (s.slot i).state ≠ .free → (s.slot i).pageSeq = some e.pageSeq → s.cache.flush ≠ .none →
          s.atBoundary = true → (∀ e' ∈ s.engine.sent, e'.seq = q → e' = e) →
          t.builder = s.builder ∧ (t.cache.flush = .waitFill ∨ t.cache.flush = .reading) ∧
            (∀ e' ∈ t.engine.sent, e'.seq = q → e'.refused = true ∧ e'.awaiting = true) ∧
            t.linkOut = s.linkOut ∧ t.store = s.store) ∧
        (∀ e i, s.engine.sent.find? (fun e => decide (e.seq = q)) = some e → e.refused = false → e.isBand = true →
          e.slot = some i → (s.slot i).state = .free ∨ (s.slot i).pageSeq ≠ some e.pageSeq →
          t.engine.sent = s.engine.sent.filter (fun e' => e'.seq ≠ q) ∧ t.builder = s.builder ∧
            t.linkOut = s.linkOut ∧ t.store = s.store) ∧
        (∀ e, s.engine.sent.find? (fun e => decide (e.seq = q)) = some e → e.refused = true →
          t.engine.state = .jammed ∧ t.engine.sent = [] ∧ t.regs.events.getLsbD 8 = true ∧
            t.linkOut = s.linkOut ++ [⟨s.engine.frameSeq, .halt⟩] ∧ t.engine.bandRoom = 0) ∧
        t.hostMem = s.hostMem) ∧
    (f.passes = false →
      ∃ t, exec (.badFrame f) s = .next t ∧ t.counts.linkErrors = satAdd s.counts.linkErrors 1 ∧
        t.engine.expected = s.engine.expected ∧ t.engine.cond = s.engine.cond ∧ t.engine.sent = s.engine.sent ∧
        t.counts.refusals = s.counts.refusals ∧ t.linkOut = s.linkOut ∧ t.store = s.store ∧ t.form = s.form ∧
        t.builder = s.builder ∧ t.hostMem = s.hostMem)

/-! ## The operator panel -/

/-- START with the engine ready: in FORMS_WAIT the head's stock is mounted and imaging goes on, out of HELD or JAMMED
the gate gives the state, or HELD with HOST_PAUSE while RUN is 0; with the engine not ready, and in HELD with
HOST_PAUSE, nothing changes. STOP in FEEDING holds at the band boundary, and is ignored in any other state. The wait
reasons that follow are those of the engine's state, or else of the Composer's. The gate gives FEEDING with the head's
key mounted or a slot on the engine, FORMS_WAIT with another key and no such slot, IDLE with neither head nor such
slot. -/
def Obligations.StartAndStopHoldAndResume : Prop :=
  (∀ s : State,
    ((∀ i ∈ s.store.imaging, (s.slot i).entry = none) →
      ((∃ i, (s.slot i).state = .imaging ∨ (s.slot i).state = .sent) → s.gate = .feeding) ∧
        ((∀ i, (s.slot i).state ≠ .imaging ∧ (s.slot i).state ≠ .sent) → s.gate = .idle)) ∧
    ∀ front i back, s.store.imaging = front ++ i :: back → (∀ k ∈ front, (s.slot k).entry = none) →
      (s.slot i).entry ≠ none → s.head = some i ∧
        (((s.slot i).copy.stock = s.engine.mountedStock ∧ (s.slot i).copy.length = s.engine.mountedLength) ∨
            (∃ k, (s.slot k).state = .imaging ∨ (s.slot k).state = .sent) → s.gate = .feeding) ∧
        ((s.slot i).copy.stock ≠ s.engine.mountedStock ∨ (s.slot i).copy.length ≠ s.engine.mountedLength →
          (∀ k, (s.slot k).state ≠ .imaging ∧ (s.slot k).state ≠ .sent) → s.gate = .formsWait)) ∧
  (∀ (c : Instr) (s : State), s.regs.resetBusy = false → c = .startButton ∨ c = .stopButton →
    ∃ t, exec c s = .next t ∧ ∀ n, (t.stream n).wait =
      if (t.stream n).state ≠ .active then .none
      else match t.engine.state with
        | .formsWait => .forms
        | .jammed => .jam
        | .offline => .offline
        | .held .returned => .offline
        | .held .operatorStop => .operatorStop
        | .held .notReady => .notReady
        | .held .hostPause => .hostPause
        | .idle | .feeding =>
          if t.comp.state = .waitSlot ∨ t.comp.state = .waitStrike then .slotWait else .none) ∧
  ∀ s : State, s.regs.resetBusy = false → s.Composed → s.refusalWaits = false → s.engine.holdOwed = .none →
    (s.panel.buttons.start.down = false →
      ∃ t, exec .startButton s = .next t ∧ t.panel.buttons.start = ⟨true, true⟩ ∧
        (∀ i, s.engine.cond.ready = true → s.engine.state = .formsWait → s.head = some i → s.regs.run = true →
          s.engine.halting = false →
          t.engine.state = .feeding ∧ t.engine.mountedStock = (s.slot i).copy.stock ∧
            t.engine.mountedLength = (s.slot i).copy.length ∧ t.engine.mountedPitch = some (s.slot i).copy.pitch ∧
            t.engine.alignment = .unknown) ∧
        (∀ r, s.engine.cond.ready = true → s.engine.state = .held r → r ≠ .hostPause → s.regs.run = true →
          t.engine.state = s.gate ∧ t.engine.mountedStock = s.engine.mountedStock) ∧
        (s.engine.cond.ready = true → s.engine.state = .jammed → s.regs.run = true → t.engine.state = s.gate) ∧
        (∀ i, s.engine.cond.ready = true → s.engine.state = .formsWait → s.head = some i → s.regs.run = false →
          t.engine.state = .held .hostPause ∧ t.engine.mountedStock = (s.slot i).copy.stock ∧
            t.engine.mountedLength = (s.slot i).copy.length ∧ t.engine.mountedPitch = some (s.slot i).copy.pitch ∧
            t.engine.alignment = .unknown ∧ t.regs.events.getLsbD 8 = true) ∧
        (s.engine.cond.ready = true → s.engine.state = .jammed ∨ (∃ r, s.engine.state = .held r ∧ r ≠ .hostPause) →
          s.regs.run = false →
          t.engine.state = (if s.gate = .formsWait then .formsWait else .held .hostPause)) ∧
        (s.engine.cond.ready = false ∨ s.engine.state = .held .hostPause ∨ s.engine.state = .idle ∨
            s.engine.state = .feeding ∨ s.engine.state = .offline →
          s.gate = s.engine.state ∨ s.engine.halting = true ∨
            (s.engine.state ≠ .idle ∧ s.engine.state ≠ .feeding ∧ s.engine.state ≠ .formsWait) →
          t.engine = s.engine) ∧
        t.store = s.store ∧ t.builder = s.builder ∧ t.linkOut = s.linkOut ∧ t.hostMem = s.hostMem) ∧
    (s.panel.buttons.stop.down = false →
      ∃ t, exec .stopButton s = .next t ∧ t.panel.buttons.stop = ⟨true, true⟩ ∧
        (s.engine.state = .feeding → s.atBoundary = true →
          t.engine.state = .held .operatorStop ∧ t.regs.events.getLsbD 8 = true) ∧
        (s.engine.state = .feeding → s.atBoundary = false → s.gate = .feeding →
          t.engine.state = .feeding ∧ t.engine.holdOwed = .operatorStop) ∧
        (s.engine.state ≠ .feeding →
          s.gate = s.engine.state ∨ s.engine.halting = true ∨ (s.engine.state ≠ .idle ∧ s.engine.state ≠ .formsWait) →
          t.engine = s.engine) ∧
        t.store = s.store ∧ t.builder = s.builder ∧ t.linkOut = s.linkOut ∧ t.hostMem = s.hostMem)

/-- TOP OF FORM sends TOP and LINE a one-line SLEW with hold-after, when the engine is idle or held and no paper has
been begun; the LINE repeat comes after 500 ms and then every 100 ms while the button is held; an advance without
band room is owed, and while one is owed a press does nothing and a repeat adds none. That the repeat timer's expiry
brings the clock to its end is the model's choice (log 3). -/
def Obligations.PaperButtonsMoveThePaper : Prop :=
  (∀ s : State, s.paperFree = true ↔ (s.engine.state = .idle ∨ ∃ r, s.engine.state = .held r) ∧
    ∀ i, (s.slot i).state ≠ .imaging ∧ (s.slot i).state ≠ .sent ∧
      ((s.slot i).state = .composing → (s.slot i).split = 0)) ∧
  ∀ (s : State) (m : Message), s.regs.resetBusy = false →
    m = { slot := none, row := 0, count := (match s.engine.mountedPitch with | some l => 300 / l | none => 50)
          body := .slew, marks := ⟨false, false, true⟩, strobe := none } →
    (s.panel.buttons.topOfForm.down = false →
      ∃ t, exec .topOfForm s = .next t ∧ t.panel.buttons.topOfForm = ⟨true, true⟩ ∧
        (s.paperFree = true → t.linkOut = s.linkOut ++ [⟨s.engine.frameSeq, .top⟩] ∧ t.engine.alignment = .set) ∧
        (s.paperFree = false → t.linkOut = s.linkOut ∧ t.engine = s.engine) ∧
        t.sc = s.sc ∧ t.store = s.store ∧ t.regs = s.regs ∧ t.counts = s.counts ∧ t.hostMem = s.hostMem) ∧
    (s.panel.buttons.line.down = false → s.panel.lineOwed = false →
      ∃ t, exec .lineButton s = .next t ∧ t.panel.buttons.line = ⟨true, true⟩ ∧
        (s.paperFree = true → 1 ≤ s.engine.bandRoom → s.engine.sent.length < 4 →
          t.linkOut = s.linkOut ++ [⟨s.engine.frameSeq, .slew s.engine.bandSeq s.engine.pageSeq m⟩] ∧
            t.engine.bandSeq = s.engine.bandSeq + 1 ∧ t.engine.bandRoom = s.engine.bandRoom - 1 ∧
            t.engine.alignment = .off ∧ t.engine.sent.length = s.engine.sent.length + 1 ∧
            t.panel.lineOwed = false) ∧
        (s.paperFree = true → s.engine.bandRoom = 0 ∨ 4 ≤ s.engine.sent.length →
          t.panel.lineOwed = true ∧ t.linkOut = s.linkOut ∧ t.engine = s.engine) ∧
        (s.paperFree = true → t.panel.repeatTimer = some 500 ∧ t.panel.repeatPhase = .delay) ∧
        (s.paperFree = false → t.linkOut = s.linkOut ∧ t.engine = s.engine ∧
          t.panel.repeatTimer = s.panel.repeatTimer) ∧
        t.sc = s.sc ∧ t.store = s.store ∧ t.regs = s.regs ∧ t.counts = s.counts ∧ t.hostMem = s.hostMem) ∧
    (s.panel.buttons.line.down = false → s.panel.lineOwed = true →
      ∃ t, exec .lineButton s = .next t ∧ t.panel.buttons.line = ⟨true, true⟩ ∧ t.panel.lineOwed = true ∧
        t.panel.repeatTimer = s.panel.repeatTimer ∧ t.panel.repeatPhase = s.panel.repeatPhase ∧
        t.linkOut = s.linkOut ∧ t.engine = s.engine ∧ t.sc = s.sc ∧ t.store = s.store ∧ t.hostMem = s.hostMem) ∧
    (∀ r, s.panel.repeatTimer = some r → s.panel.lineOwed = true → s.panel.buttons.line = ⟨true, true⟩ →
      s.paperFree = true →
      ∃ t, exec .repeatTimerExpiry s = .next t ∧ t.now = s.now + r ∧ t.panel.repeatTimer = some 100 ∧
        t.panel.repeatPhase = .repeating ∧ t.panel.lineOwed = true ∧ t.linkOut = s.linkOut ∧ t.sc = s.sc ∧
        t.store = s.store ∧ t.hostMem = s.hostMem) ∧
    (∀ r, s.panel.repeatTimer = some r → s.panel.lineOwed = false →
      ∃ t, exec .repeatTimerExpiry s = .next t ∧ t.now = s.now + r ∧
        (s.panel.buttons.line = ⟨true, true⟩ → s.paperFree = true →
          t.panel.repeatTimer = some 100 ∧ t.panel.repeatPhase = .repeating ∧
            (1 ≤ s.engine.bandRoom → s.engine.sent.length < 4 →
              t.linkOut = s.linkOut ++ [⟨s.engine.frameSeq, .slew s.engine.bandSeq s.engine.pageSeq m⟩]) ∧
            (s.engine.bandRoom = 0 ∨ 4 ≤ s.engine.sent.length → t.panel.lineOwed = true ∧ t.linkOut = s.linkOut)) ∧
        (s.panel.buttons.line.down = false ∨ s.panel.buttons.line.armed = false ∨ s.paperFree = false →
          t.panel.repeatTimer = none ∧ t.panel.repeatPhase = .none ∧ t.linkOut = s.linkOut) ∧
        t.sc = s.sc ∧ t.store = s.store ∧ t.counts = s.counts ∧ t.hostMem = s.hostMem)

/-- LAMP TEST lights every lamp while it is down; BUTTON_RELEASE frees and disarms the button, and that of LINE ends
its repeat; LINGER_TIMER_EXPIRY puts the activity lamp out; BLINK_HALF passes the blink clock on, and the activity
lamp is lit in every other half of it. Each lamp shows its function: READY, ATTENTION, FORMS_LOW and OFFLINE follow the
engine. That an expiry brings the clock to its end (log 3), and how the two blinks lie in one clock of four halves
(log 42), is the model's choice. -/
def Obligations.LampsFollowThePart : Prop :=
  ∀ s : State,
    ((∀ k, s.lampLit k = (s.panel.buttons.lampTest.down || s.functionLit s.panel.lamps[k])) ∧
      s.functionLit .off = false ∧
      (s.functionLit .ready = true ↔ s.engine.state = .idle ∨ s.engine.state = .feeding) ∧
      (s.functionLit .attention = true ↔ (∃ r, s.engine.state = .held r) ∨ s.engine.state = .jammed ∨
        (s.engine.state = .formsWait ∧ s.panel.blinkPhase.val < 2)) ∧
      (s.functionLit .activity = true ↔ s.panel.linger ≠ none ∧ s.panel.blinkPhase.val % 2 = 0) ∧
      (s.functionLit .formsLow = true ↔ s.engine.cond.formsLow = true ∧ s.engine.state ≠ .offline) ∧
      (s.functionLit .offline = true ↔ s.engine.state = .offline)) ∧
    (s.regs.resetBusy = false → s.panel.buttons.lampTest.down = false →
      ∃ t, exec .lampTest s = .next t ∧ (∀ k, t.lampLit k = true) ∧ t.engine = s.engine ∧ t.linkOut = s.linkOut ∧
        t.sc = s.sc ∧ t.store = s.store ∧ t.regs = s.regs ∧ t.hostMem = s.hostMem) ∧
    (∀ b, (s.panel.buttons.get b).down = true →
      ∃ t, exec (.buttonRelease b) s = .next t ∧ t.panel.buttons.get b = ⟨false, false⟩ ∧
        (∀ b', b' ≠ b → t.panel.buttons.get b' = s.panel.buttons.get b') ∧
        (b = .line → t.panel.repeatTimer = none ∧ t.panel.repeatPhase = .none) ∧
        (b ≠ .line → t.panel.repeatTimer = s.panel.repeatTimer) ∧ t.engine = s.engine ∧ t.linkOut = s.linkOut ∧
        t.sc = s.sc ∧ t.store = s.store ∧ t.regs = s.regs ∧ t.hostMem = s.hostMem) ∧
    (∀ r, s.panel.linger = some r →
      ∃ t, exec .lingerTimerExpiry s = .next t ∧ t.panel.linger = none ∧ t.functionLit .activity = false ∧
        t.now = s.now + r ∧ t.panel.buttons = s.panel.buttons ∧ t.linkOut = s.linkOut ∧ t.sc = s.sc ∧
        t.store = s.store ∧ t.hostMem = s.hostMem) ∧
    (∃ t, exec .blinkHalf s = .next t ∧ t.panel.blinkPhase = s.panel.blinkPhase + 1 ∧ t.panel.blinkTimer = 125 ∧
      t.now = s.now + s.panel.blinkTimer ∧
      (s.panel.linger ≠ none → t.functionLit .activity = !s.functionLit .activity) ∧
      t.panel.buttons = s.panel.buttons ∧ t.linkOut = s.linkOut ∧ t.sc = s.sc ∧ t.store = s.store ∧
      t.hostMem = s.hostMem)

end
end

