-- ==== Sys2Proof/Laws/State.lean ====
section
/-! SUPPORT. What each elementary update leaves as it was, field by field, true by unfolding: later proofs rewrite
with these and never open a record update. -/

namespace Sys2Proof.Machine

@[simp] theorem State.modStream_keeps (s : State) (n : Fin 8) (f : StreamRec → StreamRec) :
    (s.modStream n f).regs = s.regs ∧ (s.modStream n f).comp = s.comp ∧ (s.modStream n f).form = s.form ∧
      (s.modStream n f).store = s.store ∧ (s.modStream n f).builder = s.builder ∧ (s.modStream n f).cache = s.cache ∧
      (s.modStream n f).mtu = s.mtu ∧ (s.modStream n f).writer = s.writer ∧ (s.modStream n f).engine = s.engine ∧
      (s.modStream n f).counts = s.counts ∧ (s.modStream n f).panel = s.panel ∧ (s.modStream n f).hostMem = s.hostMem ∧
      (s.modStream n f).linkOut = s.linkOut ∧ (s.modStream n f).now = s.now ∧ (s.modStream n f).unreadTags = s.unreadTags ∧
      (s.modStream n f).pending = s.pending := by
  (repeat' apply And.intro) <;> rfl

@[simp] theorem State.modSlot_keeps (s : State) (i : Fin 4) (f : Slot → Slot) :
    (s.modSlot i f).regs = s.regs ∧ (s.modSlot i f).sc = s.sc ∧ (s.modSlot i f).comp = s.comp ∧
      (s.modSlot i f).form = s.form ∧ (s.modSlot i f).builder = s.builder ∧ (s.modSlot i f).cache = s.cache ∧
      (s.modSlot i f).mtu = s.mtu ∧ (s.modSlot i f).writer = s.writer ∧ (s.modSlot i f).engine = s.engine ∧
      (s.modSlot i f).counts = s.counts ∧ (s.modSlot i f).panel = s.panel ∧ (s.modSlot i f).hostMem = s.hostMem ∧
      (s.modSlot i f).linkOut = s.linkOut ∧ (s.modSlot i f).now = s.now ∧ (s.modSlot i f).unreadTags = s.unreadTags ∧
      (s.modSlot i f).pending = s.pending := by
  (repeat' apply And.intro) <;> rfl

@[simp] theorem State.elapse_keeps (s : State) (d : Nat) :
    (s.elapse d).sc = s.sc ∧ (s.elapse d).form = s.form ∧ (s.elapse d).store = s.store ∧
      (s.elapse d).builder = s.builder ∧ (s.elapse d).cache = s.cache ∧ (s.elapse d).writer = s.writer ∧
      (s.elapse d).counts = s.counts ∧ (s.elapse d).hostMem = s.hostMem ∧ (s.elapse d).linkOut = s.linkOut ∧
      (s.elapse d).unreadTags = s.unreadTags ∧
      (s.elapse d).pending = s.pending := by
  (repeat' apply And.intro) <;> rfl

@[simp] theorem State.send_keeps (s : State) (b : TxBody) :
    (s.send b).regs = s.regs ∧ (s.send b).sc = s.sc ∧ (s.send b).comp = s.comp ∧
      (s.send b).form = s.form ∧ (s.send b).store = s.store ∧ (s.send b).builder = s.builder ∧
      (s.send b).cache = s.cache ∧ (s.send b).mtu = s.mtu ∧ (s.send b).writer = s.writer ∧
      (s.send b).counts = s.counts ∧ (s.send b).panel = s.panel ∧ (s.send b).hostMem = s.hostMem ∧
      (s.send b).now = s.now ∧ (s.send b).unreadTags = s.unreadTags ∧
      (s.send b).pending = s.pending := by
  (repeat' apply And.intro) <;> rfl

@[simp] theorem State.sendHalt_keeps (s : State) :
    (s.sendHalt).regs = s.regs ∧ (s.sendHalt).sc = s.sc ∧ (s.sendHalt).comp = s.comp ∧
      (s.sendHalt).form = s.form ∧ (s.sendHalt).store = s.store ∧ (s.sendHalt).builder = s.builder ∧
      (s.sendHalt).cache = s.cache ∧ (s.sendHalt).mtu = s.mtu ∧ (s.sendHalt).writer = s.writer ∧
      (s.sendHalt).counts = s.counts ∧ (s.sendHalt).panel = s.panel ∧ (s.sendHalt).hostMem = s.hostMem ∧
      (s.sendHalt).now = s.now ∧ (s.sendHalt).unreadTags = s.unreadTags ∧
      (s.sendHalt).pending = s.pending := by
  (repeat' apply And.intro) <;> rfl

@[simp] theorem State.sendTop_keeps (s : State) :
    (s.sendTop).regs = s.regs ∧ (s.sendTop).sc = s.sc ∧ (s.sendTop).comp = s.comp ∧
      (s.sendTop).form = s.form ∧ (s.sendTop).store = s.store ∧ (s.sendTop).builder = s.builder ∧
      (s.sendTop).cache = s.cache ∧ (s.sendTop).mtu = s.mtu ∧ (s.sendTop).writer = s.writer ∧
      (s.sendTop).counts = s.counts ∧ (s.sendTop).panel = s.panel ∧ (s.sendTop).hostMem = s.hostMem ∧
      (s.sendTop).now = s.now ∧ (s.sendTop).unreadTags = s.unreadTags ∧
      (s.sendTop).pending = s.pending := by
  (repeat' apply And.intro) <;> rfl

@[simp] theorem State.sendMount_keeps (s : State) :
    (s.sendMount).regs = s.regs ∧ (s.sendMount).sc = s.sc ∧ (s.sendMount).comp = s.comp ∧
      (s.sendMount).form = s.form ∧ (s.sendMount).store = s.store ∧ (s.sendMount).builder = s.builder ∧
      (s.sendMount).cache = s.cache ∧ (s.sendMount).mtu = s.mtu ∧ (s.sendMount).writer = s.writer ∧
      (s.sendMount).counts = s.counts ∧ (s.sendMount).panel = s.panel ∧ (s.sendMount).hostMem = s.hostMem ∧
      (s.sendMount).now = s.now ∧ (s.sendMount).unreadTags = s.unreadTags ∧
      (s.sendMount).pending = s.pending := by
  (repeat' apply And.intro) <;> rfl

@[simp] theorem State.ask_keeps (s : State) (o : Owed) :
    (s.ask o).regs = s.regs ∧ (s.ask o).sc = s.sc ∧ (s.ask o).comp = s.comp ∧
      (s.ask o).form = s.form ∧ (s.ask o).store = s.store ∧ (s.ask o).builder = s.builder ∧
      (s.ask o).cache = s.cache ∧ (s.ask o).mtu = s.mtu ∧ (s.ask o).engine = s.engine ∧
      (s.ask o).counts = s.counts ∧ (s.ask o).panel = s.panel ∧ (s.ask o).hostMem = s.hostMem ∧
      (s.ask o).linkOut = s.linkOut ∧ (s.ask o).now = s.now ∧ (s.ask o).unreadTags = s.unreadTags ∧
      (s.ask o).pending = s.pending := by
  (repeat' apply And.intro) <;> rfl

@[simp] theorem State.askDescriptor_keeps (s : State) (n : Fin 8) (e : Bool) :
    (s.askDescriptor n e).regs = s.regs ∧ (s.askDescriptor n e).sc = s.sc ∧ (s.askDescriptor n e).comp = s.comp ∧
      (s.askDescriptor n e).form = s.form ∧ (s.askDescriptor n e).store = s.store ∧ (s.askDescriptor n e).builder = s.builder ∧
      (s.askDescriptor n e).cache = s.cache ∧ (s.askDescriptor n e).mtu = s.mtu ∧ (s.askDescriptor n e).engine = s.engine ∧
      (s.askDescriptor n e).counts = s.counts ∧ (s.askDescriptor n e).panel = s.panel ∧ (s.askDescriptor n e).hostMem = s.hostMem ∧
      (s.askDescriptor n e).linkOut = s.linkOut ∧ (s.askDescriptor n e).now = s.now ∧ (s.askDescriptor n e).unreadTags = s.unreadTags ∧
      (s.askDescriptor n e).pending = s.pending := by
  (repeat' apply And.intro) <;> rfl

@[simp] theorem State.askRecord_keeps (s : State) :
    (s.askRecord).regs = s.regs ∧ (s.askRecord).sc = s.sc ∧ (s.askRecord).comp = s.comp ∧
      (s.askRecord).form = s.form ∧ (s.askRecord).store = s.store ∧ (s.askRecord).builder = s.builder ∧
      (s.askRecord).cache = s.cache ∧ (s.askRecord).mtu = s.mtu ∧ (s.askRecord).engine = s.engine ∧
      (s.askRecord).counts = s.counts ∧ (s.askRecord).panel = s.panel ∧ (s.askRecord).hostMem = s.hostMem ∧
      (s.askRecord).linkOut = s.linkOut ∧ (s.askRecord).now = s.now ∧ (s.askRecord).unreadTags = s.unreadTags ∧
      (s.askRecord).pending = s.pending := by
  (repeat' apply And.intro) <;> rfl

@[simp] theorem State.enqueue_keeps (s : State) (n : Fin 8) :
    (s.enqueue n).regs = s.regs ∧ (s.enqueue n).comp = s.comp ∧ (s.enqueue n).form = s.form ∧
      (s.enqueue n).store = s.store ∧ (s.enqueue n).builder = s.builder ∧ (s.enqueue n).cache = s.cache ∧
      (s.enqueue n).mtu = s.mtu ∧ (s.enqueue n).writer = s.writer ∧ (s.enqueue n).engine = s.engine ∧
      (s.enqueue n).counts = s.counts ∧ (s.enqueue n).panel = s.panel ∧ (s.enqueue n).hostMem = s.hostMem ∧
      (s.enqueue n).linkOut = s.linkOut ∧ (s.enqueue n).now = s.now ∧ (s.enqueue n).unreadTags = s.unreadTags ∧
      (s.enqueue n).pending = s.pending := by
  (repeat' apply And.intro) <;> rfl

@[simp] theorem State.dequeue_keeps (s : State) (n : Fin 8) :
    (s.dequeue n).regs = s.regs ∧ (s.dequeue n).comp = s.comp ∧ (s.dequeue n).form = s.form ∧
      (s.dequeue n).store = s.store ∧ (s.dequeue n).builder = s.builder ∧ (s.dequeue n).cache = s.cache ∧
      (s.dequeue n).mtu = s.mtu ∧ (s.dequeue n).writer = s.writer ∧ (s.dequeue n).engine = s.engine ∧
      (s.dequeue n).counts = s.counts ∧ (s.dequeue n).panel = s.panel ∧ (s.dequeue n).hostMem = s.hostMem ∧
      (s.dequeue n).linkOut = s.linkOut ∧ (s.dequeue n).now = s.now ∧ (s.dequeue n).unreadTags = s.unreadTags ∧
      (s.dequeue n).pending = s.pending := by
  (repeat' apply And.intro) <;> rfl

@[simp] theorem State.dropReads_keeps (s : State) (p : TransferKind → Bool) :
    (s.dropReads p).regs = s.regs ∧ (s.dropReads p).sc = s.sc ∧ (s.dropReads p).comp = s.comp ∧
      (s.dropReads p).form = s.form ∧ (s.dropReads p).store = s.store ∧ (s.dropReads p).builder = s.builder ∧
      (s.dropReads p).cache = s.cache ∧ (s.dropReads p).writer = s.writer ∧ (s.dropReads p).engine = s.engine ∧
      (s.dropReads p).counts = s.counts ∧ (s.dropReads p).panel = s.panel ∧ (s.dropReads p).hostMem = s.hostMem ∧
      (s.dropReads p).linkOut = s.linkOut ∧ (s.dropReads p).now = s.now ∧ (s.dropReads p).unreadTags = s.unreadTags ∧
      (s.dropReads p).pending = s.pending := by
  (repeat' apply And.intro) <;> rfl

@[simp] theorem State.syncWaits_keeps (s : State) :
    (s.syncWaits).regs = s.regs ∧ (s.syncWaits).comp = s.comp ∧ (s.syncWaits).form = s.form ∧
      (s.syncWaits).store = s.store ∧ (s.syncWaits).builder = s.builder ∧ (s.syncWaits).cache = s.cache ∧
      (s.syncWaits).mtu = s.mtu ∧ (s.syncWaits).writer = s.writer ∧ (s.syncWaits).engine = s.engine ∧
      (s.syncWaits).counts = s.counts ∧ (s.syncWaits).panel = s.panel ∧ (s.syncWaits).hostMem = s.hostMem ∧
      (s.syncWaits).linkOut = s.linkOut ∧ (s.syncWaits).now = s.now ∧ (s.syncWaits).unreadTags = s.unreadTags ∧
      (s.syncWaits).pending = s.pending := by
  (repeat' apply And.intro) <;> rfl

@[simp] theorem State.clearSlot_keeps (s : State) (i : Fin 4) :
    (s.clearSlot i).regs = s.regs ∧ (s.clearSlot i).sc = s.sc ∧ (s.clearSlot i).comp = s.comp ∧
      (s.clearSlot i).form = s.form ∧ (s.clearSlot i).builder = s.builder ∧ (s.clearSlot i).cache = s.cache ∧
      (s.clearSlot i).mtu = s.mtu ∧ (s.clearSlot i).writer = s.writer ∧ (s.clearSlot i).engine = s.engine ∧
      (s.clearSlot i).counts = s.counts ∧ (s.clearSlot i).panel = s.panel ∧ (s.clearSlot i).hostMem = s.hostMem ∧
      (s.clearSlot i).linkOut = s.linkOut ∧ (s.clearSlot i).now = s.now ∧ (s.clearSlot i).unreadTags = s.unreadTags ∧
      (s.clearSlot i).pending = s.pending := by
  (repeat' apply And.intro) <;> rfl

@[simp] theorem State.reportsFall_keeps (s : State) (n : Fin 8) (ends : List JobEnd) :
    (s.reportsFall n ends).regs = s.regs ∧ (s.reportsFall n ends).comp = s.comp ∧ (s.reportsFall n ends).form = s.form ∧
      (s.reportsFall n ends).store = s.store ∧ (s.reportsFall n ends).builder = s.builder ∧ (s.reportsFall n ends).cache = s.cache ∧
      (s.reportsFall n ends).mtu = s.mtu ∧ (s.reportsFall n ends).writer = s.writer ∧ (s.reportsFall n ends).engine = s.engine ∧
      (s.reportsFall n ends).counts = s.counts ∧ (s.reportsFall n ends).panel = s.panel ∧ (s.reportsFall n ends).hostMem = s.hostMem ∧
      (s.reportsFall n ends).linkOut = s.linkOut ∧ (s.reportsFall n ends).now = s.now ∧ (s.reportsFall n ends).unreadTags = s.unreadTags ∧
      (s.reportsFall n ends).pending = s.pending := by
  (repeat' apply And.intro) <;> rfl

@[simp] theorem State.openAt_keeps (s : State) (i : Fin 4) (n : Fin 8) (tag : Word32) (number : Nat) (first : Bool) :
    (s.openAt i n tag number first).regs = s.regs ∧ (s.openAt i n tag number first).comp = s.comp ∧ (s.openAt i n tag number first).form = s.form ∧
      (s.openAt i n tag number first).builder = s.builder ∧ (s.openAt i n tag number first).cache = s.cache ∧ (s.openAt i n tag number first).mtu = s.mtu ∧
      (s.openAt i n tag number first).writer = s.writer ∧ (s.openAt i n tag number first).engine = s.engine ∧ (s.openAt i n tag number first).counts = s.counts ∧
      (s.openAt i n tag number first).panel = s.panel ∧ (s.openAt i n tag number first).hostMem = s.hostMem ∧ (s.openAt i n tag number first).linkOut = s.linkOut ∧
      (s.openAt i n tag number first).now = s.now ∧ (s.openAt i n tag number first).unreadTags = s.unreadTags ∧
      (s.openAt i n tag number first).pending = s.pending := by
  (repeat' apply And.intro) <;> rfl

@[simp] theorem State.linger_keeps (s : State) :
    (s.linger).regs = s.regs ∧ (s.linger).sc = s.sc ∧ (s.linger).comp = s.comp ∧
      (s.linger).form = s.form ∧ (s.linger).store = s.store ∧ (s.linger).builder = s.builder ∧
      (s.linger).cache = s.cache ∧ (s.linger).mtu = s.mtu ∧ (s.linger).writer = s.writer ∧
      (s.linger).engine = s.engine ∧ (s.linger).counts = s.counts ∧ (s.linger).hostMem = s.hostMem ∧
      (s.linger).linkOut = s.linkOut ∧ (s.linger).now = s.now ∧ (s.linger).unreadTags = s.unreadTags ∧
      (s.linger).pending = s.pending := by
  (repeat' apply And.intro) <;> rfl

@[simp] theorem State.hand_keeps (s : State) (m : Message) (page : BitVec 8) :
    (s.hand m page).regs = s.regs ∧ (s.hand m page).sc = s.sc ∧ (s.hand m page).comp = s.comp ∧
      (s.hand m page).form = s.form ∧ (s.hand m page).store = s.store ∧ (s.hand m page).builder = s.builder ∧
      (s.hand m page).cache = s.cache ∧ (s.hand m page).mtu = s.mtu ∧ (s.hand m page).writer = s.writer ∧
      (s.hand m page).panel = s.panel ∧ (s.hand m page).hostMem = s.hostMem ∧ (s.hand m page).now = s.now ∧
      (s.hand m page).unreadTags = s.unreadTags ∧
      (s.hand m page).pending = s.pending := by
  (repeat' apply And.intro) <;> rfl

@[simp] theorem State.sendAdvance_keeps (s : State) :
    (s.sendAdvance).regs = s.regs ∧ (s.sendAdvance).sc = s.sc ∧ (s.sendAdvance).comp = s.comp ∧
      (s.sendAdvance).form = s.form ∧ (s.sendAdvance).store = s.store ∧ (s.sendAdvance).builder = s.builder ∧
      (s.sendAdvance).cache = s.cache ∧ (s.sendAdvance).mtu = s.mtu ∧ (s.sendAdvance).writer = s.writer ∧
      (s.sendAdvance).panel = s.panel ∧ (s.sendAdvance).hostMem = s.hostMem ∧ (s.sendAdvance).now = s.now ∧
      (s.sendAdvance).unreadTags = s.unreadTags ∧
      (s.sendAdvance).pending = s.pending := by
  (repeat' apply And.intro) <;> rfl

@[simp] theorem State.unsend_keeps (s : State) (q : BitVec 16) :
    (s.unsend q).regs = s.regs ∧ (s.unsend q).sc = s.sc ∧ (s.unsend q).comp = s.comp ∧
      (s.unsend q).form = s.form ∧ (s.unsend q).store = s.store ∧ (s.unsend q).builder = s.builder ∧
      (s.unsend q).cache = s.cache ∧ (s.unsend q).mtu = s.mtu ∧ (s.unsend q).writer = s.writer ∧
      (s.unsend q).counts = s.counts ∧ (s.unsend q).panel = s.panel ∧ (s.unsend q).hostMem = s.hostMem ∧
      (s.unsend q).linkOut = s.linkOut ∧ (s.unsend q).now = s.now ∧ (s.unsend q).unreadTags = s.unreadTags ∧
      (s.unsend q).pending = s.pending := by
  (repeat' apply And.intro) <;> rfl

@[simp] theorem State.reportUntakenJob_keeps (s : State) (n : Fin 8) :
    (s.reportUntakenJob n).regs = s.regs ∧ (s.reportUntakenJob n).comp = s.comp ∧
      (s.reportUntakenJob n).form = s.form ∧ (s.reportUntakenJob n).store = s.store ∧
      (s.reportUntakenJob n).builder = s.builder ∧ (s.reportUntakenJob n).cache = s.cache ∧
      (s.reportUntakenJob n).mtu = s.mtu ∧ (s.reportUntakenJob n).writer = s.writer ∧
      (s.reportUntakenJob n).engine = s.engine ∧ (s.reportUntakenJob n).counts = s.counts ∧
      (s.reportUntakenJob n).panel = s.panel ∧ (s.reportUntakenJob n).hostMem = s.hostMem ∧
      (s.reportUntakenJob n).linkOut = s.linkOut ∧ (s.reportUntakenJob n).now = s.now ∧
      (s.reportUntakenJob n).unreadTags = s.unreadTags + 1 ∧
      (s.reportUntakenJob n).pending = s.pending := by
  (repeat' apply And.intro) <;> rfl

@[simp] theorem State.markRefused_keeps (s : State) (q : BitVec 16) :
    (s.markRefused q).regs = s.regs ∧ (s.markRefused q).sc = s.sc ∧ (s.markRefused q).comp = s.comp ∧
      (s.markRefused q).form = s.form ∧ (s.markRefused q).store = s.store ∧ (s.markRefused q).builder = s.builder ∧
      (s.markRefused q).cache = s.cache ∧ (s.markRefused q).mtu = s.mtu ∧ (s.markRefused q).writer = s.writer ∧
      (s.markRefused q).counts = s.counts ∧ (s.markRefused q).panel = s.panel ∧ (s.markRefused q).hostMem = s.hostMem ∧
      (s.markRefused q).linkOut = s.linkOut ∧ (s.markRefused q).now = s.now ∧ (s.markRefused q).unreadTags = s.unreadTags ∧
      (s.markRefused q).pending = s.pending := by
  (repeat' apply And.intro) <;> rfl

@[simp] theorem State.takeCondition_keeps (s : State) (c : Condition) :
    (s.takeCondition c).regs = s.regs ∧ (s.takeCondition c).sc = s.sc ∧ (s.takeCondition c).comp = s.comp ∧
      (s.takeCondition c).form = s.form ∧ (s.takeCondition c).store = s.store ∧ (s.takeCondition c).builder = s.builder ∧
      (s.takeCondition c).cache = s.cache ∧ (s.takeCondition c).mtu = s.mtu ∧ (s.takeCondition c).writer = s.writer ∧
      (s.takeCondition c).panel = s.panel ∧ (s.takeCondition c).hostMem = s.hostMem ∧ (s.takeCondition c).linkOut = s.linkOut ∧
      (s.takeCondition c).now = s.now ∧ (s.takeCondition c).unreadTags = s.unreadTags ∧
      (s.takeCondition c).pending = s.pending := by
  (repeat' apply And.intro) <;> rfl

@[simp] theorem State.linkErrors_keeps (s : State) (k : Nat) :
    (s.linkErrors k).regs = s.regs ∧ (s.linkErrors k).sc = s.sc ∧ (s.linkErrors k).comp = s.comp ∧
      (s.linkErrors k).form = s.form ∧ (s.linkErrors k).store = s.store ∧ (s.linkErrors k).builder = s.builder ∧
      (s.linkErrors k).cache = s.cache ∧ (s.linkErrors k).mtu = s.mtu ∧ (s.linkErrors k).writer = s.writer ∧
      (s.linkErrors k).engine = s.engine ∧ (s.linkErrors k).panel = s.panel ∧ (s.linkErrors k).hostMem = s.hostMem ∧
      (s.linkErrors k).linkOut = s.linkOut ∧ (s.linkErrors k).now = s.now ∧ (s.linkErrors k).unreadTags = s.unreadTags ∧
      (s.linkErrors k).pending = s.pending := by
  (repeat' apply And.intro) <;> rfl

@[simp] theorem State.setCursor_keeps (s : State) (n : Fin 8) (line : Nat) :
    (s.setCursor n line).regs = s.regs ∧ (s.setCursor n line).form = s.form ∧ (s.setCursor n line).store = s.store ∧
      (s.setCursor n line).builder = s.builder ∧ (s.setCursor n line).cache = s.cache ∧ (s.setCursor n line).mtu = s.mtu ∧
      (s.setCursor n line).writer = s.writer ∧ (s.setCursor n line).engine = s.engine ∧ (s.setCursor n line).counts = s.counts ∧
      (s.setCursor n line).panel = s.panel ∧ (s.setCursor n line).hostMem = s.hostMem ∧ (s.setCursor n line).linkOut = s.linkOut ∧
      (s.setCursor n line).now = s.now ∧ (s.setCursor n line).unreadTags = s.unreadTags ∧
      (s.setCursor n line).pending = s.pending := by
  (repeat' apply And.intro) <;> rfl

@[simp] theorem State.waitSlot_keeps (s : State) (p : PendingOpen) :
    (s.waitSlot p).regs = s.regs ∧ (s.waitSlot p).sc = s.sc ∧ (s.waitSlot p).form = s.form ∧
      (s.waitSlot p).store = s.store ∧ (s.waitSlot p).builder = s.builder ∧ (s.waitSlot p).cache = s.cache ∧
      (s.waitSlot p).mtu = s.mtu ∧ (s.waitSlot p).writer = s.writer ∧ (s.waitSlot p).engine = s.engine ∧
      (s.waitSlot p).counts = s.counts ∧ (s.waitSlot p).panel = s.panel ∧ (s.waitSlot p).hostMem = s.hostMem ∧
      (s.waitSlot p).linkOut = s.linkOut ∧ (s.waitSlot p).now = s.now ∧ (s.waitSlot p).unreadTags = s.unreadTags ∧
      (s.waitSlot p).pending = s.pending := by
  (repeat' apply And.intro) <;> rfl

@[simp] theorem State.openNext_keeps (s : State) (i : Fin 4) (n : Fin 8) (number : Nat) :
    (s.openNext i n number).regs = s.regs ∧ (s.openNext i n number).comp = s.comp ∧ (s.openNext i n number).form = s.form ∧
      (s.openNext i n number).builder = s.builder ∧ (s.openNext i n number).cache = s.cache ∧ (s.openNext i n number).mtu = s.mtu ∧
      (s.openNext i n number).writer = s.writer ∧ (s.openNext i n number).engine = s.engine ∧ (s.openNext i n number).counts = s.counts ∧
      (s.openNext i n number).panel = s.panel ∧ (s.openNext i n number).hostMem = s.hostMem ∧ (s.openNext i n number).linkOut = s.linkOut ∧
      (s.openNext i n number).now = s.now ∧ (s.openNext i n number).unreadTags = s.unreadTags ∧
      (s.openNext i n number).pending = s.pending := by
  (repeat' apply And.intro) <;> rfl

@[simp] theorem State.dropHeld_keeps (s : State) (n : Fin 8) :
    (s.dropHeld n).regs = s.regs ∧ (s.dropHeld n).comp = s.comp ∧ (s.dropHeld n).form = s.form ∧
      (s.dropHeld n).store = s.store ∧ (s.dropHeld n).builder = s.builder ∧ (s.dropHeld n).cache = s.cache ∧
      (s.dropHeld n).mtu = s.mtu ∧ (s.dropHeld n).writer = s.writer ∧ (s.dropHeld n).engine = s.engine ∧
      (s.dropHeld n).counts = s.counts ∧ (s.dropHeld n).panel = s.panel ∧ (s.dropHeld n).hostMem = s.hostMem ∧
      (s.dropHeld n).linkOut = s.linkOut ∧ (s.dropHeld n).now = s.now ∧ (s.dropHeld n).unreadTags = s.unreadTags ∧
      (s.dropHeld n).pending = s.pending := by
  (repeat' apply And.intro) <;> rfl

@[simp] theorem State.beginDiscard_keeps (s : State) (n : Fin 8) (reports : Bool) :
    (s.beginDiscard n reports).regs = s.regs ∧ (s.beginDiscard n reports).comp = s.comp ∧ (s.beginDiscard n reports).form = s.form ∧
      (s.beginDiscard n reports).store = s.store ∧ (s.beginDiscard n reports).builder = s.builder ∧ (s.beginDiscard n reports).cache = s.cache ∧
      (s.beginDiscard n reports).mtu = s.mtu ∧ (s.beginDiscard n reports).writer = s.writer ∧ (s.beginDiscard n reports).engine = s.engine ∧
      (s.beginDiscard n reports).counts = s.counts ∧ (s.beginDiscard n reports).panel = s.panel ∧ (s.beginDiscard n reports).hostMem = s.hostMem ∧
      (s.beginDiscard n reports).linkOut = s.linkOut ∧ (s.beginDiscard n reports).now = s.now ∧ (s.beginDiscard n reports).unreadTags = s.unreadTags ∧
      (s.beginDiscard n reports).pending = s.pending := by
  (repeat' apply And.intro) <;> rfl

@[simp] theorem State.beginScan_keeps (s : State) :
    (s.beginScan).comp = s.comp ∧ (s.beginScan).form = s.form ∧ (s.beginScan).store = s.store ∧
      (s.beginScan).builder = s.builder ∧ (s.beginScan).cache = s.cache ∧ (s.beginScan).mtu = s.mtu ∧
      (s.beginScan).writer = s.writer ∧ (s.beginScan).engine = s.engine ∧ (s.beginScan).counts = s.counts ∧
      (s.beginScan).panel = s.panel ∧ (s.beginScan).hostMem = s.hostMem ∧ (s.beginScan).linkOut = s.linkOut ∧
      (s.beginScan).now = s.now ∧ (s.beginScan).unreadTags = s.unreadTags ∧
      (s.beginScan).pending = s.pending := by
  (repeat' apply And.intro) <;> rfl

@[simp] theorem State.reloadSweep_keeps (s : State) :
    (s.reloadSweep).sc = s.sc ∧ (s.reloadSweep).comp = s.comp ∧ (s.reloadSweep).form = s.form ∧
      (s.reloadSweep).store = s.store ∧ (s.reloadSweep).builder = s.builder ∧ (s.reloadSweep).cache = s.cache ∧
      (s.reloadSweep).mtu = s.mtu ∧ (s.reloadSweep).writer = s.writer ∧ (s.reloadSweep).engine = s.engine ∧
      (s.reloadSweep).counts = s.counts ∧ (s.reloadSweep).panel = s.panel ∧ (s.reloadSweep).hostMem = s.hostMem ∧
      (s.reloadSweep).linkOut = s.linkOut ∧ (s.reloadSweep).now = s.now ∧ (s.reloadSweep).unreadTags = s.unreadTags ∧
      (s.reloadSweep).pending = s.pending := by
  (repeat' apply And.intro) <;> rfl

@[simp] theorem State.storeHeader_keeps (s : State) (b : List Byte) :
    (s.storeHeader b).regs = s.regs ∧ (s.storeHeader b).comp = s.comp ∧ (s.storeHeader b).form = s.form ∧
      (s.storeHeader b).store = s.store ∧ (s.storeHeader b).builder = s.builder ∧ (s.storeHeader b).cache = s.cache ∧
      (s.storeHeader b).mtu = s.mtu ∧ (s.storeHeader b).writer = s.writer ∧ (s.storeHeader b).engine = s.engine ∧
      (s.storeHeader b).counts = s.counts ∧ (s.storeHeader b).hostMem = s.hostMem ∧ (s.storeHeader b).linkOut = s.linkOut ∧
      (s.storeHeader b).now = s.now ∧ (s.storeHeader b).unreadTags = s.unreadTags ∧
      (s.storeHeader b).pending = s.pending := by
  (repeat' apply And.intro) <;> rfl

@[simp] theorem State.answer_keeps (s : State) (n : Fin 8) (t : Taken) (r : RequestResult) :
    (s.answer n t r).regs = s.regs ∧ (s.answer n t r).comp = s.comp ∧ (s.answer n t r).form = s.form ∧
      (s.answer n t r).store = s.store ∧ (s.answer n t r).builder = s.builder ∧ (s.answer n t r).cache = s.cache ∧
      (s.answer n t r).mtu = s.mtu ∧ (s.answer n t r).engine = s.engine ∧ (s.answer n t r).counts = s.counts ∧
      (s.answer n t r).panel = s.panel ∧ (s.answer n t r).hostMem = s.hostMem ∧ (s.answer n t r).linkOut = s.linkOut ∧
      (s.answer n t r).now = s.now ∧ (s.answer n t r).unreadTags = s.unreadTags ∧
      (s.answer n t r).pending = s.pending := by
  (repeat' apply And.intro) <;> rfl

@[simp] theorem State.withdrawStream_keeps (s : State) (n : Fin 8) :
    (s.withdrawStream n).regs = s.regs ∧ (s.withdrawStream n).comp = s.comp ∧ (s.withdrawStream n).form = s.form ∧
      (s.withdrawStream n).store = s.store ∧ (s.withdrawStream n).builder = s.builder ∧ (s.withdrawStream n).cache = s.cache ∧
      (s.withdrawStream n).writer = s.writer ∧ (s.withdrawStream n).engine = s.engine ∧ (s.withdrawStream n).counts = s.counts ∧
      (s.withdrawStream n).panel = s.panel ∧ (s.withdrawStream n).hostMem = s.hostMem ∧ (s.withdrawStream n).linkOut = s.linkOut ∧
      (s.withdrawStream n).now = s.now ∧ (s.withdrawStream n).unreadTags = s.unreadTags ∧
      (s.withdrawStream n).pending = s.pending := by
  (repeat' apply And.intro) <;> rfl

@[simp] theorem State.cancelJobs_keeps (s : State) (n : Fin 8) :
    (s.cancelJobs n).regs = s.regs ∧ (s.cancelJobs n).comp = s.comp ∧ (s.cancelJobs n).form = s.form ∧
      (s.cancelJobs n).store = s.store ∧ (s.cancelJobs n).builder = s.builder ∧ (s.cancelJobs n).cache = s.cache ∧
      (s.cancelJobs n).mtu = s.mtu ∧ (s.cancelJobs n).writer = s.writer ∧ (s.cancelJobs n).engine = s.engine ∧
      (s.cancelJobs n).counts = s.counts ∧ (s.cancelJobs n).panel = s.panel ∧ (s.cancelJobs n).hostMem = s.hostMem ∧
      (s.cancelJobs n).linkOut = s.linkOut ∧ (s.cancelJobs n).now = s.now ∧ (s.cancelJobs n).unreadTags = s.unreadTags ∧
      (s.cancelJobs n).pending = s.pending := by
  (repeat' apply And.intro) <;> rfl

@[simp] theorem State.issue_keeps (s : State) (q : Requester) (r : Request) :
    (s.issue q r).regs = s.regs ∧ (s.issue q r).sc = s.sc ∧ (s.issue q r).comp = s.comp ∧
      (s.issue q r).form = s.form ∧ (s.issue q r).store = s.store ∧ (s.issue q r).builder = s.builder ∧
      (s.issue q r).cache = s.cache ∧ (s.issue q r).writer = s.writer ∧ (s.issue q r).engine = s.engine ∧
      (s.issue q r).counts = s.counts ∧ (s.issue q r).panel = s.panel ∧ (s.issue q r).hostMem = s.hostMem ∧
      (s.issue q r).linkOut = s.linkOut ∧ (s.issue q r).now = s.now ∧ (s.issue q r).unreadTags = s.unreadTags ∧
      (s.issue q r).pending = s.pending := by
  (repeat' apply And.intro) <;> rfl

@[simp] theorem State.endTransfer_keeps (s : State) (q : Requester) :
    (s.endTransfer q).regs = s.regs ∧ (s.endTransfer q).sc = s.sc ∧ (s.endTransfer q).comp = s.comp ∧
      (s.endTransfer q).form = s.form ∧ (s.endTransfer q).store = s.store ∧ (s.endTransfer q).builder = s.builder ∧
      (s.endTransfer q).cache = s.cache ∧ (s.endTransfer q).writer = s.writer ∧ (s.endTransfer q).engine = s.engine ∧
      (s.endTransfer q).counts = s.counts ∧ (s.endTransfer q).panel = s.panel ∧ (s.endTransfer q).hostMem = s.hostMem ∧
      (s.endTransfer q).linkOut = s.linkOut ∧ (s.endTransfer q).now = s.now ∧ (s.endTransfer q).unreadTags = s.unreadTags ∧
      (s.endTransfer q).pending = s.pending := by
  (repeat' apply And.intro) <;> rfl

@[simp] theorem State.takeRingBytes_keeps (s : State) (b : List Byte) :
    (s.takeRingBytes b).regs = s.regs ∧ (s.takeRingBytes b).comp = s.comp ∧ (s.takeRingBytes b).form = s.form ∧
      (s.takeRingBytes b).store = s.store ∧ (s.takeRingBytes b).builder = s.builder ∧ (s.takeRingBytes b).cache = s.cache ∧
      (s.takeRingBytes b).mtu = s.mtu ∧ (s.takeRingBytes b).writer = s.writer ∧ (s.takeRingBytes b).engine = s.engine ∧
      (s.takeRingBytes b).counts = s.counts ∧ (s.takeRingBytes b).panel = s.panel ∧ (s.takeRingBytes b).hostMem = s.hostMem ∧
      (s.takeRingBytes b).linkOut = s.linkOut ∧ (s.takeRingBytes b).now = s.now ∧ (s.takeRingBytes b).unreadTags = s.unreadTags ∧
      (s.takeRingBytes b).pending = s.pending := by
  (repeat' apply And.intro) <;> rfl

@[simp] theorem State.holdRecord_keeps (s : State) (n : Fin 8) (b : List Byte) :
    (s.holdRecord n b).regs = s.regs ∧ (s.holdRecord n b).comp = s.comp ∧ (s.holdRecord n b).form = s.form ∧
      (s.holdRecord n b).store = s.store ∧ (s.holdRecord n b).builder = s.builder ∧ (s.holdRecord n b).cache = s.cache ∧
      (s.holdRecord n b).mtu = s.mtu ∧ (s.holdRecord n b).writer = s.writer ∧ (s.holdRecord n b).engine = s.engine ∧
      (s.holdRecord n b).counts = s.counts ∧ (s.holdRecord n b).panel = s.panel ∧ (s.holdRecord n b).hostMem = s.hostMem ∧
      (s.holdRecord n b).linkOut = s.linkOut ∧ (s.holdRecord n b).now = s.now ∧ (s.holdRecord n b).unreadTags = s.unreadTags ∧
      (s.holdRecord n b).pending = s.pending := by
  (repeat' apply And.intro) <;> rfl

@[simp] theorem State.takeFlushDirectory_keeps (s : State) (b : List Byte) :
    (s.takeFlushDirectory b).regs = s.regs ∧ (s.takeFlushDirectory b).sc = s.sc ∧ (s.takeFlushDirectory b).comp = s.comp ∧
      (s.takeFlushDirectory b).form = s.form ∧ (s.takeFlushDirectory b).store = s.store ∧ (s.takeFlushDirectory b).builder = s.builder ∧
      (s.takeFlushDirectory b).mtu = s.mtu ∧ (s.takeFlushDirectory b).writer = s.writer ∧ (s.takeFlushDirectory b).engine = s.engine ∧
      (s.takeFlushDirectory b).counts = s.counts ∧ (s.takeFlushDirectory b).panel = s.panel ∧ (s.takeFlushDirectory b).hostMem = s.hostMem ∧
      (s.takeFlushDirectory b).linkOut = s.linkOut ∧ (s.takeFlushDirectory b).now = s.now ∧ (s.takeFlushDirectory b).unreadTags = s.unreadTags ∧
      (s.takeFlushDirectory b).pending = s.pending := by
  (repeat' apply And.intro) <;> rfl

@[simp] theorem State.endWrite_keeps (s : State) :
    (s.endWrite).regs = s.regs ∧ (s.endWrite).sc = s.sc ∧ (s.endWrite).comp = s.comp ∧
      (s.endWrite).form = s.form ∧ (s.endWrite).store = s.store ∧ (s.endWrite).builder = s.builder ∧
      (s.endWrite).cache = s.cache ∧ (s.endWrite).mtu = s.mtu ∧ (s.endWrite).engine = s.engine ∧
      (s.endWrite).counts = s.counts ∧ (s.endWrite).panel = s.panel ∧ (s.endWrite).hostMem = s.hostMem ∧
      (s.endWrite).linkOut = s.linkOut ∧ (s.endWrite).now = s.now ∧ (s.endWrite).unreadTags = s.unreadTags ∧
      (s.endWrite).pending = s.pending := by
  (repeat' apply And.intro) <;> rfl

@[simp] theorem State.setButton_keeps (s : State) (b : Button) (r : ButtonRec) :
    (s.setButton b r).regs = s.regs ∧ (s.setButton b r).sc = s.sc ∧ (s.setButton b r).comp = s.comp ∧
      (s.setButton b r).form = s.form ∧ (s.setButton b r).store = s.store ∧ (s.setButton b r).builder = s.builder ∧
      (s.setButton b r).cache = s.cache ∧ (s.setButton b r).mtu = s.mtu ∧ (s.setButton b r).writer = s.writer ∧
      (s.setButton b r).engine = s.engine ∧ (s.setButton b r).counts = s.counts ∧ (s.setButton b r).hostMem = s.hostMem ∧
      (s.setButton b r).linkOut = s.linkOut ∧ (s.setButton b r).now = s.now ∧ (s.setButton b r).unreadTags = s.unreadTags ∧
      (s.setButton b r).pending = s.pending := by
  (repeat' apply And.intro) <;> rfl

@[simp] theorem State.setRepeat_keeps (s : State) (t : Option Nat) (p : RepeatPhase) :
    (s.setRepeat t p).regs = s.regs ∧ (s.setRepeat t p).sc = s.sc ∧ (s.setRepeat t p).comp = s.comp ∧
      (s.setRepeat t p).form = s.form ∧ (s.setRepeat t p).store = s.store ∧ (s.setRepeat t p).builder = s.builder ∧
      (s.setRepeat t p).cache = s.cache ∧ (s.setRepeat t p).mtu = s.mtu ∧ (s.setRepeat t p).writer = s.writer ∧
      (s.setRepeat t p).engine = s.engine ∧ (s.setRepeat t p).counts = s.counts ∧ (s.setRepeat t p).hostMem = s.hostMem ∧
      (s.setRepeat t p).linkOut = s.linkOut ∧ (s.setRepeat t p).now = s.now ∧ (s.setRepeat t p).unreadTags = s.unreadTags ∧
      (s.setRepeat t p).pending = s.pending := by
  (repeat' apply And.intro) <;> rfl

@[simp] theorem State.storeInterval_keeps (s : State) (k : BitVec 8) :
    (s.storeInterval k).sc = s.sc ∧ (s.storeInterval k).comp = s.comp ∧ (s.storeInterval k).form = s.form ∧
      (s.storeInterval k).store = s.store ∧ (s.storeInterval k).builder = s.builder ∧ (s.storeInterval k).cache = s.cache ∧
      (s.storeInterval k).mtu = s.mtu ∧ (s.storeInterval k).writer = s.writer ∧ (s.storeInterval k).engine = s.engine ∧
      (s.storeInterval k).counts = s.counts ∧ (s.storeInterval k).panel = s.panel ∧ (s.storeInterval k).hostMem = s.hostMem ∧
      (s.storeInterval k).linkOut = s.linkOut ∧ (s.storeInterval k).now = s.now ∧ (s.storeInterval k).unreadTags = s.unreadTags ∧
      (s.storeInterval k).pending = s.pending := by
  (repeat' apply And.intro) <;> rfl

@[simp] theorem State.writeEvents_keeps (s : State) (v : Word32) :
    (s.writeEvents v).sc = s.sc ∧ (s.writeEvents v).comp = s.comp ∧ (s.writeEvents v).form = s.form ∧
      (s.writeEvents v).store = s.store ∧ (s.writeEvents v).builder = s.builder ∧ (s.writeEvents v).cache = s.cache ∧
      (s.writeEvents v).mtu = s.mtu ∧ (s.writeEvents v).writer = s.writer ∧ (s.writeEvents v).engine = s.engine ∧
      (s.writeEvents v).counts = s.counts ∧ (s.writeEvents v).panel = s.panel ∧ (s.writeEvents v).hostMem = s.hostMem ∧
      (s.writeEvents v).linkOut = s.linkOut ∧ (s.writeEvents v).now = s.now ∧ (s.writeEvents v).unreadTags = s.unreadTags ∧
      (s.writeEvents v).pending = s.pending := by
  (repeat' apply And.intro) <;> rfl

@[simp] theorem State.writeMask_keeps (s : State) (v : Word32) :
    (s.writeMask v).sc = s.sc ∧ (s.writeMask v).comp = s.comp ∧ (s.writeMask v).form = s.form ∧
      (s.writeMask v).store = s.store ∧ (s.writeMask v).builder = s.builder ∧ (s.writeMask v).cache = s.cache ∧
      (s.writeMask v).mtu = s.mtu ∧ (s.writeMask v).writer = s.writer ∧ (s.writeMask v).engine = s.engine ∧
      (s.writeMask v).counts = s.counts ∧ (s.writeMask v).panel = s.panel ∧ (s.writeMask v).hostMem = s.hostMem ∧
      (s.writeMask v).linkOut = s.linkOut ∧ (s.writeMask v).now = s.now ∧ (s.writeMask v).unreadTags = s.unreadTags ∧
      (s.writeMask v).pending = s.pending := by
  (repeat' apply And.intro) <;> rfl

@[simp] theorem State.sendPoll_keeps (s : State) :
    (s.sendPoll).regs = s.regs ∧ (s.sendPoll).sc = s.sc ∧ (s.sendPoll).comp = s.comp ∧
      (s.sendPoll).form = s.form ∧ (s.sendPoll).store = s.store ∧ (s.sendPoll).builder = s.builder ∧
      (s.sendPoll).cache = s.cache ∧ (s.sendPoll).mtu = s.mtu ∧ (s.sendPoll).writer = s.writer ∧
      (s.sendPoll).counts = s.counts ∧ (s.sendPoll).panel = s.panel ∧ (s.sendPoll).hostMem = s.hostMem ∧
      (s.sendPoll).now = s.now ∧ (s.sendPoll).unreadTags = s.unreadTags ∧
      (s.sendPoll).pending = s.pending := by
  (repeat' apply And.intro) <;> rfl

@[simp] theorem State.withPending_keeps (s : State) (q : List Instr) :
    (s.withPending q).regs = s.regs ∧ (s.withPending q).sc = s.sc ∧ (s.withPending q).comp = s.comp ∧
      (s.withPending q).form = s.form ∧ (s.withPending q).store = s.store ∧ (s.withPending q).builder = s.builder ∧
      (s.withPending q).cache = s.cache ∧ (s.withPending q).mtu = s.mtu ∧ (s.withPending q).writer = s.writer ∧
      (s.withPending q).engine = s.engine ∧ (s.withPending q).counts = s.counts ∧ (s.withPending q).panel = s.panel ∧
      (s.withPending q).hostMem = s.hostMem ∧ (s.withPending q).linkOut = s.linkOut ∧ (s.withPending q).now = s.now := by
  (repeat' apply And.intro) <;> rfl

/-! ## Reading back a stream and a slot -/

@[simp] theorem State.stream_modStream_same (s : State) (n : Fin 8) (f : StreamRec → StreamRec) :
    (s.modStream n f).stream n = f (s.stream n) := by
  simp [State.stream, State.modStream]

theorem State.stream_modStream (s : State) (n m : Fin 8) (f : StreamRec → StreamRec) :
    (s.modStream n f).stream m = if n = m then f (s.stream m) else s.stream m := by
  by_cases h : n = m
  · subst h; simp
  · have h' : n.val ≠ m.val := fun e => h (Fin.ext e)
    simp [State.stream, State.modStream, h, h']

@[simp] theorem State.slot_modSlot_same (s : State) (i : Fin 4) (f : Slot → Slot) :
    (s.modSlot i f).slot i = f (s.slot i) := by
  simp [State.slot, State.modSlot]

theorem State.slot_modSlot (s : State) (i j : Fin 4) (f : Slot → Slot) :
    (s.modSlot i f).slot j = if i = j then f (s.slot j) else s.slot j := by
  by_cases h : i = j
  · subst h; simp
  · have h' : i.val ≠ j.val := fun e => h (Fin.ext e)
    simp [State.slot, State.modSlot, h, h']

theorem State.slot_clearSlot (s : State) (i j : Fin 4) :
    (s.clearSlot i).slot j = if i = j then Slot.free else s.slot j := by
  by_cases h : i = j
  · subst h; simp [State.slot, State.clearSlot]
  · have h' : i.val ≠ j.val := fun e => h (Fin.ext e)
    simp [State.slot, State.clearSlot, h, h']

/-- `stream` looks at the Stream Controller only. -/
theorem State.stream_congr {s t : State} (h : s.sc = t.sc) (n : Fin 8) : s.stream n = t.stream n := by
  simp [State.stream, h]

/-- `slot` looks at the Page Store only. -/
theorem State.slot_congr {s t : State} (h : s.store = t.store) (i : Fin 4) : s.slot i = t.slot i := by
  simp [State.slot, h]

@[simp] theorem State.stream_ask (s : State) (o : Owed) (n : Fin 8) : (s.ask o).stream n = s.stream n :=
  State.stream_congr (by simp) n

@[simp] theorem State.stream_askDescriptor (s : State) (n : Fin 8) (e : Bool) (m : Fin 8) :
    (s.askDescriptor n e).stream m = s.stream m :=
  State.stream_congr (by simp) m

/-- The owner is told by the Stream Controller alone. -/
theorem State.owner_congr {s t : State} (h : s.sc = t.sc) : s.owner = t.owner := by
  have e : s.stream = t.stream := funext fun n => State.stream_congr h n
  unfold State.owner
  rw [e]

end Sys2Proof.Machine
end

