-- ==== Sys2Proof/Laws/Frames.lean ====
section
/-! SUPPORT. What each operation of a block leaves as it was, field by field: the frame of every shared operation. -/

namespace Sys2Proof.Machine

@[simp] theorem State.raise_keeps (s : State) (b : BitVec 11) :
    (s.raise b).sc = s.sc ∧ (s.raise b).comp = s.comp ∧ (s.raise b).form = s.form ∧
      (s.raise b).store = s.store ∧ (s.raise b).builder = s.builder ∧ (s.raise b).cache = s.cache ∧
      (s.raise b).mtu = s.mtu ∧ (s.raise b).writer = s.writer ∧ (s.raise b).engine = s.engine ∧
      (s.raise b).counts = s.counts ∧ (s.raise b).panel = s.panel ∧ (s.raise b).hostMem = s.hostMem ∧
      (s.raise b).linkOut = s.linkOut ∧ (s.raise b).now = s.now ∧ (s.raise b).pending = s.pending := by
  unfold State.raise
  try dsimp only
  (repeat' split) <;> simp

@[simp] theorem State.enterState_keeps (s : State) (n : Fin 8) (st : StreamState) :
    (s.enterState n st).regs = s.regs ∧ (s.enterState n st).comp = s.comp ∧ (s.enterState n st).form = s.form ∧
      (s.enterState n st).store = s.store ∧ (s.enterState n st).builder = s.builder ∧ (s.enterState n st).cache = s.cache ∧
      (s.enterState n st).mtu = s.mtu ∧ (s.enterState n st).engine = s.engine ∧ (s.enterState n st).counts = s.counts ∧
      (s.enterState n st).panel = s.panel ∧ (s.enterState n st).hostMem = s.hostMem ∧ (s.enterState n st).linkOut = s.linkOut ∧
      (s.enterState n st).now = s.now ∧ (s.enterState n st).pending = s.pending := by
  unfold State.enterState
  try dsimp only
  (repeat' split) <;> simp

@[simp] theorem State.enterHeld_keeps (s : State) (r : HoldReason) :
    (s.enterHeld r).sc = s.sc ∧ (s.enterHeld r).comp = s.comp ∧ (s.enterHeld r).form = s.form ∧
      (s.enterHeld r).store = s.store ∧ (s.enterHeld r).builder = s.builder ∧ (s.enterHeld r).cache = s.cache ∧
      (s.enterHeld r).mtu = s.mtu ∧ (s.enterHeld r).writer = s.writer ∧ (s.enterHeld r).counts = s.counts ∧
      (s.enterHeld r).panel = s.panel ∧ (s.enterHeld r).hostMem = s.hostMem ∧ (s.enterHeld r).linkOut = s.linkOut ∧
      (s.enterHeld r).now = s.now ∧ (s.enterHeld r).pending = s.pending := by
  unfold State.enterHeld
  try dsimp only
  (repeat' split) <;> simp

@[simp] theorem State.moveGate_keeps (s : State) :
    (s.moveGate).sc = s.sc ∧ (s.moveGate).comp = s.comp ∧ (s.moveGate).form = s.form ∧ (s.moveGate).store = s.store ∧
      (s.moveGate).builder = s.builder ∧ (s.moveGate).cache = s.cache ∧ (s.moveGate).mtu = s.mtu ∧
      (s.moveGate).writer = s.writer ∧ (s.moveGate).counts = s.counts ∧ (s.moveGate).panel = s.panel ∧
      (s.moveGate).hostMem = s.hostMem ∧ (s.moveGate).linkOut = s.linkOut ∧ (s.moveGate).now = s.now ∧
      (s.moveGate).pending = s.pending := by
  unfold State.moveGate
  dsimp only
  split <;> simp

@[simp] theorem State.enterGate_keeps (s : State) :
    (s.enterGate).sc = s.sc ∧ (s.enterGate).comp = s.comp ∧ (s.enterGate).form = s.form ∧
      (s.enterGate).store = s.store ∧ (s.enterGate).builder = s.builder ∧ (s.enterGate).cache = s.cache ∧
      (s.enterGate).mtu = s.mtu ∧ (s.enterGate).writer = s.writer ∧ (s.enterGate).counts = s.counts ∧
      (s.enterGate).panel = s.panel ∧ (s.enterGate).hostMem = s.hostMem ∧ (s.enterGate).linkOut = s.linkOut ∧
      (s.enterGate).now = s.now ∧ (s.enterGate).pending = s.pending := by
  unfold State.enterGate
  try dsimp only
  (repeat' split) <;> simp

@[simp] theorem State.reportMark_keeps (s : State) (n : Fin 8) (t : Option Word32) :
    (s.reportMark n t).regs = s.regs ∧ (s.reportMark n t).comp = s.comp ∧ (s.reportMark n t).form = s.form ∧
      (s.reportMark n t).store = s.store ∧ (s.reportMark n t).builder = s.builder ∧ (s.reportMark n t).cache = s.cache ∧
      (s.reportMark n t).mtu = s.mtu ∧ (s.reportMark n t).engine = s.engine ∧ (s.reportMark n t).counts = s.counts ∧
      (s.reportMark n t).panel = s.panel ∧ (s.reportMark n t).hostMem = s.hostMem ∧ (s.reportMark n t).linkOut = s.linkOut ∧
      (s.reportMark n t).now = s.now ∧ (s.reportMark n t).pending = s.pending := by
  cases t <;> simp [State.reportMark]

@[simp] theorem State.closeSteps_keeps (s : State) (i : Fin 4) (e : Nat) :
    (s.closeSteps i e).regs = s.regs ∧ (s.closeSteps i e).comp = s.comp ∧ (s.closeSteps i e).form = s.form ∧
      (s.closeSteps i e).builder = s.builder ∧ (s.closeSteps i e).cache = s.cache ∧ (s.closeSteps i e).mtu = s.mtu ∧
      (s.closeSteps i e).writer = s.writer ∧ (s.closeSteps i e).engine = s.engine ∧ (s.closeSteps i e).counts = s.counts ∧
      (s.closeSteps i e).panel = s.panel ∧ (s.closeSteps i e).hostMem = s.hostMem ∧ (s.closeSteps i e).linkOut = s.linkOut ∧
      (s.closeSteps i e).now = s.now ∧ (s.closeSteps i e).pending = s.pending := by
  unfold State.closeSteps
  try dsimp only
  (repeat' split) <;> simp

@[simp] theorem State.closeFinal_keeps (s : State) (i : Fin 4) (j : Option JobEnd) :
    (s.closeFinal i j).regs = s.regs ∧ (s.closeFinal i j).comp = s.comp ∧ (s.closeFinal i j).form = s.form ∧
      (s.closeFinal i j).builder = s.builder ∧ (s.closeFinal i j).cache = s.cache ∧ (s.closeFinal i j).mtu = s.mtu ∧
      (s.closeFinal i j).writer = s.writer ∧ (s.closeFinal i j).engine = s.engine ∧ (s.closeFinal i j).counts = s.counts ∧
      (s.closeFinal i j).panel = s.panel ∧ (s.closeFinal i j).hostMem = s.hostMem ∧ (s.closeFinal i j).linkOut = s.linkOut ∧
      (s.closeFinal i j).now = s.now ∧ (s.closeFinal i j).pending = s.pending := by
  unfold State.closeFinal
  try dsimp only
  (repeat' split) <;> simp

@[simp] theorem State.closeFlush_keeps (s : State) (i : Fin 4) :
    (s.closeFlush i).regs = s.regs ∧ (s.closeFlush i).comp = s.comp ∧ (s.closeFlush i).form = s.form ∧
      (s.closeFlush i).builder = s.builder ∧ (s.closeFlush i).cache = s.cache ∧ (s.closeFlush i).mtu = s.mtu ∧
      (s.closeFlush i).writer = s.writer ∧ (s.closeFlush i).engine = s.engine ∧ (s.closeFlush i).counts = s.counts ∧
      (s.closeFlush i).panel = s.panel ∧ (s.closeFlush i).hostMem = s.hostMem ∧ (s.closeFlush i).linkOut = s.linkOut ∧
      (s.closeFlush i).now = s.now ∧ (s.closeFlush i).pending = s.pending := by
  unfold State.closeFlush
  try dsimp only
  (repeat' split) <;> simp

@[simp] theorem State.pageExit_keeps (s : State) (n : Fin 8) (sl : Slot) :
    (s.pageExit n sl).regs = s.regs ∧ (s.pageExit n sl).comp = s.comp ∧ (s.pageExit n sl).form = s.form ∧
      (s.pageExit n sl).store = s.store ∧ (s.pageExit n sl).builder = s.builder ∧ (s.pageExit n sl).cache = s.cache ∧
      (s.pageExit n sl).mtu = s.mtu ∧ (s.pageExit n sl).engine = s.engine ∧ (s.pageExit n sl).counts = s.counts ∧
      (s.pageExit n sl).panel = s.panel ∧ (s.pageExit n sl).hostMem = s.hostMem ∧ (s.pageExit n sl).linkOut = s.linkOut ∧
      (s.pageExit n sl).now = s.now ∧ (s.pageExit n sl).pending = s.pending := by
  unfold State.pageExit
  try dsimp only
  (repeat' split) <;> simp

@[simp] theorem State.freeExited_keeps (s : State) (i : Fin 4) :
    (s.freeExited i).regs = s.regs ∧ (s.freeExited i).comp = s.comp ∧ (s.freeExited i).form = s.form ∧
      (s.freeExited i).builder = s.builder ∧ (s.freeExited i).cache = s.cache ∧ (s.freeExited i).mtu = s.mtu ∧
      (s.freeExited i).engine = s.engine ∧ (s.freeExited i).panel = s.panel ∧ (s.freeExited i).hostMem = s.hostMem ∧
      (s.freeExited i).linkOut = s.linkOut ∧ (s.freeExited i).now = s.now ∧ (s.freeExited i).pending = s.pending := by
  unfold State.freeExited
  try dsimp only
  (repeat' split) <;> simp

@[simp] theorem State.releaseUnused_keeps (s : State) (i : Fin 4) (j : Option JobEnd) :
    (s.releaseUnused i j).regs = s.regs ∧ (s.releaseUnused i j).comp = s.comp ∧ (s.releaseUnused i j).form = s.form ∧
      (s.releaseUnused i j).builder = s.builder ∧ (s.releaseUnused i j).cache = s.cache ∧ (s.releaseUnused i j).mtu = s.mtu ∧
      (s.releaseUnused i j).engine = s.engine ∧ (s.releaseUnused i j).counts = s.counts ∧ (s.releaseUnused i j).panel = s.panel ∧
      (s.releaseUnused i j).hostMem = s.hostMem ∧ (s.releaseUnused i j).linkOut = s.linkOut ∧ (s.releaseUnused i j).now = s.now ∧
      (s.releaseUnused i j).pending = s.pending := by
  unfold State.releaseUnused
  try dsimp only
  (repeat' split) <;> simp

@[simp] theorem State.revertSlot_keeps (s : State) (i : Fin 4) :
    (s.revertSlot i).regs = s.regs ∧ (s.revertSlot i).comp = s.comp ∧ (s.revertSlot i).form = s.form ∧
      (s.revertSlot i).builder = s.builder ∧ (s.revertSlot i).cache = s.cache ∧ (s.revertSlot i).mtu = s.mtu ∧
      (s.revertSlot i).writer = s.writer ∧ (s.revertSlot i).engine = s.engine ∧ (s.revertSlot i).counts = s.counts ∧
      (s.revertSlot i).panel = s.panel ∧ (s.revertSlot i).hostMem = s.hostMem ∧ (s.revertSlot i).linkOut = s.linkOut ∧
      (s.revertSlot i).now = s.now ∧ (s.revertSlot i).pending = s.pending := by
  unfold State.revertSlot
  try dsimp only
  (repeat' split) <;> simp

@[simp] theorem State.revertSlots_keeps (s : State) :
    (s.revertSlots).regs = s.regs ∧ (s.revertSlots).comp = s.comp ∧ (s.revertSlots).form = s.form ∧
      (s.revertSlots).builder = s.builder ∧ (s.revertSlots).cache = s.cache ∧ (s.revertSlots).mtu = s.mtu ∧
      (s.revertSlots).writer = s.writer ∧ (s.revertSlots).engine = s.engine ∧ (s.revertSlots).counts = s.counts ∧
      (s.revertSlots).panel = s.panel ∧ (s.revertSlots).hostMem = s.hostMem ∧ (s.revertSlots).linkOut = s.linkOut ∧
      (s.revertSlots).now = s.now ∧ (s.revertSlots).pending = s.pending := by
  simp [State.revertSlots, allSlots]

@[simp] theorem State.drawBand_keeps (s : State) :
    (s.drawBand).regs = s.regs ∧ (s.drawBand).sc = s.sc ∧ (s.drawBand).comp = s.comp ∧
      (s.drawBand).form = s.form ∧ (s.drawBand).store = s.store ∧ (s.drawBand).mtu = s.mtu ∧
      (s.drawBand).writer = s.writer ∧ (s.drawBand).engine = s.engine ∧ (s.drawBand).counts = s.counts ∧
      (s.drawBand).panel = s.panel ∧ (s.drawBand).hostMem = s.hostMem ∧ (s.drawBand).linkOut = s.linkOut ∧
      (s.drawBand).now = s.now ∧ (s.drawBand).pending = s.pending := by
  unfold State.drawBand
  try dsimp only
  (repeat' split) <;> simp

@[simp] theorem State.drawWaiting_keeps (s : State) (d : Cell → Nat → Nat → List Nat) :
    (s.drawWaiting d).regs = s.regs ∧ (s.drawWaiting d).sc = s.sc ∧ (s.drawWaiting d).comp = s.comp ∧
      (s.drawWaiting d).form = s.form ∧ (s.drawWaiting d).store = s.store ∧ (s.drawWaiting d).cache = s.cache ∧
      (s.drawWaiting d).mtu = s.mtu ∧ (s.drawWaiting d).writer = s.writer ∧ (s.drawWaiting d).engine = s.engine ∧
      (s.drawWaiting d).counts = s.counts ∧ (s.drawWaiting d).panel = s.panel ∧ (s.drawWaiting d).hostMem = s.hostMem ∧
      (s.drawWaiting d).linkOut = s.linkOut ∧ (s.drawWaiting d).now = s.now ∧ (s.drawWaiting d).pending = s.pending := by
  unfold State.drawWaiting
  try dsimp only
  (repeat' split) <;> simp

@[simp] theorem State.judgeBand_keeps (s : State) :
    (s.judgeBand).regs = s.regs ∧ (s.judgeBand).sc = s.sc ∧ (s.judgeBand).comp = s.comp ∧
      (s.judgeBand).form = s.form ∧ (s.judgeBand).store = s.store ∧ (s.judgeBand).cache = s.cache ∧
      (s.judgeBand).mtu = s.mtu ∧ (s.judgeBand).writer = s.writer ∧ (s.judgeBand).engine = s.engine ∧
      (s.judgeBand).counts = s.counts ∧ (s.judgeBand).panel = s.panel ∧ (s.judgeBand).hostMem = s.hostMem ∧
      (s.judgeBand).linkOut = s.linkOut ∧ (s.judgeBand).now = s.now ∧ (s.judgeBand).pending = s.pending := by
  unfold State.judgeBand
  try dsimp only
  (repeat' split) <;> simp

@[simp] theorem State.takeSlot_keeps (s : State) (i : Fin 4) (k : Nat) :
    (s.takeSlot i k).regs = s.regs ∧ (s.takeSlot i k).sc = s.sc ∧ (s.takeSlot i k).comp = s.comp ∧
      (s.takeSlot i k).form = s.form ∧ (s.takeSlot i k).store = s.store ∧ (s.takeSlot i k).cache = s.cache ∧
      (s.takeSlot i k).mtu = s.mtu ∧ (s.takeSlot i k).writer = s.writer ∧ (s.takeSlot i k).engine = s.engine ∧
      (s.takeSlot i k).counts = s.counts ∧ (s.takeSlot i k).panel = s.panel ∧ (s.takeSlot i k).hostMem = s.hostMem ∧
      (s.takeSlot i k).linkOut = s.linkOut ∧ (s.takeSlot i k).now = s.now ∧ (s.takeSlot i k).pending = s.pending := by
  unfold State.takeSlot
  try dsimp only
  (repeat' split) <;> simp

@[simp] theorem State.startBand_keeps (s : State) (i : Fin 4) (e : Entry) :
    (s.startBand i e).regs = s.regs ∧ (s.startBand i e).sc = s.sc ∧ (s.startBand i e).comp = s.comp ∧
      (s.startBand i e).form = s.form ∧ (s.startBand i e).cache = s.cache ∧ (s.startBand i e).mtu = s.mtu ∧
      (s.startBand i e).writer = s.writer ∧ (s.startBand i e).engine = s.engine ∧ (s.startBand i e).counts = s.counts ∧
      (s.startBand i e).panel = s.panel ∧ (s.startBand i e).hostMem = s.hostMem ∧ (s.startBand i e).linkOut = s.linkOut ∧
      (s.startBand i e).now = s.now ∧ (s.startBand i e).pending = s.pending := by
  unfold State.startBand
  try dsimp only
  (repeat' split) <;> simp

@[simp] theorem State.beginBand_keeps (s : State) :
    (s.beginBand).regs = s.regs ∧ (s.beginBand).sc = s.sc ∧ (s.beginBand).comp = s.comp ∧
      (s.beginBand).form = s.form ∧ (s.beginBand).cache = s.cache ∧ (s.beginBand).mtu = s.mtu ∧
      (s.beginBand).writer = s.writer ∧ (s.beginBand).engine = s.engine ∧ (s.beginBand).counts = s.counts ∧
      (s.beginBand).panel = s.panel ∧ (s.beginBand).hostMem = s.hostMem ∧ (s.beginBand).linkOut = s.linkOut ∧
      (s.beginBand).now = s.now ∧ (s.beginBand).pending = s.pending := by
  unfold State.beginBand
  try dsimp only
  (repeat' split) <;> simp

@[simp] theorem State.finishBand_keeps (s : State) :
    (s.finishBand).regs = s.regs ∧ (s.finishBand).sc = s.sc ∧ (s.finishBand).comp = s.comp ∧
      (s.finishBand).form = s.form ∧ (s.finishBand).store = s.store ∧ (s.finishBand).mtu = s.mtu ∧
      (s.finishBand).writer = s.writer ∧ (s.finishBand).engine = s.engine ∧ (s.finishBand).counts = s.counts ∧
      (s.finishBand).panel = s.panel ∧ (s.finishBand).hostMem = s.hostMem ∧ (s.finishBand).linkOut = s.linkOut ∧
      (s.finishBand).now = s.now ∧ (s.finishBand).pending = s.pending := by
  unfold State.finishBand
  try dsimp only
  (repeat' split) <;> simp

@[simp] theorem State.cacheBoundary_keeps (s : State) :
    (s.cacheBoundary).regs = s.regs ∧ (s.cacheBoundary).sc = s.sc ∧ (s.cacheBoundary).comp = s.comp ∧
      (s.cacheBoundary).form = s.form ∧ (s.cacheBoundary).store = s.store ∧ (s.cacheBoundary).builder = s.builder ∧
      (s.cacheBoundary).mtu = s.mtu ∧ (s.cacheBoundary).writer = s.writer ∧ (s.cacheBoundary).engine = s.engine ∧
      (s.cacheBoundary).counts = s.counts ∧ (s.cacheBoundary).panel = s.panel ∧ (s.cacheBoundary).hostMem = s.hostMem ∧
      (s.cacheBoundary).linkOut = s.linkOut ∧ (s.cacheBoundary).now = s.now ∧ (s.cacheBoundary).pending = s.pending := by
  unfold State.cacheBoundary
  try dsimp only
  (repeat' split) <;> simp

@[simp] theorem State.runBands_keeps (k : Nat) (s : State) :
    (State.runBands k s).regs = s.regs ∧ (State.runBands k s).sc = s.sc ∧ (State.runBands k s).comp = s.comp ∧
      (State.runBands k s).form = s.form ∧ (State.runBands k s).mtu = s.mtu ∧ (State.runBands k s).writer = s.writer ∧
      (State.runBands k s).engine = s.engine ∧ (State.runBands k s).counts = s.counts ∧ (State.runBands k s).panel = s.panel ∧
      (State.runBands k s).hostMem = s.hostMem ∧ (State.runBands k s).linkOut = s.linkOut ∧ (State.runBands k s).now = s.now ∧
      (State.runBands k s).pending = s.pending := by
  induction k generalizing s with
  | zero => simp [State.runBands]
  | succ k ih =>
    simp only [State.runBands]
    split <;> simp [ih]

@[simp] theorem State.leaveLookup_keeps (s : State) :
    (s.leaveLookup).regs = s.regs ∧ (s.leaveLookup).sc = s.sc ∧ (s.leaveLookup).comp = s.comp ∧
      (s.leaveLookup).form = s.form ∧ (s.leaveLookup).store = s.store ∧ (s.leaveLookup).builder = s.builder ∧
      (s.leaveLookup).mtu = s.mtu ∧ (s.leaveLookup).writer = s.writer ∧ (s.leaveLookup).engine = s.engine ∧
      (s.leaveLookup).counts = s.counts ∧ (s.leaveLookup).panel = s.panel ∧ (s.leaveLookup).hostMem = s.hostMem ∧
      (s.leaveLookup).linkOut = s.linkOut ∧ (s.leaveLookup).now = s.now ∧ (s.leaveLookup).pending = s.pending := by
  unfold State.leaveLookup
  try dsimp only
  (repeat' split) <;> simp

@[simp] theorem State.dropWork_keeps (s : State) :
    (s.dropWork).regs = s.regs ∧ (s.dropWork).sc = s.sc ∧ (s.dropWork).comp = s.comp ∧
      (s.dropWork).form = s.form ∧ (s.dropWork).store = s.store ∧ (s.dropWork).mtu = s.mtu ∧
      (s.dropWork).writer = s.writer ∧ (s.dropWork).engine = s.engine ∧ (s.dropWork).counts = s.counts ∧
      (s.dropWork).panel = s.panel ∧ (s.dropWork).hostMem = s.hostMem ∧ (s.dropWork).linkOut = s.linkOut ∧
      (s.dropWork).now = s.now ∧ (s.dropWork).pending = s.pending := by
  unfold State.dropWork
  try dsimp only
  (repeat' split) <;> simp

@[simp] theorem State.dropBuilder_keeps (s : State) :
    (s.dropBuilder).regs = s.regs ∧ (s.dropBuilder).sc = s.sc ∧ (s.dropBuilder).comp = s.comp ∧
      (s.dropBuilder).form = s.form ∧ (s.dropBuilder).store = s.store ∧ (s.dropBuilder).mtu = s.mtu ∧
      (s.dropBuilder).writer = s.writer ∧ (s.dropBuilder).engine = s.engine ∧ (s.dropBuilder).counts = s.counts ∧
      (s.dropBuilder).panel = s.panel ∧ (s.dropBuilder).hostMem = s.hostMem ∧ (s.dropBuilder).linkOut = s.linkOut ∧
      (s.dropBuilder).now = s.now ∧ (s.dropBuilder).pending = s.pending := by
  unfold State.dropBuilder
  try dsimp only
  (repeat' split) <;> simp

@[simp] theorem State.dropRebuild_keeps (s : State) :
    (s.dropRebuild).regs = s.regs ∧ (s.dropRebuild).sc = s.sc ∧ (s.dropRebuild).comp = s.comp ∧
      (s.dropRebuild).form = s.form ∧ (s.dropRebuild).store = s.store ∧ (s.dropRebuild).mtu = s.mtu ∧
      (s.dropRebuild).writer = s.writer ∧ (s.dropRebuild).engine = s.engine ∧ (s.dropRebuild).counts = s.counts ∧
      (s.dropRebuild).panel = s.panel ∧ (s.dropRebuild).hostMem = s.hostMem ∧ (s.dropRebuild).linkOut = s.linkOut ∧
      (s.dropRebuild).now = s.now ∧ (s.dropRebuild).pending = s.pending := by
  unfold State.dropRebuild
  try dsimp only
  (repeat' split) <;> simp

@[simp] theorem State.rebuild_keeps (s : State) (m : SentMsg) :
    (s.rebuild m).regs = s.regs ∧ (s.rebuild m).sc = s.sc ∧ (s.rebuild m).comp = s.comp ∧
      (s.rebuild m).form = s.form ∧ (s.rebuild m).store = s.store ∧ (s.rebuild m).mtu = s.mtu ∧
      (s.rebuild m).writer = s.writer ∧ (s.rebuild m).engine = s.engine ∧ (s.rebuild m).counts = s.counts ∧
      (s.rebuild m).panel = s.panel ∧ (s.rebuild m).hostMem = s.hostMem ∧ (s.rebuild m).linkOut = s.linkOut ∧
      (s.rebuild m).now = s.now ∧ (s.rebuild m).pending = s.pending := by
  unfold State.rebuild
  try dsimp only
  (repeat' split) <;> simp

@[simp] theorem State.orderRebuild_keeps (s : State) (m : SentMsg) :
    (s.orderRebuild m).regs = s.regs ∧ (s.orderRebuild m).sc = s.sc ∧ (s.orderRebuild m).comp = s.comp ∧
      (s.orderRebuild m).form = s.form ∧ (s.orderRebuild m).store = s.store ∧ (s.orderRebuild m).mtu = s.mtu ∧
      (s.orderRebuild m).writer = s.writer ∧ (s.orderRebuild m).engine = s.engine ∧
      (s.orderRebuild m).counts = s.counts ∧ (s.orderRebuild m).panel = s.panel ∧
      (s.orderRebuild m).hostMem = s.hostMem ∧ (s.orderRebuild m).linkOut = s.linkOut ∧
      (s.orderRebuild m).now = s.now ∧ (s.orderRebuild m).pending = s.pending := by
  unfold State.orderRebuild
  dsimp only
  split <;> simp

@[simp] theorem State.startRebuild_keeps (k : Nat) (s : State) :
    (s.startRebuild k).regs = s.regs ∧ (s.startRebuild k).sc = s.sc ∧ (s.startRebuild k).comp = s.comp ∧
      (s.startRebuild k).form = s.form ∧ (s.startRebuild k).store = s.store ∧ (s.startRebuild k).mtu = s.mtu ∧
      (s.startRebuild k).writer = s.writer ∧ (s.startRebuild k).engine = s.engine ∧
      (s.startRebuild k).counts = s.counts ∧ (s.startRebuild k).panel = s.panel ∧
      (s.startRebuild k).hostMem = s.hostMem ∧ (s.startRebuild k).linkOut = s.linkOut ∧
      (s.startRebuild k).now = s.now ∧ (s.startRebuild k).pending = s.pending := by
  induction k generalizing s with
  | zero => simp [State.startRebuild]
  | succ k ih =>
    simp only [State.startRebuild]
    (repeat' split) <;> simp [ih]

@[simp] theorem State.revertAll_keeps (s : State) :
    (s.revertAll).regs = s.regs ∧ (s.revertAll).comp = s.comp ∧ (s.revertAll).form = s.form ∧
      (s.revertAll).mtu = s.mtu ∧ (s.revertAll).writer = s.writer ∧ (s.revertAll).counts = s.counts ∧
      (s.revertAll).panel = s.panel ∧ (s.revertAll).hostMem = s.hostMem ∧ (s.revertAll).linkOut = s.linkOut ∧
      (s.revertAll).now = s.now ∧ (s.revertAll).pending = s.pending := by
  unfold State.revertAll
  try dsimp only
  (repeat' split) <;> simp

@[simp] theorem State.takeJam_keeps (s : State) :
    (s.takeJam).comp = s.comp ∧ (s.takeJam).form = s.form ∧ (s.takeJam).mtu = s.mtu ∧
      (s.takeJam).writer = s.writer ∧ (s.takeJam).counts = s.counts ∧ (s.takeJam).hostMem = s.hostMem ∧
      (s.takeJam).linkOut = s.linkOut ∧ (s.takeJam).now = s.now ∧ (s.takeJam).pending = s.pending := by
  unfold State.takeJam
  try dsimp only
  (repeat' split) <;> simp

@[simp] theorem State.enterOffline_keeps (s : State) :
    (s.enterOffline).comp = s.comp ∧ (s.enterOffline).form = s.form ∧ (s.enterOffline).mtu = s.mtu ∧
      (s.enterOffline).writer = s.writer ∧ (s.enterOffline).counts = s.counts ∧ (s.enterOffline).hostMem = s.hostMem ∧
      (s.enterOffline).linkOut = s.linkOut ∧ (s.enterOffline).now = s.now ∧ (s.enterOffline).pending = s.pending := by
  unfold State.enterOffline
  try dsimp only
  (repeat' split) <;> simp

@[simp] theorem State.discardHalt_keeps (s : State) :
    (s.discardHalt).regs = s.regs ∧ (s.discardHalt).comp = s.comp ∧ (s.discardHalt).form = s.form ∧
      (s.discardHalt).mtu = s.mtu ∧ (s.discardHalt).writer = s.writer ∧ (s.discardHalt).counts = s.counts ∧
      (s.discardHalt).panel = s.panel ∧ (s.discardHalt).hostMem = s.hostMem ∧ (s.discardHalt).now = s.now ∧
      (s.discardHalt).pending = s.pending := by
  unfold State.discardHalt
  try dsimp only
  (repeat' split) <;> simp

/-- Clearing several slots. -/
@[simp] theorem State.foldl_clearSlot_keeps (l : List (Fin 4)) (s : State) :
    (l.foldl State.clearSlot s).regs = s.regs ∧ (l.foldl State.clearSlot s).sc = s.sc ∧ (l.foldl State.clearSlot s).comp = s.comp ∧
      (l.foldl State.clearSlot s).form = s.form ∧ (l.foldl State.clearSlot s).builder = s.builder ∧ (l.foldl State.clearSlot s).cache = s.cache ∧
      (l.foldl State.clearSlot s).mtu = s.mtu ∧ (l.foldl State.clearSlot s).writer = s.writer ∧ (l.foldl State.clearSlot s).engine = s.engine ∧
      (l.foldl State.clearSlot s).counts = s.counts ∧ (l.foldl State.clearSlot s).panel = s.panel ∧ (l.foldl State.clearSlot s).hostMem = s.hostMem ∧
      (l.foldl State.clearSlot s).linkOut = s.linkOut ∧ (l.foldl State.clearSlot s).now = s.now ∧ (l.foldl State.clearSlot s).pending = s.pending := by
  induction l generalizing s with
  | nil => simp
  | cons a l ih => simp [ih]

@[simp] theorem State.discardSlots_keeps (s : State) (n : Fin 8) :
    (s.discardSlots n).regs = s.regs ∧ (s.discardSlots n).comp = s.comp ∧ (s.discardSlots n).form = s.form ∧
      (s.discardSlots n).mtu = s.mtu ∧ (s.discardSlots n).writer = s.writer ∧ (s.discardSlots n).counts = s.counts ∧
      (s.discardSlots n).panel = s.panel ∧ (s.discardSlots n).hostMem = s.hostMem ∧ (s.discardSlots n).now = s.now ∧
      (s.discardSlots n).pending = s.pending := by
  unfold State.discardSlots
  dsimp only
  (repeat' split) <;> simp

@[simp] theorem State.alignFor_keeps (s : State) (m : Message) :
    (s.alignFor m).regs = s.regs ∧ (s.alignFor m).sc = s.sc ∧ (s.alignFor m).comp = s.comp ∧
      (s.alignFor m).form = s.form ∧ (s.alignFor m).store = s.store ∧ (s.alignFor m).builder = s.builder ∧
      (s.alignFor m).cache = s.cache ∧ (s.alignFor m).mtu = s.mtu ∧ (s.alignFor m).writer = s.writer ∧
      (s.alignFor m).counts = s.counts ∧ (s.alignFor m).panel = s.panel ∧ (s.alignFor m).hostMem = s.hostMem ∧
      (s.alignFor m).now = s.now ∧ (s.alignFor m).pending = s.pending := by
  unfold State.alignFor
  try dsimp only
  (repeat' split) <;> simp

@[simp] theorem State.numberPage_keeps (s : State) (i : Fin 4) (m : Message) :
    (s.numberPage i m).regs = s.regs ∧ (s.numberPage i m).sc = s.sc ∧ (s.numberPage i m).comp = s.comp ∧
      (s.numberPage i m).form = s.form ∧ (s.numberPage i m).builder = s.builder ∧ (s.numberPage i m).cache = s.cache ∧
      (s.numberPage i m).mtu = s.mtu ∧ (s.numberPage i m).writer = s.writer ∧ (s.numberPage i m).counts = s.counts ∧
      (s.numberPage i m).panel = s.panel ∧ (s.numberPage i m).hostMem = s.hostMem ∧ (s.numberPage i m).linkOut = s.linkOut ∧
      (s.numberPage i m).now = s.now ∧ (s.numberPage i m).pending = s.pending := by
  unfold State.numberPage
  try dsimp only
  (repeat' split) <;> simp

@[simp] theorem State.advanceBuilder_keeps (s : State) (i : Fin 4) (r : List Message) :
    (s.advanceBuilder i r).regs = s.regs ∧ (s.advanceBuilder i r).sc = s.sc ∧ (s.advanceBuilder i r).comp = s.comp ∧
      (s.advanceBuilder i r).form = s.form ∧ (s.advanceBuilder i r).store = s.store ∧ (s.advanceBuilder i r).cache = s.cache ∧
      (s.advanceBuilder i r).mtu = s.mtu ∧ (s.advanceBuilder i r).writer = s.writer ∧ (s.advanceBuilder i r).engine = s.engine ∧
      (s.advanceBuilder i r).counts = s.counts ∧ (s.advanceBuilder i r).panel = s.panel ∧ (s.advanceBuilder i r).hostMem = s.hostMem ∧
      (s.advanceBuilder i r).linkOut = s.linkOut ∧ (s.advanceBuilder i r).now = s.now ∧ (s.advanceBuilder i r).pending = s.pending := by
  unfold State.advanceBuilder
  try dsimp only
  (repeat' split) <;> simp

@[simp] theorem State.takeMessage_keeps (s : State) (m : Message) (i : Fin 4) (r : List Message) :
    (s.takeMessage m i r).regs = s.regs ∧ (s.takeMessage m i r).sc = s.sc ∧ (s.takeMessage m i r).comp = s.comp ∧
      (s.takeMessage m i r).form = s.form ∧ (s.takeMessage m i r).cache = s.cache ∧ (s.takeMessage m i r).mtu = s.mtu ∧
      (s.takeMessage m i r).writer = s.writer ∧ (s.takeMessage m i r).hostMem = s.hostMem ∧ (s.takeMessage m i r).now = s.now ∧
      (s.takeMessage m i r).pending = s.pending := by
  unfold State.takeMessage
  try dsimp only
  (repeat' split) <;> simp

@[simp] theorem State.resend_keeps (s : State) (o : SentMsg) (m : Message) :
    (s.resend o m).regs = s.regs ∧ (s.resend o m).sc = s.sc ∧ (s.resend o m).comp = s.comp ∧
      (s.resend o m).form = s.form ∧ (s.resend o m).store = s.store ∧ (s.resend o m).builder = s.builder ∧
      (s.resend o m).cache = s.cache ∧ (s.resend o m).mtu = s.mtu ∧ (s.resend o m).writer = s.writer ∧
      (s.resend o m).hostMem = s.hostMem ∧ (s.resend o m).now = s.now ∧ (s.resend o m).pending = s.pending := by
  unfold State.resend
  try dsimp only
  (repeat' split) <;> simp

@[simp] theorem State.takeRebuilt_keeps (s : State) (r : RebuiltOffer) :
    (s.takeRebuilt r).regs = s.regs ∧ (s.takeRebuilt r).sc = s.sc ∧ (s.takeRebuilt r).comp = s.comp ∧
      (s.takeRebuilt r).form = s.form ∧ (s.takeRebuilt r).store = s.store ∧ (s.takeRebuilt r).cache = s.cache ∧
      (s.takeRebuilt r).mtu = s.mtu ∧ (s.takeRebuilt r).writer = s.writer ∧ (s.takeRebuilt r).hostMem = s.hostMem ∧
      (s.takeRebuilt r).now = s.now ∧ (s.takeRebuilt r).pending = s.pending := by
  unfold State.takeRebuilt
  try dsimp only
  (repeat' split) <;> simp

@[simp] theorem State.handOver_keeps (s : State) :
    (s.handOver).regs = s.regs ∧ (s.handOver).sc = s.sc ∧ (s.handOver).comp = s.comp ∧
      (s.handOver).form = s.form ∧ (s.handOver).cache = s.cache ∧ (s.handOver).mtu = s.mtu ∧
      (s.handOver).writer = s.writer ∧ (s.handOver).hostMem = s.hostMem ∧ (s.handOver).now = s.now ∧
      (s.handOver).pending = s.pending := by
  unfold State.handOver
  try dsimp only
  (repeat' split) <;> simp

@[simp] theorem State.resendSlews_keeps (k : Nat) (s : State) :
    (State.resendSlews k s).regs = s.regs ∧ (State.resendSlews k s).sc = s.sc ∧ (State.resendSlews k s).comp = s.comp ∧
      (State.resendSlews k s).form = s.form ∧ (State.resendSlews k s).store = s.store ∧ (State.resendSlews k s).builder = s.builder ∧
      (State.resendSlews k s).cache = s.cache ∧ (State.resendSlews k s).mtu = s.mtu ∧ (State.resendSlews k s).writer = s.writer ∧
      (State.resendSlews k s).hostMem = s.hostMem ∧ (State.resendSlews k s).now = s.now ∧ (State.resendSlews k s).pending = s.pending := by
  induction k generalizing s with
  | zero => simp [State.resendSlews]
  | succ k ih =>
    simp only [State.resendSlews]
    (repeat' split) <;> simp [ih]

@[simp] theorem State.lineAdvance_keeps (s : State) :
    (s.lineAdvance).regs = s.regs ∧ (s.lineAdvance).sc = s.sc ∧ (s.lineAdvance).comp = s.comp ∧
      (s.lineAdvance).form = s.form ∧ (s.lineAdvance).store = s.store ∧ (s.lineAdvance).builder = s.builder ∧
      (s.lineAdvance).cache = s.cache ∧ (s.lineAdvance).mtu = s.mtu ∧ (s.lineAdvance).writer = s.writer ∧
      (s.lineAdvance).hostMem = s.hostMem ∧ (s.lineAdvance).now = s.now ∧ (s.lineAdvance).pending = s.pending := by
  unfold State.lineAdvance
  try dsimp only
  (repeat' split) <;> simp

@[simp] theorem State.owedAdvance_keeps (s : State) :
    (s.owedAdvance).regs = s.regs ∧ (s.owedAdvance).sc = s.sc ∧ (s.owedAdvance).comp = s.comp ∧
      (s.owedAdvance).form = s.form ∧ (s.owedAdvance).store = s.store ∧ (s.owedAdvance).builder = s.builder ∧
      (s.owedAdvance).cache = s.cache ∧ (s.owedAdvance).mtu = s.mtu ∧ (s.owedAdvance).writer = s.writer ∧
      (s.owedAdvance).hostMem = s.hostMem ∧ (s.owedAdvance).now = s.now ∧ (s.owedAdvance).pending = s.pending := by
  unfold State.owedAdvance
  try dsimp only
  (repeat' split) <;> simp

/-- Freeing several slots at an exit. -/
@[simp] theorem State.foldl_freeExited_keeps (l : List (Fin 4)) (s : State) :
    (l.foldl State.freeExited s).regs = s.regs ∧ (l.foldl State.freeExited s).comp = s.comp ∧ (l.foldl State.freeExited s).form = s.form ∧
      (l.foldl State.freeExited s).builder = s.builder ∧ (l.foldl State.freeExited s).cache = s.cache ∧ (l.foldl State.freeExited s).mtu = s.mtu ∧
      (l.foldl State.freeExited s).engine = s.engine ∧ (l.foldl State.freeExited s).panel = s.panel ∧ (l.foldl State.freeExited s).hostMem = s.hostMem ∧
      (l.foldl State.freeExited s).linkOut = s.linkOut ∧ (l.foldl State.freeExited s).now = s.now ∧ (l.foldl State.freeExited s).pending = s.pending := by
  induction l generalizing s with
  | nil => simp
  | cons a l ih => simp [ih]

@[simp] theorem State.dropStale_keeps (s : State) :
    (s.dropStale).regs = s.regs ∧ (s.dropStale).sc = s.sc ∧ (s.dropStale).comp = s.comp ∧
      (s.dropStale).form = s.form ∧ (s.dropStale).store = s.store ∧ (s.dropStale).mtu = s.mtu ∧
      (s.dropStale).writer = s.writer ∧ (s.dropStale).counts = s.counts ∧ (s.dropStale).panel = s.panel ∧
      (s.dropStale).hostMem = s.hostMem ∧ (s.dropStale).linkOut = s.linkOut ∧ (s.dropStale).now = s.now ∧
      (s.dropStale).pending = s.pending := by
  unfold State.dropStale
  split <;> simp

@[simp] theorem State.takeExit_keeps (s : State) (q : BitVec 8) :
    (s.takeExit q).regs = s.regs ∧ (s.takeExit q).comp = s.comp ∧ (s.takeExit q).form = s.form ∧
      (s.takeExit q).mtu = s.mtu ∧ (s.takeExit q).panel = s.panel ∧ (s.takeExit q).hostMem = s.hostMem ∧
      (s.takeExit q).linkOut = s.linkOut ∧ (s.takeExit q).now = s.now ∧ (s.takeExit q).pending = s.pending := by
  unfold State.takeExit
  (repeat' split) <;> simp

@[simp] theorem State.takeRefusal_keeps (s : State) (q : BitVec 16) :
    (s.takeRefusal q).comp = s.comp ∧ (s.takeRefusal q).form = s.form ∧ (s.takeRefusal q).mtu = s.mtu ∧
      (s.takeRefusal q).writer = s.writer ∧ (s.takeRefusal q).hostMem = s.hostMem ∧ (s.takeRefusal q).now = s.now ∧
      (s.takeRefusal q).pending = s.pending := by
  unfold State.takeRefusal
  try dsimp only
  (repeat' split) <;> simp

@[simp] theorem State.takeAcceptance_keeps (s : State) (q : BitVec 16) :
    (s.takeAcceptance q).regs = s.regs ∧ (s.takeAcceptance q).sc = s.sc ∧ (s.takeAcceptance q).comp = s.comp ∧
      (s.takeAcceptance q).form = s.form ∧ (s.takeAcceptance q).store = s.store ∧ (s.takeAcceptance q).mtu = s.mtu ∧
      (s.takeAcceptance q).writer = s.writer ∧ (s.takeAcceptance q).counts = s.counts ∧ (s.takeAcceptance q).panel = s.panel ∧
      (s.takeAcceptance q).hostMem = s.hostMem ∧ (s.takeAcceptance q).linkOut = s.linkOut ∧ (s.takeAcceptance q).now = s.now ∧
      (s.takeAcceptance q).pending = s.pending := by
  unfold State.takeAcceptance
  try dsimp only
  (repeat' split) <;> simp

@[simp] theorem State.statusJam_keeps (s : State) (c : Condition) :
    (s.statusJam c).comp = s.comp ∧ (s.statusJam c).form = s.form ∧ (s.statusJam c).mtu = s.mtu ∧
      (s.statusJam c).writer = s.writer ∧ (s.statusJam c).counts = s.counts ∧ (s.statusJam c).hostMem = s.hostMem ∧
      (s.statusJam c).linkOut = s.linkOut ∧ (s.statusJam c).now = s.now ∧ (s.statusJam c).pending = s.pending := by
  unfold State.statusJam
  try dsimp only
  (repeat' split) <;> simp

@[simp] theorem State.statusNotReady_keeps (s : State) (c : Condition) :
    (s.statusNotReady c).sc = s.sc ∧ (s.statusNotReady c).comp = s.comp ∧ (s.statusNotReady c).form = s.form ∧
      (s.statusNotReady c).store = s.store ∧ (s.statusNotReady c).builder = s.builder ∧ (s.statusNotReady c).cache = s.cache ∧
      (s.statusNotReady c).mtu = s.mtu ∧ (s.statusNotReady c).writer = s.writer ∧ (s.statusNotReady c).counts = s.counts ∧
      (s.statusNotReady c).panel = s.panel ∧ (s.statusNotReady c).hostMem = s.hostMem ∧ (s.statusNotReady c).linkOut = s.linkOut ∧
      (s.statusNotReady c).now = s.now ∧ (s.statusNotReady c).pending = s.pending := by
  unfold State.statusNotReady
  try dsimp only
  (repeat' split) <;> simp

@[simp] theorem State.statusExit_keeps (s : State) (c : Condition) :
    (s.statusExit c).regs = s.regs ∧ (s.statusExit c).comp = s.comp ∧ (s.statusExit c).form = s.form ∧
      (s.statusExit c).mtu = s.mtu ∧ (s.statusExit c).panel = s.panel ∧ (s.statusExit c).hostMem = s.hostMem ∧
      (s.statusExit c).linkOut = s.linkOut ∧ (s.statusExit c).now = s.now ∧
      (s.statusExit c).pending = s.pending := by
  unfold State.statusExit
  try dsimp only
  (repeat' split) <;> simp

@[simp] theorem State.lostRefusal_keeps (s : State) (a : Bool) :
    (s.lostRefusal a).comp = s.comp ∧ (s.lostRefusal a).form = s.form ∧ (s.lostRefusal a).mtu = s.mtu ∧
      (s.lostRefusal a).writer = s.writer ∧ (s.lostRefusal a).hostMem = s.hostMem ∧ (s.lostRefusal a).now = s.now ∧
      (s.lostRefusal a).pending = s.pending := by
  unfold State.lostRefusal
  try dsimp only
  (repeat' split) <;> simp

@[simp] theorem State.statusHalt_keeps (s : State) (c : Condition) :
    (s.statusHalt c).regs = s.regs ∧ (s.statusHalt c).sc = s.sc ∧ (s.statusHalt c).comp = s.comp ∧
      (s.statusHalt c).form = s.form ∧ (s.statusHalt c).store = s.store ∧ (s.statusHalt c).builder = s.builder ∧
      (s.statusHalt c).cache = s.cache ∧ (s.statusHalt c).mtu = s.mtu ∧ (s.statusHalt c).writer = s.writer ∧
      (s.statusHalt c).counts = s.counts ∧ (s.statusHalt c).panel = s.panel ∧ (s.statusHalt c).hostMem = s.hostMem ∧
      (s.statusHalt c).now = s.now ∧ (s.statusHalt c).pending = s.pending := by
  unfold State.statusHalt
  try dsimp only
  (repeat' split) <;> simp

@[simp] theorem State.answerPoll_keeps (s : State) :
    (s.answerPoll).regs = s.regs ∧ (s.answerPoll).sc = s.sc ∧ (s.answerPoll).comp = s.comp ∧
      (s.answerPoll).form = s.form ∧ (s.answerPoll).store = s.store ∧ (s.answerPoll).builder = s.builder ∧
      (s.answerPoll).cache = s.cache ∧ (s.answerPoll).mtu = s.mtu ∧ (s.answerPoll).writer = s.writer ∧
      (s.answerPoll).counts = s.counts ∧ (s.answerPoll).panel = s.panel ∧ (s.answerPoll).hostMem = s.hostMem ∧
      (s.answerPoll).linkOut = s.linkOut ∧ (s.answerPoll).now = s.now ∧ (s.answerPoll).pending = s.pending := by
  unfold State.answerPoll
  try dsimp only
  (repeat' split) <;> simp

@[simp] theorem State.engineReturn_keeps (s : State) (c : Condition) :
    (s.engineReturn c).sc = s.sc ∧ (s.engineReturn c).comp = s.comp ∧ (s.engineReturn c).form = s.form ∧
      (s.engineReturn c).store = s.store ∧ (s.engineReturn c).builder = s.builder ∧ (s.engineReturn c).cache = s.cache ∧
      (s.engineReturn c).mtu = s.mtu ∧ (s.engineReturn c).writer = s.writer ∧ (s.engineReturn c).panel = s.panel ∧
      (s.engineReturn c).hostMem = s.hostMem ∧ (s.engineReturn c).now = s.now ∧ (s.engineReturn c).pending = s.pending := by
  unfold State.engineReturn
  try dsimp only
  (repeat' split) <;> simp

@[simp] theorem State.takeStatus_keeps (s : State) (c : Condition) :
    (s.takeStatus c).comp = s.comp ∧ (s.takeStatus c).form = s.form ∧ (s.takeStatus c).mtu = s.mtu ∧
      (s.takeStatus c).hostMem = s.hostMem ∧ (s.takeStatus c).now = s.now ∧ (s.takeStatus c).pending = s.pending := by
  unfold State.takeStatus
  try dsimp only
  (repeat' split) <;> simp

@[simp] theorem State.takeSequence_keeps (s : State) (q : BitVec 8) :
    (s.takeSequence q).regs = s.regs ∧ (s.takeSequence q).sc = s.sc ∧ (s.takeSequence q).comp = s.comp ∧
      (s.takeSequence q).form = s.form ∧ (s.takeSequence q).store = s.store ∧ (s.takeSequence q).builder = s.builder ∧
      (s.takeSequence q).cache = s.cache ∧ (s.takeSequence q).mtu = s.mtu ∧ (s.takeSequence q).writer = s.writer ∧
      (s.takeSequence q).panel = s.panel ∧ (s.takeSequence q).hostMem = s.hostMem ∧ (s.takeSequence q).linkOut = s.linkOut ∧
      (s.takeSequence q).now = s.now ∧ (s.takeSequence q).pending = s.pending := by
  unfold State.takeSequence
  try dsimp only
  (repeat' split) <;> simp

@[simp] theorem State.receive_keeps (s : State) (f : RxFrame) :
    (s.receive f).comp = s.comp ∧ (s.receive f).form = s.form ∧ (s.receive f).mtu = s.mtu ∧
      (s.receive f).hostMem = s.hostMem ∧ (s.receive f).now = s.now ∧ (s.receive f).pending = s.pending := by
  unfold State.receive
  try dsimp only
  (repeat' split) <;> simp

@[simp] theorem State.holdAtBoundary_keeps (s : State) :
    (s.holdAtBoundary).sc = s.sc ∧ (s.holdAtBoundary).comp = s.comp ∧ (s.holdAtBoundary).form = s.form ∧
      (s.holdAtBoundary).store = s.store ∧ (s.holdAtBoundary).builder = s.builder ∧ (s.holdAtBoundary).cache = s.cache ∧
      (s.holdAtBoundary).mtu = s.mtu ∧ (s.holdAtBoundary).writer = s.writer ∧ (s.holdAtBoundary).counts = s.counts ∧
      (s.holdAtBoundary).panel = s.panel ∧ (s.holdAtBoundary).hostMem = s.hostMem ∧ (s.holdAtBoundary).linkOut = s.linkOut ∧
      (s.holdAtBoundary).now = s.now ∧ (s.holdAtBoundary).pending = s.pending := by
  unfold State.holdAtBoundary
  try dsimp only
  (repeat' split) <;> simp

@[simp] theorem State.lookAtGate_keeps (s : State) :
    (s.lookAtGate).sc = s.sc ∧ (s.lookAtGate).comp = s.comp ∧ (s.lookAtGate).form = s.form ∧
      (s.lookAtGate).store = s.store ∧ (s.lookAtGate).builder = s.builder ∧ (s.lookAtGate).cache = s.cache ∧
      (s.lookAtGate).mtu = s.mtu ∧ (s.lookAtGate).writer = s.writer ∧ (s.lookAtGate).counts = s.counts ∧
      (s.lookAtGate).panel = s.panel ∧ (s.lookAtGate).hostMem = s.hostMem ∧ (s.lookAtGate).linkOut = s.linkOut ∧
      (s.lookAtGate).now = s.now ∧ (s.lookAtGate).pending = s.pending := by
  unfold State.lookAtGate
  try dsimp only
  (repeat' split) <;> simp

@[simp] theorem State.mountHead_keeps (s : State) :
    (s.mountHead).sc = s.sc ∧ (s.mountHead).comp = s.comp ∧ (s.mountHead).form = s.form ∧
      (s.mountHead).store = s.store ∧ (s.mountHead).builder = s.builder ∧ (s.mountHead).cache = s.cache ∧
      (s.mountHead).mtu = s.mtu ∧ (s.mountHead).writer = s.writer ∧ (s.mountHead).counts = s.counts ∧
      (s.mountHead).panel = s.panel ∧ (s.mountHead).hostMem = s.hostMem ∧ (s.mountHead).linkOut = s.linkOut ∧
      (s.mountHead).now = s.now ∧ (s.mountHead).pending = s.pending := by
  unfold State.mountHead
  try dsimp only
  (repeat' split) <;> simp

@[simp] theorem State.pressStart_keeps (s : State) :
    (s.pressStart).sc = s.sc ∧ (s.pressStart).comp = s.comp ∧ (s.pressStart).form = s.form ∧
      (s.pressStart).store = s.store ∧ (s.pressStart).builder = s.builder ∧ (s.pressStart).cache = s.cache ∧
      (s.pressStart).mtu = s.mtu ∧ (s.pressStart).writer = s.writer ∧ (s.pressStart).counts = s.counts ∧
      (s.pressStart).panel = s.panel ∧ (s.pressStart).hostMem = s.hostMem ∧ (s.pressStart).linkOut = s.linkOut ∧
      (s.pressStart).now = s.now ∧ (s.pressStart).pending = s.pending := by
  unfold State.pressStart
  try dsimp only
  (repeat' split) <;> simp

@[simp] theorem State.pressStop_keeps (s : State) :
    (s.pressStop).regs = s.regs ∧ (s.pressStop).sc = s.sc ∧ (s.pressStop).comp = s.comp ∧
      (s.pressStop).form = s.form ∧ (s.pressStop).store = s.store ∧ (s.pressStop).builder = s.builder ∧
      (s.pressStop).cache = s.cache ∧ (s.pressStop).mtu = s.mtu ∧ (s.pressStop).writer = s.writer ∧
      (s.pressStop).counts = s.counts ∧ (s.pressStop).panel = s.panel ∧ (s.pressStop).hostMem = s.hostMem ∧
      (s.pressStop).linkOut = s.linkOut ∧ (s.pressStop).now = s.now ∧ (s.pressStop).pending = s.pending := by
  unfold State.pressStop
  try dsimp only
  (repeat' split) <;> simp

@[simp] theorem State.abandonLoad_keeps (s : State) :
    (s.abandonLoad).regs = s.regs ∧ (s.abandonLoad).sc = s.sc ∧ (s.abandonLoad).comp = s.comp ∧
      (s.abandonLoad).store = s.store ∧ (s.abandonLoad).builder = s.builder ∧ (s.abandonLoad).cache = s.cache ∧
      (s.abandonLoad).writer = s.writer ∧ (s.abandonLoad).engine = s.engine ∧ (s.abandonLoad).counts = s.counts ∧
      (s.abandonLoad).panel = s.panel ∧ (s.abandonLoad).hostMem = s.hostMem ∧ (s.abandonLoad).linkOut = s.linkOut ∧
      (s.abandonLoad).now = s.now ∧ (s.abandonLoad).pending = s.pending := by
  unfold State.abandonLoad
  try dsimp only
  (repeat' split) <;> simp

@[simp] theorem State.giveUp_keeps (s : State) (n : Fin 8) (st : StreamState) :
    (s.giveUp n st).regs = s.regs ∧ (s.giveUp n st).form = s.form ∧ (s.giveUp n st).store = s.store ∧
      (s.giveUp n st).builder = s.builder ∧ (s.giveUp n st).cache = s.cache ∧ (s.giveUp n st).engine = s.engine ∧
      (s.giveUp n st).counts = s.counts ∧ (s.giveUp n st).panel = s.panel ∧ (s.giveUp n st).hostMem = s.hostMem ∧
      (s.giveUp n st).linkOut = s.linkOut ∧ (s.giveUp n st).now = s.now ∧ (s.giveUp n st).pending = s.pending := by
  unfold State.giveUp
  try dsimp only
  (repeat' split) <;> simp

@[simp] theorem State.grant_keeps (s : State) :
    (s.grant).regs = s.regs ∧ (s.grant).form = s.form ∧ (s.grant).store = s.store ∧
      (s.grant).builder = s.builder ∧ (s.grant).cache = s.cache ∧ (s.grant).mtu = s.mtu ∧
      (s.grant).writer = s.writer ∧ (s.grant).engine = s.engine ∧ (s.grant).counts = s.counts ∧
      (s.grant).panel = s.panel ∧ (s.grant).hostMem = s.hostMem ∧ (s.grant).linkOut = s.linkOut ∧
      (s.grant).now = s.now ∧ (s.grant).pending = s.pending := by
  unfold State.grant
  try dsimp only
  (repeat' split) <;> simp

@[simp] theorem State.requeue_keeps (s : State) (n : Fin 8) :
    (s.requeue n).regs = s.regs ∧ (s.requeue n).comp = s.comp ∧ (s.requeue n).form = s.form ∧
      (s.requeue n).store = s.store ∧ (s.requeue n).builder = s.builder ∧ (s.requeue n).cache = s.cache ∧
      (s.requeue n).mtu = s.mtu ∧ (s.requeue n).engine = s.engine ∧ (s.requeue n).counts = s.counts ∧
      (s.requeue n).panel = s.panel ∧ (s.requeue n).hostMem = s.hostMem ∧ (s.requeue n).linkOut = s.linkOut ∧
      (s.requeue n).now = s.now ∧ (s.requeue n).pending = s.pending := by
  unfold State.requeue
  try dsimp only
  (repeat' split) <;> simp

@[simp] theorem State.modComposing_keeps (s : State) (f : Slot → Slot) :
    (s.modComposing f).regs = s.regs ∧ (s.modComposing f).sc = s.sc ∧ (s.modComposing f).comp = s.comp ∧
      (s.modComposing f).form = s.form ∧ (s.modComposing f).builder = s.builder ∧ (s.modComposing f).cache = s.cache ∧
      (s.modComposing f).mtu = s.mtu ∧ (s.modComposing f).writer = s.writer ∧ (s.modComposing f).engine = s.engine ∧
      (s.modComposing f).counts = s.counts ∧ (s.modComposing f).panel = s.panel ∧ (s.modComposing f).hostMem = s.hostMem ∧
      (s.modComposing f).linkOut = s.linkOut ∧ (s.modComposing f).now = s.now ∧ (s.modComposing f).pending = s.pending := by
  unfold State.modComposing
  try dsimp only
  (repeat' split) <;> simp

@[simp] theorem State.takeTo_keeps (s : State) (n : Fin 8) (k : Nat) :
    (s.takeTo n k).regs = s.regs ∧ (s.takeTo n k).comp = s.comp ∧ (s.takeTo n k).form = s.form ∧
      (s.takeTo n k).builder = s.builder ∧ (s.takeTo n k).cache = s.cache ∧ (s.takeTo n k).mtu = s.mtu ∧
      (s.takeTo n k).writer = s.writer ∧ (s.takeTo n k).engine = s.engine ∧ (s.takeTo n k).counts = s.counts ∧
      (s.takeTo n k).panel = s.panel ∧ (s.takeTo n k).hostMem = s.hostMem ∧ (s.takeTo n k).linkOut = s.linkOut ∧
      (s.takeTo n k).now = s.now ∧ (s.takeTo n k).pending = s.pending := by
  unfold State.takeTo
  try dsimp only
  (repeat' split) <;> simp

@[simp] theorem State.advanceTake_keeps (s : State) (n : Fin 8) (k : Nat) :
    (s.advanceTake n k).regs = s.regs ∧ (s.advanceTake n k).comp = s.comp ∧ (s.advanceTake n k).form = s.form ∧
      (s.advanceTake n k).builder = s.builder ∧ (s.advanceTake n k).cache = s.cache ∧ (s.advanceTake n k).mtu = s.mtu ∧
      (s.advanceTake n k).writer = s.writer ∧ (s.advanceTake n k).engine = s.engine ∧ (s.advanceTake n k).counts = s.counts ∧
      (s.advanceTake n k).panel = s.panel ∧ (s.advanceTake n k).hostMem = s.hostMem ∧ (s.advanceTake n k).linkOut = s.linkOut ∧
      (s.advanceTake n k).now = s.now ∧ (s.advanceTake n k).pending = s.pending := by
  unfold State.advanceTake
  try dsimp only
  (repeat' split) <;> simp

@[simp] theorem State.afterTake_keeps (s : State) (n : Fin 8) :
    (s.afterTake n).regs = s.regs ∧ (s.afterTake n).form = s.form ∧ (s.afterTake n).store = s.store ∧
      (s.afterTake n).builder = s.builder ∧ (s.afterTake n).cache = s.cache ∧ (s.afterTake n).engine = s.engine ∧
      (s.afterTake n).counts = s.counts ∧ (s.afterTake n).panel = s.panel ∧ (s.afterTake n).hostMem = s.hostMem ∧
      (s.afterTake n).linkOut = s.linkOut ∧ (s.afterTake n).now = s.now ∧ (s.afterTake n).pending = s.pending := by
  unfold State.afterTake
  try dsimp only
  (repeat' split) <;> simp

@[simp] theorem State.turnPages_keeps (n : Fin 8) (line : Nat) (rest : RecordRest) (k : Nat) (s : State) :
    (State.turnPages n line rest k s).regs = s.regs ∧ (State.turnPages n line rest k s).form = s.form ∧ (State.turnPages n line rest k s).builder = s.builder ∧
      (State.turnPages n line rest k s).cache = s.cache ∧ (State.turnPages n line rest k s).mtu = s.mtu ∧ (State.turnPages n line rest k s).writer = s.writer ∧
      (State.turnPages n line rest k s).engine = s.engine ∧ (State.turnPages n line rest k s).counts = s.counts ∧ (State.turnPages n line rest k s).panel = s.panel ∧
      (State.turnPages n line rest k s).hostMem = s.hostMem ∧ (State.turnPages n line rest k s).linkOut = s.linkOut ∧ (State.turnPages n line rest k s).now = s.now ∧
      (State.turnPages n line rest k s).pending = s.pending := by
  induction k generalizing s with
  | zero => simp [State.turnPages]
  | succ k ih =>
    simp only [State.turnPages]
    (repeat' split) <;> simp [ih]

@[simp] theorem State.moveCarriage_keeps (s : State) (n : Fin 8) (c : Carriage) (r : RecordRest) :
    (s.moveCarriage n c r).regs = s.regs ∧ (s.moveCarriage n c r).form = s.form ∧ (s.moveCarriage n c r).builder = s.builder ∧
      (s.moveCarriage n c r).cache = s.cache ∧ (s.moveCarriage n c r).mtu = s.mtu ∧ (s.moveCarriage n c r).writer = s.writer ∧
      (s.moveCarriage n c r).engine = s.engine ∧ (s.moveCarriage n c r).counts = s.counts ∧ (s.moveCarriage n c r).panel = s.panel ∧
      (s.moveCarriage n c r).hostMem = s.hostMem ∧ (s.moveCarriage n c r).linkOut = s.linkOut ∧ (s.moveCarriage n c r).now = s.now ∧
      (s.moveCarriage n c r).pending = s.pending := by
  unfold State.moveCarriage
  try dsimp only
  (repeat' split) <;> simp

@[simp] theorem State.placeStrike_keeps (s : State) (n : Fin 8) (i : Fin 4) (h : RecordHeader) (l : Nat) :
    (s.placeStrike n i h l).regs = s.regs ∧ (s.placeStrike n i h l).comp = s.comp ∧ (s.placeStrike n i h l).form = s.form ∧
      (s.placeStrike n i h l).builder = s.builder ∧ (s.placeStrike n i h l).cache = s.cache ∧ (s.placeStrike n i h l).mtu = s.mtu ∧
      (s.placeStrike n i h l).writer = s.writer ∧ (s.placeStrike n i h l).engine = s.engine ∧ (s.placeStrike n i h l).counts = s.counts ∧
      (s.placeStrike n i h l).panel = s.panel ∧ (s.placeStrike n i h l).hostMem = s.hostMem ∧ (s.placeStrike n i h l).linkOut = s.linkOut ∧
      (s.placeStrike n i h l).now = s.now ∧ (s.placeStrike n i h l).pending = s.pending := by
  unfold State.placeStrike
  try dsimp only
  (repeat' split) <;> simp

@[simp] theorem State.offerStrike_keeps (s : State) (n : Fin 8) (i : Fin 4) (h : RecordHeader) :
    (s.offerStrike n i h).regs = s.regs ∧ (s.offerStrike n i h).form = s.form ∧ (s.offerStrike n i h).builder = s.builder ∧
      (s.offerStrike n i h).cache = s.cache ∧ (s.offerStrike n i h).mtu = s.mtu ∧ (s.offerStrike n i h).writer = s.writer ∧
      (s.offerStrike n i h).engine = s.engine ∧ (s.offerStrike n i h).counts = s.counts ∧ (s.offerStrike n i h).panel = s.panel ∧
      (s.offerStrike n i h).hostMem = s.hostMem ∧ (s.offerStrike n i h).linkOut = s.linkOut ∧ (s.offerStrike n i h).now = s.now ∧
      (s.offerStrike n i h).pending = s.pending := by
  unfold State.offerStrike
  try dsimp only
  (repeat' split) <;> simp

@[simp] theorem State.finishLine_keeps (s : State) (n : Fin 8) (h : RecordHeader) :
    (s.finishLine n h).regs = s.regs ∧ (s.finishLine n h).form = s.form ∧ (s.finishLine n h).builder = s.builder ∧
      (s.finishLine n h).cache = s.cache ∧ (s.finishLine n h).engine = s.engine ∧ (s.finishLine n h).counts = s.counts ∧
      (s.finishLine n h).panel = s.panel ∧ (s.finishLine n h).hostMem = s.hostMem ∧ (s.finishLine n h).linkOut = s.linkOut ∧
      (s.finishLine n h).now = s.now ∧ (s.finishLine n h).pending = s.pending := by
  unfold State.finishLine
  try dsimp only
  (repeat' split) <;> simp

@[simp] theorem State.lineAfter_keeps (s : State) (n : Fin 8) (h : RecordHeader) :
    (s.lineAfter n h).regs = s.regs ∧ (s.lineAfter n h).form = s.form ∧ (s.lineAfter n h).builder = s.builder ∧
      (s.lineAfter n h).cache = s.cache ∧ (s.lineAfter n h).engine = s.engine ∧ (s.lineAfter n h).counts = s.counts ∧
      (s.lineAfter n h).panel = s.panel ∧ (s.lineAfter n h).hostMem = s.hostMem ∧ (s.lineAfter n h).linkOut = s.linkOut ∧
      (s.lineAfter n h).now = s.now ∧ (s.lineAfter n h).pending = s.pending := by
  unfold State.lineAfter
  try dsimp only
  (repeat' split) <;> simp

@[simp] theorem State.lineStrike_keeps (s : State) (n : Fin 8) (h : RecordHeader) :
    (s.lineStrike n h).regs = s.regs ∧ (s.lineStrike n h).form = s.form ∧ (s.lineStrike n h).builder = s.builder ∧
      (s.lineStrike n h).cache = s.cache ∧ (s.lineStrike n h).engine = s.engine ∧ (s.lineStrike n h).counts = s.counts ∧
      (s.lineStrike n h).panel = s.panel ∧ (s.lineStrike n h).hostMem = s.hostMem ∧ (s.lineStrike n h).linkOut = s.linkOut ∧
      (s.lineStrike n h).now = s.now ∧ (s.lineStrike n h).pending = s.pending := by
  unfold State.lineStrike
  try dsimp only
  (repeat' split) <;> simp

@[simp] theorem State.lineBody_keeps (s : State) (n : Fin 8) (h : RecordHeader) (c : Carriage) :
    (s.lineBody n h c).regs = s.regs ∧ (s.lineBody n h c).form = s.form ∧ (s.lineBody n h c).builder = s.builder ∧
      (s.lineBody n h c).cache = s.cache ∧ (s.lineBody n h c).engine = s.engine ∧ (s.lineBody n h c).counts = s.counts ∧
      (s.lineBody n h c).panel = s.panel ∧ (s.lineBody n h c).hostMem = s.hostMem ∧ (s.lineBody n h c).linkOut = s.linkOut ∧
      (s.lineBody n h c).now = s.now ∧ (s.lineBody n h c).pending = s.pending := by
  unfold State.lineBody
  try dsimp only
  (repeat' split) <;> simp

@[simp] theorem State.endPage_keeps (s : State) (i : Fin 4) (e : JobEnd) :
    (s.endPage i e).regs = s.regs ∧ (s.endPage i e).comp = s.comp ∧ (s.endPage i e).form = s.form ∧
      (s.endPage i e).builder = s.builder ∧ (s.endPage i e).cache = s.cache ∧ (s.endPage i e).mtu = s.mtu ∧
      (s.endPage i e).engine = s.engine ∧ (s.endPage i e).counts = s.counts ∧ (s.endPage i e).panel = s.panel ∧
      (s.endPage i e).hostMem = s.hostMem ∧ (s.endPage i e).linkOut = s.linkOut ∧ (s.endPage i e).now = s.now ∧
      (s.endPage i e).pending = s.pending := by
  unfold State.endPage
  try dsimp only
  (repeat' split) <;> simp

@[simp] theorem State.faultPage_keeps (s : State) (n : Fin 8) (c : FaultCode) :
    (s.faultPage n c).regs = s.regs ∧ (s.faultPage n c).comp = s.comp ∧ (s.faultPage n c).form = s.form ∧
      (s.faultPage n c).builder = s.builder ∧ (s.faultPage n c).cache = s.cache ∧
      (s.faultPage n c).mtu = s.mtu ∧ (s.faultPage n c).engine = s.engine ∧
      (s.faultPage n c).counts = s.counts ∧ (s.faultPage n c).panel = s.panel ∧
      (s.faultPage n c).hostMem = s.hostMem ∧ (s.faultPage n c).linkOut = s.linkOut ∧
      (s.faultPage n c).now = s.now ∧ (s.faultPage n c).pending = s.pending := by
  unfold State.faultPage
  try dsimp only
  (repeat' split) <;> simp

@[simp] theorem State.faultActive_keeps (s : State) (n : Fin 8) (c : FaultCode) :
    (s.faultActive n c).regs = s.regs ∧ (s.faultActive n c).builder = s.builder ∧ (s.faultActive n c).cache = s.cache ∧
      (s.faultActive n c).engine = s.engine ∧ (s.faultActive n c).counts = s.counts ∧ (s.faultActive n c).panel = s.panel ∧
      (s.faultActive n c).hostMem = s.hostMem ∧ (s.faultActive n c).linkOut = s.linkOut ∧ (s.faultActive n c).now = s.now ∧
      (s.faultActive n c).pending = s.pending := by
  unfold State.faultActive
  try dsimp only
  (repeat' split) <;> simp

@[simp] theorem State.faultInactive_keeps (s : State) (n : Fin 8) (c : FaultCode) :
    (s.faultInactive n c).regs = s.regs ∧ (s.faultInactive n c).comp = s.comp ∧ (s.faultInactive n c).form = s.form ∧
      (s.faultInactive n c).store = s.store ∧ (s.faultInactive n c).builder = s.builder ∧ (s.faultInactive n c).cache = s.cache ∧
      (s.faultInactive n c).engine = s.engine ∧ (s.faultInactive n c).counts = s.counts ∧ (s.faultInactive n c).panel = s.panel ∧
      (s.faultInactive n c).hostMem = s.hostMem ∧ (s.faultInactive n c).linkOut = s.linkOut ∧ (s.faultInactive n c).now = s.now ∧
      (s.faultInactive n c).pending = s.pending := by
  unfold State.faultInactive
  try dsimp only
  (repeat' split) <;> simp

@[simp] theorem State.memReadFault_keeps (s : State) :
    (s.memReadFault).regs = s.regs ∧ (s.memReadFault).builder = s.builder ∧ (s.memReadFault).cache = s.cache ∧
      (s.memReadFault).engine = s.engine ∧ (s.memReadFault).counts = s.counts ∧ (s.memReadFault).panel = s.panel ∧
      (s.memReadFault).hostMem = s.hostMem ∧ (s.memReadFault).linkOut = s.linkOut ∧ (s.memReadFault).now = s.now ∧
      (s.memReadFault).pending = s.pending := by
  unfold State.memReadFault
  try dsimp only
  (repeat' split) <;> simp

@[simp] theorem State.takeLine_keeps (s : State) (n : Fin 8) (h : RecordHeader) :
    (s.takeLine n h).regs = s.regs ∧ (s.takeLine n h).builder = s.builder ∧ (s.takeLine n h).cache = s.cache ∧
      (s.takeLine n h).engine = s.engine ∧ (s.takeLine n h).counts = s.counts ∧ (s.takeLine n h).panel = s.panel ∧
      (s.takeLine n h).hostMem = s.hostMem ∧ (s.takeLine n h).linkOut = s.linkOut ∧ (s.takeLine n h).now = s.now ∧
      (s.takeLine n h).pending = s.pending := by
  unfold State.takeLine
  try dsimp only
  (repeat' split) <;> simp

@[simp] theorem State.takeJob_keeps (s : State) (n : Fin 8) :
    (s.takeJob n).regs = s.regs ∧ (s.takeJob n).builder = s.builder ∧ (s.takeJob n).cache = s.cache ∧
      (s.takeJob n).engine = s.engine ∧ (s.takeJob n).counts = s.counts ∧ (s.takeJob n).panel = s.panel ∧
      (s.takeJob n).hostMem = s.hostMem ∧ (s.takeJob n).linkOut = s.linkOut ∧ (s.takeJob n).now = s.now ∧
      (s.takeJob n).pending = s.pending := by
  unfold State.takeJob
  try dsimp only
  (repeat' split) <;> simp

@[simp] theorem State.takeEnd_keeps (s : State) (n : Fin 8) (h : RecordHeader) :
    (s.takeEnd n h).regs = s.regs ∧ (s.takeEnd n h).builder = s.builder ∧ (s.takeEnd n h).cache = s.cache ∧
      (s.takeEnd n h).engine = s.engine ∧ (s.takeEnd n h).counts = s.counts ∧ (s.takeEnd n h).panel = s.panel ∧
      (s.takeEnd n h).hostMem = s.hostMem ∧ (s.takeEnd n h).linkOut = s.linkOut ∧ (s.takeEnd n h).now = s.now ∧
      (s.takeEnd n h).pending = s.pending := by
  unfold State.takeEnd
  try dsimp only
  (repeat' split) <;> simp

@[simp] theorem State.takeMark_keeps (s : State) (n : Fin 8) (h : RecordHeader) :
    (s.takeMark n h).regs = s.regs ∧ (s.takeMark n h).builder = s.builder ∧ (s.takeMark n h).cache = s.cache ∧
      (s.takeMark n h).engine = s.engine ∧ (s.takeMark n h).counts = s.counts ∧ (s.takeMark n h).panel = s.panel ∧
      (s.takeMark n h).hostMem = s.hostMem ∧ (s.takeMark n h).linkOut = s.linkOut ∧ (s.takeMark n h).now = s.now ∧
      (s.takeMark n h).pending = s.pending := by
  unfold State.takeMark
  try dsimp only
  (repeat' split) <;> simp

@[simp] theorem State.takeWrap_keeps (s : State) (n : Fin 8) :
    (s.takeWrap n).regs = s.regs ∧ (s.takeWrap n).form = s.form ∧ (s.takeWrap n).builder = s.builder ∧
      (s.takeWrap n).cache = s.cache ∧ (s.takeWrap n).engine = s.engine ∧ (s.takeWrap n).counts = s.counts ∧
      (s.takeWrap n).panel = s.panel ∧ (s.takeWrap n).hostMem = s.hostMem ∧ (s.takeWrap n).linkOut = s.linkOut ∧
      (s.takeWrap n).now = s.now ∧ (s.takeWrap n).pending = s.pending := by
  unfold State.takeWrap
  try dsimp only
  (repeat' split) <;> simp

@[simp] theorem State.startJob_keeps (s : State) (i : Fin 4) (n : Fin 8) (j : JobInfo) :
    (s.startJob i n j).regs = s.regs ∧ (s.startJob i n j).form = s.form ∧ (s.startJob i n j).builder = s.builder ∧
      (s.startJob i n j).cache = s.cache ∧ (s.startJob i n j).engine = s.engine ∧ (s.startJob i n j).counts = s.counts ∧
      (s.startJob i n j).panel = s.panel ∧ (s.startJob i n j).hostMem = s.hostMem ∧ (s.startJob i n j).linkOut = s.linkOut ∧
      (s.startJob i n j).now = s.now ∧ (s.startJob i n j).pending = s.pending := by
  unfold State.startJob
  try dsimp only
  (repeat' split) <;> simp

@[simp] theorem State.openJob_keeps (s : State) (n : Fin 8) :
    (s.openJob n).regs = s.regs ∧ (s.openJob n).form = s.form ∧ (s.openJob n).builder = s.builder ∧
      (s.openJob n).cache = s.cache ∧ (s.openJob n).engine = s.engine ∧ (s.openJob n).counts = s.counts ∧
      (s.openJob n).panel = s.panel ∧ (s.openJob n).hostMem = s.hostMem ∧ (s.openJob n).linkOut = s.linkOut ∧
      (s.openJob n).now = s.now ∧ (s.openJob n).pending = s.pending := by
  unfold State.openJob
  try dsimp only
  (repeat' split) <;> simp

@[simp] theorem State.resumeRecord_keeps (s : State) (n : Fin 8) (r : RecordRest) :
    (s.resumeRecord n r).regs = s.regs ∧ (s.resumeRecord n r).form = s.form ∧ (s.resumeRecord n r).builder = s.builder ∧
      (s.resumeRecord n r).cache = s.cache ∧ (s.resumeRecord n r).engine = s.engine ∧ (s.resumeRecord n r).counts = s.counts ∧
      (s.resumeRecord n r).panel = s.panel ∧ (s.resumeRecord n r).hostMem = s.hostMem ∧ (s.resumeRecord n r).linkOut = s.linkOut ∧
      (s.resumeRecord n r).now = s.now ∧ (s.resumeRecord n r).pending = s.pending := by
  unfold State.resumeRecord
  try dsimp only
  (repeat' split) <;> simp

@[simp] theorem State.resumeWait_keeps (s : State) :
    (s.resumeWait).regs = s.regs ∧ (s.resumeWait).form = s.form ∧ (s.resumeWait).builder = s.builder ∧
      (s.resumeWait).cache = s.cache ∧ (s.resumeWait).engine = s.engine ∧ (s.resumeWait).counts = s.counts ∧
      (s.resumeWait).panel = s.panel ∧ (s.resumeWait).hostMem = s.hostMem ∧ (s.resumeWait).linkOut = s.linkOut ∧
      (s.resumeWait).now = s.now ∧ (s.resumeWait).pending = s.pending := by
  unfold State.resumeWait
  try dsimp only
  (repeat' split) <;> simp

@[simp] theorem State.flushExpired_keeps (s : State) :
    (s.flushExpired).regs = s.regs ∧ (s.flushExpired).form = s.form ∧ (s.flushExpired).builder = s.builder ∧
      (s.flushExpired).cache = s.cache ∧ (s.flushExpired).mtu = s.mtu ∧ (s.flushExpired).writer = s.writer ∧
      (s.flushExpired).engine = s.engine ∧ (s.flushExpired).counts = s.counts ∧ (s.flushExpired).panel = s.panel ∧
      (s.flushExpired).hostMem = s.hostMem ∧ (s.flushExpired).linkOut = s.linkOut ∧ (s.flushExpired).now = s.now ∧
      (s.flushExpired).pending = s.pending := by
  unfold State.flushExpired
  try dsimp only
  (repeat' split) <;> simp

@[simp] theorem State.endDiscard_keeps (s : State) (n : Fin 8) (t : Word32) :
    (s.endDiscard n t).regs = s.regs ∧ (s.endDiscard n t).comp = s.comp ∧ (s.endDiscard n t).form = s.form ∧
      (s.endDiscard n t).store = s.store ∧ (s.endDiscard n t).builder = s.builder ∧ (s.endDiscard n t).cache = s.cache ∧
      (s.endDiscard n t).mtu = s.mtu ∧ (s.endDiscard n t).engine = s.engine ∧ (s.endDiscard n t).counts = s.counts ∧
      (s.endDiscard n t).panel = s.panel ∧ (s.endDiscard n t).hostMem = s.hostMem ∧ (s.endDiscard n t).linkOut = s.linkOut ∧
      (s.endDiscard n t).now = s.now ∧ (s.endDiscard n t).pending = s.pending := by
  unfold State.endDiscard
  try dsimp only
  (repeat' split) <;> simp

@[simp] theorem State.skipRecord_keeps (s : State) (n : Fin 8) (h : RecordHeader) (b : List Byte) :
    (s.skipRecord n h b).regs = s.regs ∧ (s.skipRecord n h b).comp = s.comp ∧ (s.skipRecord n h b).form = s.form ∧
      (s.skipRecord n h b).store = s.store ∧ (s.skipRecord n h b).builder = s.builder ∧ (s.skipRecord n h b).cache = s.cache ∧
      (s.skipRecord n h b).mtu = s.mtu ∧ (s.skipRecord n h b).engine = s.engine ∧ (s.skipRecord n h b).counts = s.counts ∧
      (s.skipRecord n h b).panel = s.panel ∧ (s.skipRecord n h b).hostMem = s.hostMem ∧ (s.skipRecord n h b).linkOut = s.linkOut ∧
      (s.skipRecord n h b).now = s.now ∧ (s.skipRecord n h b).pending = s.pending := by
  unfold State.skipRecord
  try dsimp only
  (repeat' split) <;> simp

@[simp] theorem State.discardHeld_keeps (s : State) (d : HeldRecord) :
    (s.discardHeld d).regs = s.regs ∧ (s.discardHeld d).comp = s.comp ∧ (s.discardHeld d).form = s.form ∧
      (s.discardHeld d).store = s.store ∧ (s.discardHeld d).builder = s.builder ∧ (s.discardHeld d).cache = s.cache ∧
      (s.discardHeld d).engine = s.engine ∧ (s.discardHeld d).counts = s.counts ∧ (s.discardHeld d).panel = s.panel ∧
      (s.discardHeld d).hostMem = s.hostMem ∧ (s.discardHeld d).linkOut = s.linkOut ∧ (s.discardHeld d).now = s.now ∧
      (s.discardHeld d).pending = s.pending := by
  unfold State.discardHeld
  try dsimp only
  (repeat' split) <;> simp

@[simp] theorem State.discardRecord_keeps (s : State) :
    (s.discardRecord).regs = s.regs ∧ (s.discardRecord).comp = s.comp ∧ (s.discardRecord).form = s.form ∧
      (s.discardRecord).store = s.store ∧ (s.discardRecord).builder = s.builder ∧ (s.discardRecord).cache = s.cache ∧
      (s.discardRecord).engine = s.engine ∧ (s.discardRecord).counts = s.counts ∧ (s.discardRecord).panel = s.panel ∧
      (s.discardRecord).hostMem = s.hostMem ∧ (s.discardRecord).linkOut = s.linkOut ∧ (s.discardRecord).now = s.now ∧
      (s.discardRecord).pending = s.pending := by
  unfold State.discardRecord
  try dsimp only
  (repeat' split) <;> simp

@[simp] theorem State.makeReport_keeps (old s : State) (n : Fin 8) :
    (State.makeReport old s n).regs = s.regs ∧ (State.makeReport old s n).comp = s.comp ∧ (State.makeReport old s n).form = s.form ∧
      (State.makeReport old s n).store = s.store ∧ (State.makeReport old s n).builder = s.builder ∧ (State.makeReport old s n).cache = s.cache ∧
      (State.makeReport old s n).mtu = s.mtu ∧ (State.makeReport old s n).engine = s.engine ∧ (State.makeReport old s n).counts = s.counts ∧
      (State.makeReport old s n).panel = s.panel ∧ (State.makeReport old s n).hostMem = s.hostMem ∧ (State.makeReport old s n).linkOut = s.linkOut ∧
      (State.makeReport old s n).now = s.now ∧ (State.makeReport old s n).pending = s.pending := by
  unfold State.makeReport
  try dsimp only
  (repeat' split) <;> simp

@[simp] theorem State.trigger_keeps (s : State) :
    (s.trigger).comp = s.comp ∧ (s.trigger).form = s.form ∧ (s.trigger).store = s.store ∧
      (s.trigger).builder = s.builder ∧ (s.trigger).cache = s.cache ∧ (s.trigger).mtu = s.mtu ∧
      (s.trigger).writer = s.writer ∧ (s.trigger).engine = s.engine ∧ (s.trigger).counts = s.counts ∧
      (s.trigger).panel = s.panel ∧ (s.trigger).hostMem = s.hostMem ∧ (s.trigger).linkOut = s.linkOut ∧
      (s.trigger).now = s.now ∧ (s.trigger).pending = s.pending := by
  unfold State.trigger
  try dsimp only
  (repeat' split) <;> simp

@[simp] theorem State.finishScan_keeps (s : State) :
    (s.finishScan).comp = s.comp ∧ (s.finishScan).form = s.form ∧ (s.finishScan).store = s.store ∧
      (s.finishScan).builder = s.builder ∧ (s.finishScan).cache = s.cache ∧ (s.finishScan).mtu = s.mtu ∧
      (s.finishScan).writer = s.writer ∧ (s.finishScan).engine = s.engine ∧ (s.finishScan).counts = s.counts ∧
      (s.finishScan).panel = s.panel ∧ (s.finishScan).hostMem = s.hostMem ∧ (s.finishScan).linkOut = s.linkOut ∧
      (s.finishScan).now = s.now ∧ (s.finishScan).pending = s.pending := by
  unfold State.finishScan
  try dsimp only
  (repeat' split) <;> simp

@[simp] theorem State.endScan_keeps (s : State) :
    (s.endScan).comp = s.comp ∧ (s.endScan).form = s.form ∧ (s.endScan).store = s.store ∧
      (s.endScan).builder = s.builder ∧ (s.endScan).cache = s.cache ∧ (s.endScan).mtu = s.mtu ∧
      (s.endScan).engine = s.engine ∧ (s.endScan).counts = s.counts ∧ (s.endScan).panel = s.panel ∧
      (s.endScan).hostMem = s.hostMem ∧ (s.endScan).linkOut = s.linkOut ∧ (s.endScan).now = s.now ∧
      (s.endScan).pending = s.pending := by
  unfold State.endScan
  try dsimp only
  (repeat' split) <;> simp

@[simp] theorem State.scanTail_keeps (s : State) :
    (s.scanTail).comp = s.comp ∧ (s.scanTail).form = s.form ∧ (s.scanTail).store = s.store ∧
      (s.scanTail).builder = s.builder ∧ (s.scanTail).cache = s.cache ∧ (s.scanTail).mtu = s.mtu ∧
      (s.scanTail).engine = s.engine ∧ (s.scanTail).counts = s.counts ∧ (s.scanTail).panel = s.panel ∧
      (s.scanTail).hostMem = s.hostMem ∧ (s.scanTail).linkOut = s.linkOut ∧ (s.scanTail).now = s.now ∧
      (s.scanTail).pending = s.pending := by
  unfold State.scanTail
  try dsimp only
  (repeat' split) <;> simp

@[simp] theorem State.scanAfter_keeps (s : State) (n : Fin 8) :
    (s.scanAfter n).comp = s.comp ∧ (s.scanAfter n).form = s.form ∧ (s.scanAfter n).store = s.store ∧
      (s.scanAfter n).builder = s.builder ∧ (s.scanAfter n).cache = s.cache ∧ (s.scanAfter n).mtu = s.mtu ∧
      (s.scanAfter n).engine = s.engine ∧ (s.scanAfter n).counts = s.counts ∧ (s.scanAfter n).panel = s.panel ∧
      (s.scanAfter n).hostMem = s.hostMem ∧ (s.scanAfter n).linkOut = s.linkOut ∧ (s.scanAfter n).now = s.now ∧
      (s.scanAfter n).pending = s.pending := by
  unfold State.scanAfter
  try dsimp only
  (repeat' split) <;> simp

@[simp] theorem State.cutScan_keeps (s : State) :
    (s.cutScan).comp = s.comp ∧ (s.cutScan).form = s.form ∧ (s.cutScan).store = s.store ∧
      (s.cutScan).builder = s.builder ∧ (s.cutScan).cache = s.cache ∧ (s.cutScan).writer = s.writer ∧
      (s.cutScan).engine = s.engine ∧ (s.cutScan).counts = s.counts ∧ (s.cutScan).panel = s.panel ∧
      (s.cutScan).hostMem = s.hostMem ∧ (s.cutScan).linkOut = s.linkOut ∧ (s.cutScan).now = s.now ∧
      (s.cutScan).pending = s.pending := by
  unfold State.cutScan
  try dsimp only
  (repeat' split) <;> simp

@[simp] theorem State.takeFill_keeps (s : State) (n : Fin 8) (p : Nat) :
    (s.takeFill n p).regs = s.regs ∧ (s.takeFill n p).form = s.form ∧ (s.takeFill n p).store = s.store ∧
      (s.takeFill n p).builder = s.builder ∧ (s.takeFill n p).cache = s.cache ∧ (s.takeFill n p).mtu = s.mtu ∧
      (s.takeFill n p).engine = s.engine ∧ (s.takeFill n p).counts = s.counts ∧ (s.takeFill n p).panel = s.panel ∧
      (s.takeFill n p).hostMem = s.hostMem ∧ (s.takeFill n p).linkOut = s.linkOut ∧ (s.takeFill n p).now = s.now ∧
      (s.takeFill n p).pending = s.pending := by
  unfold State.takeFill
  try dsimp only
  (repeat' split) <;> simp

@[simp] theorem State.checkFill_keeps (s : State) (n : Fin 8) (p : Nat) :
    (s.checkFill n p).regs = s.regs ∧ (s.checkFill n p).builder = s.builder ∧ (s.checkFill n p).cache = s.cache ∧
      (s.checkFill n p).engine = s.engine ∧ (s.checkFill n p).counts = s.counts ∧ (s.checkFill n p).panel = s.panel ∧
      (s.checkFill n p).hostMem = s.hostMem ∧ (s.checkFill n p).linkOut = s.linkOut ∧ (s.checkFill n p).now = s.now ∧
      (s.checkFill n p).pending = s.pending := by
  unfold State.checkFill
  try dsimp only
  (repeat' split) <;> simp

@[simp] theorem State.takeInterval_keeps (s : State) (n : Fin 8) (k : Nat) :
    (s.takeInterval n k).regs = s.regs ∧ (s.takeInterval n k).form = s.form ∧ (s.takeInterval n k).store = s.store ∧
      (s.takeInterval n k).builder = s.builder ∧ (s.takeInterval n k).cache = s.cache ∧ (s.takeInterval n k).mtu = s.mtu ∧
      (s.takeInterval n k).writer = s.writer ∧ (s.takeInterval n k).engine = s.engine ∧ (s.takeInterval n k).counts = s.counts ∧
      (s.takeInterval n k).panel = s.panel ∧ (s.takeInterval n k).hostMem = s.hostMem ∧ (s.takeInterval n k).linkOut = s.linkOut ∧
      (s.takeInterval n k).now = s.now ∧ (s.takeInterval n k).pending = s.pending := by
  unfold State.takeInterval
  try dsimp only
  (repeat' split) <;> simp

@[simp] theorem State.takeFields_keeps (s : State) (n : Fin 8) (t : Taken) :
    (s.takeFields n t).regs = s.regs ∧ (s.takeFields n t).builder = s.builder ∧ (s.takeFields n t).cache = s.cache ∧
      (s.takeFields n t).engine = s.engine ∧ (s.takeFields n t).counts = s.counts ∧ (s.takeFields n t).panel = s.panel ∧
      (s.takeFields n t).hostMem = s.hostMem ∧ (s.takeFields n t).linkOut = s.linkOut ∧ (s.takeFields n t).now = s.now ∧
      (s.takeFields n t).pending = s.pending := by
  unfold State.takeFields
  try dsimp only
  (repeat' split) <;> simp

@[simp] theorem State.takeDescriptor_keeps (s : State) (n : Fin 8) (b : List Byte) :
    (s.takeDescriptor n b).builder = s.builder ∧ (s.takeDescriptor n b).cache = s.cache ∧ (s.takeDescriptor n b).engine = s.engine ∧
      (s.takeDescriptor n b).counts = s.counts ∧ (s.takeDescriptor n b).panel = s.panel ∧ (s.takeDescriptor n b).hostMem = s.hostMem ∧
      (s.takeDescriptor n b).linkOut = s.linkOut ∧ (s.takeDescriptor n b).now = s.now ∧ (s.takeDescriptor n b).pending = s.pending := by
  unfold State.takeDescriptor
  try dsimp only
  (repeat' split) <;> simp

@[simp] theorem State.takeRing_keeps (s : State) (n : Fin 8) (b : List Byte) :
    (s.takeRing n b).regs = s.regs ∧ (s.takeRing n b).comp = s.comp ∧ (s.takeRing n b).form = s.form ∧
      (s.takeRing n b).store = s.store ∧ (s.takeRing n b).builder = s.builder ∧ (s.takeRing n b).cache = s.cache ∧
      (s.takeRing n b).mtu = s.mtu ∧ (s.takeRing n b).writer = s.writer ∧ (s.takeRing n b).engine = s.engine ∧
      (s.takeRing n b).counts = s.counts ∧ (s.takeRing n b).panel = s.panel ∧ (s.takeRing n b).hostMem = s.hostMem ∧
      (s.takeRing n b).linkOut = s.linkOut ∧ (s.takeRing n b).now = s.now ∧ (s.takeRing n b).pending = s.pending := by
  unfold State.takeRing
  try dsimp only
  (repeat' split) <;> simp

@[simp] theorem State.actionEnds_keeps (s : State) :
    (s.actionEnds).builder = s.builder ∧ (s.actionEnds).cache = s.cache ∧ (s.actionEnds).engine = s.engine ∧
      (s.actionEnds).counts = s.counts ∧ (s.actionEnds).panel = s.panel ∧ (s.actionEnds).hostMem = s.hostMem ∧
      (s.actionEnds).linkOut = s.linkOut ∧ (s.actionEnds).now = s.now ∧ (s.actionEnds).pending = s.pending := by
  unfold State.actionEnds
  try dsimp only
  (repeat' split) <;> simp

@[simp] theorem State.openStream_keeps (s : State) (n : Fin 8) (b : Word32) (k f : Nat) :
    (s.openStream n b k f).regs = s.regs ∧ (s.openStream n b k f).comp = s.comp ∧ (s.openStream n b k f).form = s.form ∧
      (s.openStream n b k f).store = s.store ∧ (s.openStream n b k f).builder = s.builder ∧ (s.openStream n b k f).cache = s.cache ∧
      (s.openStream n b k f).mtu = s.mtu ∧ (s.openStream n b k f).engine = s.engine ∧ (s.openStream n b k f).counts = s.counts ∧
      (s.openStream n b k f).panel = s.panel ∧ (s.openStream n b k f).hostMem = s.hostMem ∧ (s.openStream n b k f).linkOut = s.linkOut ∧
      (s.openStream n b k f).now = s.now ∧ (s.openStream n b k f).pending = s.pending := by
  unfold State.openStream
  try dsimp only
  (repeat' split) <;> simp

@[simp] theorem State.doOpen_keeps (s : State) (n : Fin 8) (t : Taken) (b : Word32) (k : Nat) :
    (s.doOpen n t b k).regs = s.regs ∧ (s.doOpen n t b k).comp = s.comp ∧ (s.doOpen n t b k).form = s.form ∧
      (s.doOpen n t b k).store = s.store ∧ (s.doOpen n t b k).builder = s.builder ∧ (s.doOpen n t b k).cache = s.cache ∧
      (s.doOpen n t b k).mtu = s.mtu ∧ (s.doOpen n t b k).engine = s.engine ∧ (s.doOpen n t b k).counts = s.counts ∧
      (s.doOpen n t b k).panel = s.panel ∧ (s.doOpen n t b k).hostMem = s.hostMem ∧ (s.doOpen n t b k).linkOut = s.linkOut ∧
      (s.doOpen n t b k).now = s.now ∧ (s.doOpen n t b k).pending = s.pending := by
  unfold State.doOpen
  try dsimp only
  (repeat' split) <;> simp

@[simp] theorem State.doClose_keeps (s : State) (n : Fin 8) (t : Taken) :
    (s.doClose n t).regs = s.regs ∧ (s.doClose n t).comp = s.comp ∧ (s.doClose n t).form = s.form ∧
      (s.doClose n t).store = s.store ∧ (s.doClose n t).builder = s.builder ∧ (s.doClose n t).cache = s.cache ∧
      (s.doClose n t).engine = s.engine ∧ (s.doClose n t).counts = s.counts ∧ (s.doClose n t).panel = s.panel ∧
      (s.doClose n t).hostMem = s.hostMem ∧ (s.doClose n t).linkOut = s.linkOut ∧ (s.doClose n t).now = s.now ∧
      (s.doClose n t).pending = s.pending := by
  unfold State.doClose
  try dsimp only
  (repeat' split) <;> simp

@[simp] theorem State.leaveToDiscard_keeps (s : State) (n : Fin 8) :
    (s.leaveToDiscard n).regs = s.regs ∧ (s.leaveToDiscard n).form = s.form ∧ (s.leaveToDiscard n).store = s.store ∧
      (s.leaveToDiscard n).builder = s.builder ∧ (s.leaveToDiscard n).cache = s.cache ∧ (s.leaveToDiscard n).engine = s.engine ∧
      (s.leaveToDiscard n).counts = s.counts ∧ (s.leaveToDiscard n).panel = s.panel ∧ (s.leaveToDiscard n).hostMem = s.hostMem ∧
      (s.leaveToDiscard n).linkOut = s.linkOut ∧ (s.leaveToDiscard n).now = s.now ∧ (s.leaveToDiscard n).pending = s.pending := by
  unfold State.leaveToDiscard
  try dsimp only
  (repeat' split) <;> simp

@[simp] theorem State.cancelActive_keeps (s : State) (n : Fin 8) :
    (s.cancelActive n).regs = s.regs ∧ (s.cancelActive n).counts = s.counts ∧ (s.cancelActive n).panel = s.panel ∧
      (s.cancelActive n).hostMem = s.hostMem ∧ (s.cancelActive n).now = s.now ∧ (s.cancelActive n).pending = s.pending := by
  unfold State.cancelActive
  try dsimp only
  (repeat' split) <;> simp

@[simp] theorem State.cancelStream_keeps (s : State) (n : Fin 8) :
    (s.cancelStream n).regs = s.regs ∧ (s.cancelStream n).counts = s.counts ∧ (s.cancelStream n).panel = s.panel ∧
      (s.cancelStream n).hostMem = s.hostMem ∧ (s.cancelStream n).now = s.now ∧ (s.cancelStream n).pending = s.pending := by
  unfold State.cancelStream
  try dsimp only
  (repeat' split) <;> simp

@[simp] theorem State.doCancel_keeps (s : State) (n : Fin 8) (t : Taken) :
    (s.doCancel n t).regs = s.regs ∧ (s.doCancel n t).counts = s.counts ∧ (s.doCancel n t).panel = s.panel ∧
      (s.doCancel n t).hostMem = s.hostMem ∧ (s.doCancel n t).now = s.now ∧ (s.doCancel n t).pending = s.pending := by
  unfold State.doCancel
  try dsimp only
  (repeat' split) <;> simp

@[simp] theorem State.rushStream_keeps (s : State) (n : Fin 8) :
    (s.rushStream n).regs = s.regs ∧ (s.rushStream n).comp = s.comp ∧ (s.rushStream n).form = s.form ∧
      (s.rushStream n).store = s.store ∧ (s.rushStream n).builder = s.builder ∧ (s.rushStream n).cache = s.cache ∧
      (s.rushStream n).mtu = s.mtu ∧ (s.rushStream n).writer = s.writer ∧ (s.rushStream n).engine = s.engine ∧
      (s.rushStream n).counts = s.counts ∧ (s.rushStream n).panel = s.panel ∧ (s.rushStream n).hostMem = s.hostMem ∧
      (s.rushStream n).linkOut = s.linkOut ∧ (s.rushStream n).now = s.now ∧ (s.rushStream n).pending = s.pending := by
  unfold State.rushStream
  try dsimp only
  (repeat' split) <;> simp

@[simp] theorem State.doRush_keeps (s : State) (n : Fin 8) (t : Taken) :
    (s.doRush n t).regs = s.regs ∧ (s.doRush n t).comp = s.comp ∧ (s.doRush n t).form = s.form ∧
      (s.doRush n t).store = s.store ∧ (s.doRush n t).builder = s.builder ∧ (s.doRush n t).cache = s.cache ∧
      (s.doRush n t).mtu = s.mtu ∧ (s.doRush n t).engine = s.engine ∧ (s.doRush n t).counts = s.counts ∧
      (s.doRush n t).panel = s.panel ∧ (s.doRush n t).hostMem = s.hostMem ∧ (s.doRush n t).linkOut = s.linkOut ∧
      (s.doRush n t).now = s.now ∧ (s.doRush n t).pending = s.pending := by
  unfold State.doRush
  try dsimp only
  (repeat' split) <;> simp

@[simp] theorem State.resetStream_keeps (s : State) (n : Fin 8) :
    (s.resetStream n).regs = s.regs ∧ (s.resetStream n).counts = s.counts ∧ (s.resetStream n).panel = s.panel ∧
      (s.resetStream n).hostMem = s.hostMem ∧ (s.resetStream n).now = s.now ∧ (s.resetStream n).pending = s.pending := by
  unfold State.resetStream
  try dsimp only
  (repeat' split) <;> simp

@[simp] theorem State.doReset_keeps (s : State) (n : Fin 8) (t : Taken) :
    (s.doReset n t).regs = s.regs ∧ (s.doReset n t).counts = s.counts ∧ (s.doReset n t).panel = s.panel ∧
      (s.doReset n t).hostMem = s.hostMem ∧ (s.doReset n t).now = s.now ∧ (s.doReset n t).pending = s.pending := by
  unfold State.doReset
  try dsimp only
  (repeat' split) <;> simp

@[simp] theorem State.askReader_keeps (s : State) :
    (s.askReader).regs = s.regs ∧ (s.askReader).comp = s.comp ∧ (s.askReader).form = s.form ∧
      (s.askReader).store = s.store ∧ (s.askReader).builder = s.builder ∧ (s.askReader).cache = s.cache ∧
      (s.askReader).writer = s.writer ∧ (s.askReader).engine = s.engine ∧ (s.askReader).counts = s.counts ∧
      (s.askReader).panel = s.panel ∧ (s.askReader).hostMem = s.hostMem ∧ (s.askReader).linkOut = s.linkOut ∧
      (s.askReader).now = s.now ∧ (s.askReader).pending = s.pending := by
  unfold State.askReader
  try dsimp only
  (repeat' split) <;> simp

@[simp] theorem State.askLoader_keeps (s : State) :
    (s.askLoader).regs = s.regs ∧ (s.askLoader).sc = s.sc ∧ (s.askLoader).comp = s.comp ∧
      (s.askLoader).form = s.form ∧ (s.askLoader).store = s.store ∧ (s.askLoader).builder = s.builder ∧
      (s.askLoader).cache = s.cache ∧ (s.askLoader).writer = s.writer ∧ (s.askLoader).engine = s.engine ∧
      (s.askLoader).counts = s.counts ∧ (s.askLoader).panel = s.panel ∧ (s.askLoader).hostMem = s.hostMem ∧
      (s.askLoader).linkOut = s.linkOut ∧ (s.askLoader).now = s.now ∧ (s.askLoader).pending = s.pending := by
  unfold State.askLoader
  try dsimp only
  (repeat' split) <;> simp

@[simp] theorem State.askFiller_keeps (s : State) :
    (s.askFiller).regs = s.regs ∧ (s.askFiller).sc = s.sc ∧ (s.askFiller).comp = s.comp ∧
      (s.askFiller).form = s.form ∧ (s.askFiller).store = s.store ∧ (s.askFiller).builder = s.builder ∧
      (s.askFiller).cache = s.cache ∧ (s.askFiller).writer = s.writer ∧ (s.askFiller).engine = s.engine ∧
      (s.askFiller).counts = s.counts ∧ (s.askFiller).panel = s.panel ∧ (s.askFiller).hostMem = s.hostMem ∧
      (s.askFiller).linkOut = s.linkOut ∧ (s.askFiller).now = s.now ∧ (s.askFiller).pending = s.pending := by
  unfold State.askFiller
  try dsimp only
  (repeat' split) <;> simp

@[simp] theorem State.showCounts_keeps (s : State) (k : OwedKind) :
    (s.showCounts k).regs = s.regs ∧ (s.showCounts k).sc = s.sc ∧ (s.showCounts k).comp = s.comp ∧
      (s.showCounts k).form = s.form ∧ (s.showCounts k).store = s.store ∧ (s.showCounts k).builder = s.builder ∧
      (s.showCounts k).cache = s.cache ∧ (s.showCounts k).mtu = s.mtu ∧
      (s.showCounts k).writer.waiting = s.writer.waiting ∧ (s.showCounts k).writer.issued = s.writer.issued ∧
      (s.showCounts k).writer.secondHalf = s.writer.secondHalf ∧ (s.showCounts k).engine = s.engine ∧
      (s.showCounts k).panel = s.panel ∧ (s.showCounts k).hostMem = s.hostMem ∧
      (s.showCounts k).linkOut = s.linkOut ∧ (s.showCounts k).now = s.now ∧
      (s.showCounts k).pending = s.pending := by
  unfold State.showCounts
  split <;> simp

@[simp] theorem State.askWriter_keeps (s : State) :
    (s.askWriter).regs = s.regs ∧ (s.askWriter).sc = s.sc ∧ (s.askWriter).comp = s.comp ∧
      (s.askWriter).form = s.form ∧ (s.askWriter).store = s.store ∧ (s.askWriter).builder = s.builder ∧
      (s.askWriter).cache = s.cache ∧ (s.askWriter).engine = s.engine ∧ (s.askWriter).panel = s.panel ∧
      (s.askWriter).hostMem = s.hostMem ∧ (s.askWriter).linkOut = s.linkOut ∧ (s.askWriter).now = s.now ∧
      (s.askWriter).pending = s.pending := by
  unfold State.askWriter
  try dsimp only
  (repeat' split) <;> simp

@[simp] theorem State.askNext_keeps (s : State) (q : Requester) :
    (s.askNext q).regs = s.regs ∧ (s.askNext q).comp = s.comp ∧ (s.askNext q).form = s.form ∧
      (s.askNext q).store = s.store ∧ (s.askNext q).builder = s.builder ∧ (s.askNext q).cache = s.cache ∧
      (s.askNext q).engine = s.engine ∧ (s.askNext q).panel = s.panel ∧ (s.askNext q).hostMem = s.hostMem ∧
      (s.askNext q).linkOut = s.linkOut ∧ (s.askNext q).now = s.now ∧ (s.askNext q).pending = s.pending := by
  unfold State.askNext
  try dsimp only
  (repeat' split) <;> simp

@[simp] theorem State.grantBus_keeps (s : State) (q p : Requester) :
    (s.grantBus q p).regs = s.regs ∧ (s.grantBus q p).sc = s.sc ∧ (s.grantBus q p).comp = s.comp ∧
      (s.grantBus q p).form = s.form ∧ (s.grantBus q p).store = s.store ∧ (s.grantBus q p).builder = s.builder ∧
      (s.grantBus q p).cache = s.cache ∧ (s.grantBus q p).writer = s.writer ∧ (s.grantBus q p).engine = s.engine ∧
      (s.grantBus q p).counts = s.counts ∧ (s.grantBus q p).panel = s.panel ∧ (s.grantBus q p).hostMem = s.hostMem ∧
      (s.grantBus q p).linkOut = s.linkOut ∧ (s.grantBus q p).now = s.now ∧ (s.grantBus q p).pending = s.pending := by
  unfold State.grantBus
  try dsimp only
  (repeat' split) <;> simp

@[simp] theorem State.arbitrate_keeps (s : State) :
    (s.arbitrate).regs = s.regs ∧ (s.arbitrate).sc = s.sc ∧ (s.arbitrate).comp = s.comp ∧
      (s.arbitrate).form = s.form ∧ (s.arbitrate).store = s.store ∧ (s.arbitrate).builder = s.builder ∧
      (s.arbitrate).cache = s.cache ∧ (s.arbitrate).writer = s.writer ∧ (s.arbitrate).engine = s.engine ∧
      (s.arbitrate).counts = s.counts ∧ (s.arbitrate).panel = s.panel ∧ (s.arbitrate).hostMem = s.hostMem ∧
      (s.arbitrate).linkOut = s.linkOut ∧ (s.arbitrate).now = s.now ∧ (s.arbitrate).pending = s.pending := by
  unfold State.arbitrate
  try dsimp only
  (repeat' split) <;> simp

@[simp] theorem State.serveBus_keeps (s : State) :
    (s.serveBus).regs = s.regs ∧ (s.serveBus).comp = s.comp ∧ (s.serveBus).form = s.form ∧
      (s.serveBus).store = s.store ∧ (s.serveBus).builder = s.builder ∧ (s.serveBus).cache = s.cache ∧
      (s.serveBus).engine = s.engine ∧ (s.serveBus).panel = s.panel ∧ (s.serveBus).hostMem = s.hostMem ∧
      (s.serveBus).linkOut = s.linkOut ∧ (s.serveBus).now = s.now ∧ (s.serveBus).pending = s.pending := by
  unfold State.serveBus
  try dsimp only
  (repeat' split) <;> simp

@[simp] theorem State.askForFailure_keeps (s : State) :
    (s.askForFailure).regs = s.regs ∧ (s.askForFailure).sc = s.sc ∧ (s.askForFailure).comp = s.comp ∧
      (s.askForFailure).form = s.form ∧ (s.askForFailure).store = s.store ∧ (s.askForFailure).builder = s.builder ∧
      (s.askForFailure).cache = s.cache ∧ (s.askForFailure).mtu = s.mtu ∧ (s.askForFailure).engine = s.engine ∧
      (s.askForFailure).counts = s.counts ∧ (s.askForFailure).panel = s.panel ∧
      (s.askForFailure).hostMem = s.hostMem ∧ (s.askForFailure).linkOut = s.linkOut ∧ (s.askForFailure).now = s.now ∧
      (s.askForFailure).pending = s.pending := by
  simp [State.askForFailure]

@[simp] theorem State.countFailure_keeps (s : State) (t : Transfer) :
    (s.countFailure t).regs = s.regs ∧ (s.countFailure t).sc = s.sc ∧ (s.countFailure t).comp = s.comp ∧
      (s.countFailure t).form = s.form ∧ (s.countFailure t).store = s.store ∧ (s.countFailure t).builder = s.builder ∧
      (s.countFailure t).cache = s.cache ∧ (s.countFailure t).mtu = s.mtu ∧ (s.countFailure t).engine = s.engine ∧
      (s.countFailure t).panel = s.panel ∧ (s.countFailure t).hostMem = s.hostMem ∧ (s.countFailure t).linkOut = s.linkOut ∧
      (s.countFailure t).now = s.now ∧ (s.countFailure t).pending = s.pending := by
  unfold State.countFailure
  try dsimp only
  (repeat' split) <;> simp

@[simp] theorem State.takeDirectory_keeps (s : State) (b : List Byte) :
    (s.takeDirectory b).comp = s.comp ∧ (s.takeDirectory b).form = s.form ∧ (s.takeDirectory b).store = s.store ∧
      (s.takeDirectory b).builder = s.builder ∧ (s.takeDirectory b).mtu = s.mtu ∧ (s.takeDirectory b).engine = s.engine ∧
      (s.takeDirectory b).counts = s.counts ∧ (s.takeDirectory b).panel = s.panel ∧ (s.takeDirectory b).hostMem = s.hostMem ∧
      (s.takeDirectory b).linkOut = s.linkOut ∧ (s.takeDirectory b).now = s.now ∧ (s.takeDirectory b).pending = s.pending := by
  unfold State.takeDirectory
  try dsimp only
  (repeat' split) <;> simp

@[simp] theorem State.endLoad_keeps (s : State) (c : FaultCode) :
    (s.endLoad c).regs = s.regs ∧ (s.endLoad c).builder = s.builder ∧ (s.endLoad c).cache = s.cache ∧
      (s.endLoad c).engine = s.engine ∧ (s.endLoad c).counts = s.counts ∧ (s.endLoad c).panel = s.panel ∧
      (s.endLoad c).hostMem = s.hostMem ∧ (s.endLoad c).linkOut = s.linkOut ∧ (s.endLoad c).now = s.now ∧
      (s.endLoad c).pending = s.pending := by
  unfold State.endLoad
  try dsimp only
  (repeat' split) <;> simp

@[simp] theorem State.takeFormBytes_keeps (s : State) (b : List Byte) :
    (s.takeFormBytes b).regs = s.regs ∧ (s.takeFormBytes b).builder = s.builder ∧ (s.takeFormBytes b).cache = s.cache ∧
      (s.takeFormBytes b).engine = s.engine ∧ (s.takeFormBytes b).counts = s.counts ∧ (s.takeFormBytes b).panel = s.panel ∧
      (s.takeFormBytes b).hostMem = s.hostMem ∧ (s.takeFormBytes b).linkOut = s.linkOut ∧ (s.takeFormBytes b).now = s.now ∧
      (s.takeFormBytes b).pending = s.pending := by
  unfold State.takeFormBytes
  try dsimp only
  (repeat' split) <;> simp

@[simp] theorem State.checkForm_keeps (s : State) :
    (s.checkForm).regs = s.regs ∧ (s.checkForm).builder = s.builder ∧ (s.checkForm).cache = s.cache ∧
      (s.checkForm).engine = s.engine ∧ (s.checkForm).counts = s.counts ∧ (s.checkForm).panel = s.panel ∧
      (s.checkForm).hostMem = s.hostMem ∧ (s.checkForm).linkOut = s.linkOut ∧ (s.checkForm).now = s.now ∧
      (s.checkForm).pending = s.pending := by
  unfold State.checkForm
  try dsimp only
  (repeat' split) <;> simp

@[simp] theorem State.takeSubBlock_keeps (s : State) (b : List Byte) :
    (s.takeSubBlock b).regs = s.regs ∧ (s.takeSubBlock b).sc = s.sc ∧ (s.takeSubBlock b).comp = s.comp ∧
      (s.takeSubBlock b).form = s.form ∧ (s.takeSubBlock b).mtu = s.mtu ∧ (s.takeSubBlock b).writer = s.writer ∧
      (s.takeSubBlock b).engine = s.engine ∧ (s.takeSubBlock b).counts = s.counts ∧ (s.takeSubBlock b).panel = s.panel ∧
      (s.takeSubBlock b).hostMem = s.hostMem ∧ (s.takeSubBlock b).linkOut = s.linkOut ∧ (s.takeSubBlock b).now = s.now ∧
      (s.takeSubBlock b).pending = s.pending := by
  unfold State.takeSubBlock
  try dsimp only
  (repeat' split) <;> simp

@[simp] theorem State.failSubBlock_keeps (s : State) :
    (s.failSubBlock).regs = s.regs ∧ (s.failSubBlock).sc = s.sc ∧ (s.failSubBlock).comp = s.comp ∧
      (s.failSubBlock).form = s.form ∧ (s.failSubBlock).mtu = s.mtu ∧ (s.failSubBlock).writer = s.writer ∧
      (s.failSubBlock).engine = s.engine ∧ (s.failSubBlock).counts = s.counts ∧ (s.failSubBlock).panel = s.panel ∧
      (s.failSubBlock).hostMem = s.hostMem ∧ (s.failSubBlock).linkOut = s.linkOut ∧ (s.failSubBlock).now = s.now ∧
      (s.failSubBlock).pending = s.pending := by
  unfold State.failSubBlock
  try dsimp only
  (repeat' split) <;> simp

@[simp] theorem State.failFlushDirectory_keeps (s : State) :
    (s.failFlushDirectory).comp = s.comp ∧ (s.failFlushDirectory).form = s.form ∧ (s.failFlushDirectory).store = s.store ∧
      (s.failFlushDirectory).builder = s.builder ∧ (s.failFlushDirectory).mtu = s.mtu ∧ (s.failFlushDirectory).writer = s.writer ∧
      (s.failFlushDirectory).engine = s.engine ∧ (s.failFlushDirectory).counts = s.counts ∧ (s.failFlushDirectory).panel = s.panel ∧
      (s.failFlushDirectory).hostMem = s.hostMem ∧ (s.failFlushDirectory).linkOut = s.linkOut ∧ (s.failFlushDirectory).now = s.now ∧
      (s.failFlushDirectory).pending = s.pending := by
  unfold State.failFlushDirectory
  try dsimp only
  (repeat' split) <;> simp

@[simp] theorem State.descriptorWritten_keeps (s : State) (n : Fin 8) :
    (s.descriptorWritten n).sc = s.sc ∧ (s.descriptorWritten n).comp = s.comp ∧ (s.descriptorWritten n).form = s.form ∧
      (s.descriptorWritten n).store = s.store ∧ (s.descriptorWritten n).builder = s.builder ∧ (s.descriptorWritten n).cache = s.cache ∧
      (s.descriptorWritten n).mtu = s.mtu ∧ (s.descriptorWritten n).engine = s.engine ∧ (s.descriptorWritten n).counts = s.counts ∧
      (s.descriptorWritten n).panel = s.panel ∧ (s.descriptorWritten n).hostMem = s.hostMem ∧ (s.descriptorWritten n).linkOut = s.linkOut ∧
      (s.descriptorWritten n).now = s.now ∧ (s.descriptorWritten n).pending = s.pending := by
  unfold State.descriptorWritten
  try dsimp only
  (repeat' split) <;> simp

@[simp] theorem State.requestFieldWritten_keeps (s : State) (n : Fin 8) (c : Bool) :
    (s.requestFieldWritten n c).builder = s.builder ∧ (s.requestFieldWritten n c).cache = s.cache ∧ (s.requestFieldWritten n c).engine = s.engine ∧
      (s.requestFieldWritten n c).counts = s.counts ∧ (s.requestFieldWritten n c).panel = s.panel ∧ (s.requestFieldWritten n c).hostMem = s.hostMem ∧
      (s.requestFieldWritten n c).linkOut = s.linkOut ∧ (s.requestFieldWritten n c).now = s.now ∧ (s.requestFieldWritten n c).pending = s.pending := by
  unfold State.requestFieldWritten
  try dsimp only
  (repeat' split) <;> simp

@[simp] theorem State.deviceRecordWritten_keeps (s : State) :
    (s.deviceRecordWritten).regs = s.regs ∧ (s.deviceRecordWritten).sc = s.sc ∧ (s.deviceRecordWritten).comp = s.comp ∧
      (s.deviceRecordWritten).form = s.form ∧ (s.deviceRecordWritten).store = s.store ∧ (s.deviceRecordWritten).builder = s.builder ∧
      (s.deviceRecordWritten).cache = s.cache ∧ (s.deviceRecordWritten).mtu = s.mtu ∧ (s.deviceRecordWritten).engine = s.engine ∧
      (s.deviceRecordWritten).counts = s.counts ∧ (s.deviceRecordWritten).panel = s.panel ∧ (s.deviceRecordWritten).hostMem = s.hostMem ∧
      (s.deviceRecordWritten).linkOut = s.linkOut ∧ (s.deviceRecordWritten).now = s.now ∧ (s.deviceRecordWritten).pending = s.pending := by
  unfold State.deviceRecordWritten
  try dsimp only
  (repeat' split) <;> simp

@[simp] theorem State.failHeader_keeps (s : State) :
    (s.failHeader).comp = s.comp ∧ (s.failHeader).form = s.form ∧ (s.failHeader).store = s.store ∧
      (s.failHeader).builder = s.builder ∧ (s.failHeader).cache = s.cache ∧ (s.failHeader).mtu = s.mtu ∧
      (s.failHeader).writer = s.writer ∧ (s.failHeader).engine = s.engine ∧ (s.failHeader).counts = s.counts ∧
      (s.failHeader).panel = s.panel ∧ (s.failHeader).hostMem = s.hostMem ∧ (s.failHeader).linkOut = s.linkOut ∧
      (s.failHeader).now = s.now ∧ (s.failHeader).pending = s.pending := by
  unfold State.failHeader
  try dsimp only
  (repeat' split) <;> simp

@[simp] theorem State.failDescriptor_keeps (s : State) (n : Fin 8) :
    (s.failDescriptor n).comp = s.comp ∧ (s.failDescriptor n).form = s.form ∧ (s.failDescriptor n).store = s.store ∧
      (s.failDescriptor n).builder = s.builder ∧ (s.failDescriptor n).cache = s.cache ∧ (s.failDescriptor n).mtu = s.mtu ∧
      (s.failDescriptor n).engine = s.engine ∧ (s.failDescriptor n).counts = s.counts ∧ (s.failDescriptor n).panel = s.panel ∧
      (s.failDescriptor n).hostMem = s.hostMem ∧ (s.failDescriptor n).linkOut = s.linkOut ∧ (s.failDescriptor n).now = s.now ∧
      (s.failDescriptor n).pending = s.pending := by
  unfold State.failDescriptor
  try dsimp only
  (repeat' split) <;> simp

@[simp] theorem State.settleImaging_keeps (s : State) :
    (s.settleImaging).regs = s.regs ∧ (s.settleImaging).engine = s.engine ∧ (s.settleImaging).counts = s.counts ∧
      (s.settleImaging).panel = s.panel ∧ (s.settleImaging).hostMem = s.hostMem ∧ (s.settleImaging).linkOut = s.linkOut ∧
      (s.settleImaging).now = s.now ∧ (s.settleImaging).pending = s.pending := by
  unfold State.settleImaging
  try dsimp only
  (repeat' split) <;> simp

@[simp] theorem State.settleComposer_keeps (s : State) :
    (s.settleComposer).regs = s.regs ∧ (s.settleComposer).builder = s.builder ∧ (s.settleComposer).cache = s.cache ∧
      (s.settleComposer).engine = s.engine ∧ (s.settleComposer).counts = s.counts ∧ (s.settleComposer).panel = s.panel ∧
      (s.settleComposer).hostMem = s.hostMem ∧ (s.settleComposer).linkOut = s.linkOut ∧ (s.settleComposer).now = s.now ∧
      (s.settleComposer).pending = s.pending := by
  unfold State.settleComposer
  try dsimp only
  (repeat' split) <;> simp

@[simp] theorem State.settleEngine_keeps (s : State) :
    (s.settleEngine).sc = s.sc ∧ (s.settleEngine).comp = s.comp ∧ (s.settleEngine).form = s.form ∧
      (s.settleEngine).store = s.store ∧ (s.settleEngine).builder = s.builder ∧ (s.settleEngine).cache = s.cache ∧
      (s.settleEngine).mtu = s.mtu ∧ (s.settleEngine).writer = s.writer ∧ (s.settleEngine).hostMem = s.hostMem ∧
      (s.settleEngine).now = s.now ∧ (s.settleEngine).pending = s.pending := by
  unfold State.settleEngine
  try dsimp only
  (repeat' split) <;> simp

@[simp] theorem State.settleBus_keeps (s : State) :
    (s.settleBus).regs = s.regs ∧ (s.settleBus).comp = s.comp ∧ (s.settleBus).form = s.form ∧
      (s.settleBus).store = s.store ∧ (s.settleBus).builder = s.builder ∧ (s.settleBus).cache = s.cache ∧
      (s.settleBus).engine = s.engine ∧ (s.settleBus).panel = s.panel ∧ (s.settleBus).hostMem = s.hostMem ∧
      (s.settleBus).linkOut = s.linkOut ∧ (s.settleBus).now = s.now ∧ (s.settleBus).pending = s.pending := by
  unfold State.settleBus
  try dsimp only
  (repeat' split) <;> simp

@[simp] theorem State.engineRun_keeps (s : State) :
    (s.engineRun).sc = s.sc ∧ (s.engineRun).comp = s.comp ∧ (s.engineRun).form = s.form ∧
      (s.engineRun).store = s.store ∧ (s.engineRun).builder = s.builder ∧ (s.engineRun).cache = s.cache ∧
      (s.engineRun).mtu = s.mtu ∧ (s.engineRun).writer = s.writer ∧ (s.engineRun).counts = s.counts ∧
      (s.engineRun).panel = s.panel ∧ (s.engineRun).hostMem = s.hostMem ∧ (s.engineRun).linkOut = s.linkOut ∧
      (s.engineRun).now = s.now ∧ (s.engineRun).pending = s.pending := by
  unfold State.engineRun
  try dsimp only
  (repeat' split) <;> simp

@[simp] theorem State.runOn_keeps (s : State) :
    (s.runOn).form = s.form ∧ (s.runOn).store = s.store ∧ (s.runOn).builder = s.builder ∧
      (s.runOn).cache = s.cache ∧ (s.runOn).mtu = s.mtu ∧ (s.runOn).writer = s.writer ∧
      (s.runOn).counts = s.counts ∧ (s.runOn).panel = s.panel ∧ (s.runOn).hostMem = s.hostMem ∧
      (s.runOn).linkOut = s.linkOut ∧ (s.runOn).now = s.now ∧ (s.runOn).pending = s.pending := by
  unfold State.runOn
  try dsimp only
  (repeat' split) <;> simp

@[simp] theorem State.enginePause_keeps (s : State) :
    (s.enginePause).sc = s.sc ∧ (s.enginePause).comp = s.comp ∧ (s.enginePause).form = s.form ∧
      (s.enginePause).store = s.store ∧ (s.enginePause).builder = s.builder ∧ (s.enginePause).cache = s.cache ∧
      (s.enginePause).mtu = s.mtu ∧ (s.enginePause).writer = s.writer ∧ (s.enginePause).counts = s.counts ∧
      (s.enginePause).panel = s.panel ∧ (s.enginePause).hostMem = s.hostMem ∧ (s.enginePause).linkOut = s.linkOut ∧
      (s.enginePause).now = s.now ∧ (s.enginePause).pending = s.pending := by
  unfold State.enginePause
  try dsimp only
  (repeat' split) <;> simp

@[simp] theorem State.runOff_keeps (s : State) :
    (s.runOff).form = s.form ∧ (s.runOff).store = s.store ∧ (s.runOff).builder = s.builder ∧
      (s.runOff).cache = s.cache ∧ (s.runOff).writer = s.writer ∧ (s.runOff).counts = s.counts ∧
      (s.runOff).panel = s.panel ∧ (s.runOff).hostMem = s.hostMem ∧ (s.runOff).linkOut = s.linkOut ∧
      (s.runOff).now = s.now ∧ (s.runOff).pending = s.pending := by
  unfold State.runOff
  try dsimp only
  (repeat' split) <;> simp

@[simp] theorem State.askFlush_keeps (s : State) :
    (s.askFlush).regs = s.regs ∧ (s.askFlush).sc = s.sc ∧ (s.askFlush).comp = s.comp ∧
      (s.askFlush).form = s.form ∧ (s.askFlush).store = s.store ∧ (s.askFlush).builder = s.builder ∧
      (s.askFlush).mtu = s.mtu ∧ (s.askFlush).writer = s.writer ∧ (s.askFlush).engine = s.engine ∧
      (s.askFlush).counts = s.counts ∧ (s.askFlush).panel = s.panel ∧ (s.askFlush).hostMem = s.hostMem ∧
      (s.askFlush).linkOut = s.linkOut ∧ (s.askFlush).now = s.now ∧ (s.askFlush).pending = s.pending := by
  unfold State.askFlush
  try dsimp only
  (repeat' split) <;> simp

@[simp] theorem State.moveArea_keeps (s : State) (v : Word32) :
    (s.moveArea v).comp = s.comp ∧ (s.moveArea v).form = s.form ∧ (s.moveArea v).store = s.store ∧
      (s.moveArea v).builder = s.builder ∧ (s.moveArea v).cache = s.cache ∧ (s.moveArea v).mtu = s.mtu ∧
      (s.moveArea v).writer = s.writer ∧ (s.moveArea v).engine = s.engine ∧ (s.moveArea v).counts = s.counts ∧
      (s.moveArea v).panel = s.panel ∧ (s.moveArea v).hostMem = s.hostMem ∧ (s.moveArea v).linkOut = s.linkOut ∧
      (s.moveArea v).now = s.now ∧ (s.moveArea v).pending = s.pending := by
  unfold State.moveArea
  try dsimp only
  (repeat' split) <;> simp

@[simp] theorem State.writeArea_keeps (s : State) (v : Word32) :
    (s.writeArea v).comp = s.comp ∧ (s.writeArea v).form = s.form ∧ (s.writeArea v).store = s.store ∧
      (s.writeArea v).builder = s.builder ∧ (s.writeArea v).cache = s.cache ∧ (s.writeArea v).engine = s.engine ∧
      (s.writeArea v).panel = s.panel ∧ (s.writeArea v).hostMem = s.hostMem ∧ (s.writeArea v).linkOut = s.linkOut ∧
      (s.writeArea v).now = s.now ∧ (s.writeArea v).pending = s.pending := by
  unfold State.writeArea
  try dsimp only
  (repeat' split) <;> simp

@[simp] theorem State.pressTop_keeps (s : State) :
    (s.pressTop).regs = s.regs ∧ (s.pressTop).sc = s.sc ∧ (s.pressTop).comp = s.comp ∧
      (s.pressTop).form = s.form ∧ (s.pressTop).store = s.store ∧ (s.pressTop).builder = s.builder ∧
      (s.pressTop).cache = s.cache ∧ (s.pressTop).mtu = s.mtu ∧ (s.pressTop).writer = s.writer ∧
      (s.pressTop).counts = s.counts ∧ (s.pressTop).panel = s.panel ∧ (s.pressTop).hostMem = s.hostMem ∧
      (s.pressTop).now = s.now ∧ (s.pressTop).pending = s.pending := by
  unfold State.pressTop
  try dsimp only
  (repeat' split) <;> simp

@[simp] theorem State.pressLine_keeps (s : State) :
    (s.pressLine).regs = s.regs ∧ (s.pressLine).sc = s.sc ∧ (s.pressLine).comp = s.comp ∧
      (s.pressLine).form = s.form ∧ (s.pressLine).store = s.store ∧ (s.pressLine).builder = s.builder ∧
      (s.pressLine).cache = s.cache ∧ (s.pressLine).mtu = s.mtu ∧ (s.pressLine).writer = s.writer ∧
      (s.pressLine).hostMem = s.hostMem ∧ (s.pressLine).now = s.now ∧ (s.pressLine).pending = s.pending := by
  unfold State.pressLine
  try dsimp only
  (repeat' split) <;> simp

@[simp] theorem State.release_keeps (s : State) (b : Button) :
    (s.release b).regs = s.regs ∧ (s.release b).sc = s.sc ∧ (s.release b).comp = s.comp ∧
      (s.release b).form = s.form ∧ (s.release b).store = s.store ∧ (s.release b).builder = s.builder ∧
      (s.release b).cache = s.cache ∧ (s.release b).mtu = s.mtu ∧ (s.release b).writer = s.writer ∧
      (s.release b).engine = s.engine ∧ (s.release b).counts = s.counts ∧ (s.release b).hostMem = s.hostMem ∧
      (s.release b).linkOut = s.linkOut ∧ (s.release b).now = s.now ∧ (s.release b).pending = s.pending := by
  unfold State.release
  try dsimp only
  (repeat' split) <;> simp

@[simp] theorem State.repeatLine_keeps (s : State) :
    (s.repeatLine).regs = s.regs ∧ (s.repeatLine).sc = s.sc ∧ (s.repeatLine).comp = s.comp ∧
      (s.repeatLine).form = s.form ∧ (s.repeatLine).store = s.store ∧ (s.repeatLine).builder = s.builder ∧
      (s.repeatLine).cache = s.cache ∧ (s.repeatLine).mtu = s.mtu ∧ (s.repeatLine).writer = s.writer ∧
      (s.repeatLine).hostMem = s.hostMem ∧ (s.repeatLine).now = s.now ∧ (s.repeatLine).pending = s.pending := by
  unfold State.repeatLine
  try dsimp only
  (repeat' split) <;> simp

@[simp] theorem State.missPoll_keeps (s : State) :
    (s.missPoll).comp = s.comp ∧ (s.missPoll).form = s.form ∧ (s.missPoll).mtu = s.mtu ∧
      (s.missPoll).writer = s.writer ∧ (s.missPoll).counts = s.counts ∧ (s.missPoll).hostMem = s.hostMem ∧
      (s.missPoll).linkOut = s.linkOut ∧ (s.missPoll).now = s.now ∧ (s.missPoll).pending = s.pending := by
  unfold State.missPoll
  try dsimp only
  (repeat' split) <;> simp

end Sys2Proof.Machine
end

