-- ==== Sys2Proof/Laws/Settle.lean ====
section
/-! SUPPORT. What follows a command: what `State.settle` can change, and when its parts change nothing. -/

namespace Sys2Proof.Machine

/-! ## Register fields that no block changes -/

/-- What the host alone sets: every field of the Register Window but EVENTS, and the sweep timer. -/
structure RegisterWindow.SameSetting (a b : RegisterWindow) : Prop where
  run : a.run = b.run
  resetBusy : a.resetBusy = b.resetBusy
  sweepInterval : a.sweepInterval = b.sweepInterval
  eventMask : a.eventMask = b.eventMask
  areaBase : a.areaBase = b.areaBase
  rstimg : a.rstimg = b.rstimg

theorem RegisterWindow.SameSetting.refl (a : RegisterWindow) : a.SameSetting a := ⟨rfl, rfl, rfl, rfl, rfl, rfl⟩

theorem RegisterWindow.SameSetting.trans {a b c : RegisterWindow} (h : a.SameSetting b) (k : b.SameSetting c) :
    a.SameSetting c :=
  ⟨h.1.trans k.1, h.2.trans k.2, h.3.trans k.3, h.4.trans k.4, h.5.trans k.5, h.6.trans k.6⟩

/-- A raise changes EVENTS only. -/
@[simp] theorem State.raise_setting (s : State) (b : BitVec 11) :
    (s.raise b).regs.run = s.regs.run ∧ (s.raise b).regs.resetBusy = s.regs.resetBusy ∧
      (s.raise b).regs.sweepInterval = s.regs.sweepInterval ∧ (s.raise b).regs.eventMask = s.regs.eventMask ∧
      (s.raise b).regs.areaBase = s.regs.areaBase ∧ (s.raise b).regs.rstimg = s.regs.rstimg ∧
      (s.raise b).regs.sweepTimer = s.regs.sweepTimer := by
  unfold State.raise
  split <;> simp

@[simp] theorem State.enterHeld_setting (s : State) (r : HoldReason) :
    (s.enterHeld r).regs.run = s.regs.run ∧ (s.enterHeld r).regs.resetBusy = s.regs.resetBusy ∧
      (s.enterHeld r).regs.sweepInterval = s.regs.sweepInterval ∧ (s.enterHeld r).regs.eventMask = s.regs.eventMask ∧
      (s.enterHeld r).regs.areaBase = s.regs.areaBase ∧ (s.enterHeld r).regs.rstimg = s.regs.rstimg ∧
      (s.enterHeld r).regs.sweepTimer = s.regs.sweepTimer := by
  unfold State.enterHeld
  dsimp only
  split <;> simp

@[simp] theorem State.moveGate_setting (s : State) :
    (s.moveGate).regs.run = s.regs.run ∧ (s.moveGate).regs.resetBusy = s.regs.resetBusy ∧
      (s.moveGate).regs.sweepInterval = s.regs.sweepInterval ∧ (s.moveGate).regs.eventMask = s.regs.eventMask ∧
      (s.moveGate).regs.areaBase = s.regs.areaBase ∧ (s.moveGate).regs.rstimg = s.regs.rstimg ∧
      (s.moveGate).regs.sweepTimer = s.regs.sweepTimer := by
  unfold State.moveGate
  dsimp only
  split <;> simp

@[simp] theorem State.enterGate_setting (s : State) :
    s.enterGate.regs.run = s.regs.run ∧ s.enterGate.regs.resetBusy = s.regs.resetBusy ∧
      s.enterGate.regs.sweepInterval = s.regs.sweepInterval ∧ s.enterGate.regs.eventMask = s.regs.eventMask ∧
      s.enterGate.regs.areaBase = s.regs.areaBase ∧ s.enterGate.regs.rstimg = s.regs.rstimg ∧
      s.enterGate.regs.sweepTimer = s.regs.sweepTimer := by
  unfold State.enterGate
  (repeat' split) <;> simp

@[simp] theorem State.holdAtBoundary_setting (s : State) :
    s.holdAtBoundary.regs.run = s.regs.run ∧ s.holdAtBoundary.regs.resetBusy = s.regs.resetBusy ∧
      s.holdAtBoundary.regs.sweepInterval = s.regs.sweepInterval ∧ s.holdAtBoundary.regs.eventMask = s.regs.eventMask ∧
      s.holdAtBoundary.regs.areaBase = s.regs.areaBase ∧ s.holdAtBoundary.regs.rstimg = s.regs.rstimg ∧
      s.holdAtBoundary.regs.sweepTimer = s.regs.sweepTimer := by
  unfold State.holdAtBoundary
  (repeat' split) <;> simp

@[simp] theorem State.lookAtGate_setting (s : State) :
    s.lookAtGate.regs.run = s.regs.run ∧ s.lookAtGate.regs.resetBusy = s.regs.resetBusy ∧
      s.lookAtGate.regs.sweepInterval = s.regs.sweepInterval ∧ s.lookAtGate.regs.eventMask = s.regs.eventMask ∧
      s.lookAtGate.regs.areaBase = s.regs.areaBase ∧ s.lookAtGate.regs.rstimg = s.regs.rstimg ∧
      s.lookAtGate.regs.sweepTimer = s.regs.sweepTimer := by
  unfold State.lookAtGate
  (repeat' split) <;> simp

/-! ## The parts of a settlement -/

/-- Making the reports of several streams. -/
@[simp] theorem State.foldl_makeReport_keeps (old : State) (l : List (Fin 8)) (s : State) :
    (l.foldl (State.makeReport old) s).regs = s.regs ∧ (l.foldl (State.makeReport old) s).comp = s.comp ∧
      (l.foldl (State.makeReport old) s).form = s.form ∧ (l.foldl (State.makeReport old) s).store = s.store ∧
      (l.foldl (State.makeReport old) s).builder = s.builder ∧ (l.foldl (State.makeReport old) s).cache = s.cache ∧
      (l.foldl (State.makeReport old) s).mtu = s.mtu ∧ (l.foldl (State.makeReport old) s).engine = s.engine ∧
      (l.foldl (State.makeReport old) s).counts = s.counts ∧ (l.foldl (State.makeReport old) s).panel = s.panel ∧
      (l.foldl (State.makeReport old) s).hostMem = s.hostMem ∧ (l.foldl (State.makeReport old) s).linkOut = s.linkOut ∧
      (l.foldl (State.makeReport old) s).now = s.now ∧ (l.foldl (State.makeReport old) s).pending = s.pending := by
  induction l generalizing s with
  | nil => simp
  | cons a l ih => simp [ih]

/-- Asking for the changed descriptors adds to the Status Writer's list and does nothing else. -/
theorem State.foldl_ask_frame (old : State) (l : List (Fin 8)) (s : State) :
    let f : State → Fin 8 → State := fun s n =>
      if (s.stream n).shown = (old.stream n).shown then s else s.askDescriptor n false
    (l.foldl f s).sc = s.sc ∧ (l.foldl f s).regs = s.regs ∧ (l.foldl f s).comp = s.comp ∧
      (l.foldl f s).form = s.form ∧ (l.foldl f s).store = s.store ∧ (l.foldl f s).builder = s.builder ∧
      (l.foldl f s).cache = s.cache ∧ (l.foldl f s).mtu = s.mtu ∧ (l.foldl f s).engine = s.engine ∧
      (l.foldl f s).counts = s.counts ∧ (l.foldl f s).panel = s.panel ∧ (l.foldl f s).hostMem = s.hostMem ∧
      (l.foldl f s).linkOut = s.linkOut ∧ (l.foldl f s).now = s.now ∧ (l.foldl f s).pending = s.pending := by
  intro f
  induction l generalizing s with
  | nil => simp
  | cons a l ih =>
    have h := ih (f s a)
    simp only [List.foldl_cons]
    simp only [f] at h ⊢
    split at h <;> rename_i c <;> simp only [c, if_true, if_false] <;> simpa using h

@[simp] theorem State.askChanged_keeps (old s : State) :
    (State.askChanged old s).sc = s.sc ∧ (State.askChanged old s).regs = s.regs ∧
      (State.askChanged old s).comp = s.comp ∧ (State.askChanged old s).form = s.form ∧
      (State.askChanged old s).store = s.store ∧ (State.askChanged old s).builder = s.builder ∧
      (State.askChanged old s).cache = s.cache ∧ (State.askChanged old s).mtu = s.mtu ∧
      (State.askChanged old s).engine = s.engine ∧ (State.askChanged old s).counts = s.counts ∧
      (State.askChanged old s).panel = s.panel ∧ (State.askChanged old s).hostMem = s.hostMem ∧
      (State.askChanged old s).linkOut = s.linkOut ∧ (State.askChanged old s).now = s.now ∧
      (State.askChanged old s).pending = s.pending :=
  State.foldl_ask_frame old allStreams s

@[simp] theorem State.askRecordChanged_keeps (old s : State) :
    (State.askRecordChanged old s).sc = s.sc ∧ (State.askRecordChanged old s).regs = s.regs ∧
      (State.askRecordChanged old s).comp = s.comp ∧ (State.askRecordChanged old s).form = s.form ∧
      (State.askRecordChanged old s).store = s.store ∧ (State.askRecordChanged old s).builder = s.builder ∧
      (State.askRecordChanged old s).cache = s.cache ∧ (State.askRecordChanged old s).mtu = s.mtu ∧
      (State.askRecordChanged old s).engine = s.engine ∧ (State.askRecordChanged old s).counts = s.counts ∧
      (State.askRecordChanged old s).panel = s.panel ∧ (State.askRecordChanged old s).hostMem = s.hostMem ∧
      (State.askRecordChanged old s).linkOut = s.linkOut ∧ (State.askRecordChanged old s).now = s.now ∧
      (State.askRecordChanged old s).pending = s.pending := by
  unfold State.askRecordChanged
  split <;> simp

@[simp] theorem State.settleStatus_keeps (old s : State) :
    (State.settleStatus old s).regs = s.regs ∧
      (State.settleStatus old s).comp = s.comp ∧ (State.settleStatus old s).form = s.form ∧
      (State.settleStatus old s).store = s.store ∧ (State.settleStatus old s).builder = s.builder ∧
      (State.settleStatus old s).cache = s.cache ∧ (State.settleStatus old s).mtu = s.mtu ∧
      (State.settleStatus old s).engine = s.engine ∧ (State.settleStatus old s).counts = s.counts ∧
      (State.settleStatus old s).panel = s.panel ∧ (State.settleStatus old s).hostMem = s.hostMem ∧
      (State.settleStatus old s).linkOut = s.linkOut ∧ (State.settleStatus old s).now = s.now ∧
      (State.settleStatus old s).pending = s.pending := by
  simp [State.settleStatus]

/-- What no settlement changes: time, host memory, the queue, and what the host has set. -/
@[simp] theorem State.settle_keeps (old s : State) :
    (State.settle old s).now = s.now ∧ (State.settle old s).hostMem = s.hostMem ∧
      (State.settle old s).pending = s.pending ∧ (State.settle old s).regs.run = s.regs.run ∧
      (State.settle old s).regs.resetBusy = s.regs.resetBusy ∧
      (State.settle old s).regs.sweepInterval = s.regs.sweepInterval ∧
      (State.settle old s).regs.eventMask = s.regs.eventMask ∧ (State.settle old s).regs.areaBase = s.regs.areaBase ∧
      (State.settle old s).regs.rstimg = s.regs.rstimg ∧ (State.settle old s).regs.sweepTimer = s.regs.sweepTimer := by
  unfold State.settle
  split <;> simp [State.settleEngine]

/-! ## The Stream Controller through a settlement -/

/-- What two Stream Controllers share when they differ at most in wait reasons, job reports and the Stream
Reader's turn. -/
structure State.SameStreams (s t : State) : Prop where
  core : ∀ n, (s.stream n).core = (t.stream n).core
  queue : s.sc.queue = t.sc.queue
  buffer : s.sc.buffer = t.sc.buffer
  readFailed : s.sc.readFailed = t.sc.readFailed
  held : s.sc.held = t.sc.held
  view : s.sc.view = t.sc.view

theorem State.SameStreams.of_eq {s t : State} (h : s.sc = t.sc) : s.SameStreams t :=
  ⟨fun n => by rw [State.stream_congr h], by rw [h], by rw [h], by rw [h], by rw [h], by rw [h]⟩

theorem State.SameStreams.trans {a b c : State} (h : a.SameStreams b) (k : b.SameStreams c) : a.SameStreams c :=
  ⟨fun n => (h.core n).trans (k.core n), h.queue.trans k.queue, h.buffer.trans k.buffer,
    h.readFailed.trans k.readFailed, h.held.trans k.held, h.view.trans k.view⟩

theorem State.makeReport_same (old s : State) (n : Fin 8) : (State.makeReport old s n).SameStreams s := by
  unfold State.makeReport
  split
  · split
    · refine ⟨fun m => ?_, rfl, rfl, rfl, rfl, rfl⟩
      rw [State.stream_ask, State.stream_modStream]
      split <;> simp [StreamRec.core]
    · exact .of_eq rfl
  · exact .of_eq rfl

theorem State.foldl_makeReport_same (old : State) (l : List (Fin 8)) (s : State) : (l.foldl (State.makeReport old) s).SameStreams s := by
  induction l generalizing s with
  | nil => exact .of_eq rfl
  | cons a l ih => exact (ih _).trans (State.makeReport_same old s a)

theorem State.syncWaits_same (s : State) : s.syncWaits.SameStreams s := by
  refine ⟨fun n => ?_, rfl, rfl, rfl, rfl, rfl⟩
  simp [State.stream, State.syncWaits, StreamRec.core]

theorem State.settleStatus_same (old s : State) : (State.settleStatus old s).SameStreams s := by
  have k := State.foldl_makeReport_same old allStreams (State.askChanged old s.syncWaits)
  refine .trans (.of_eq (by simp [State.settleStatus])) (k.trans ?_)
  exact .trans (.of_eq (by simp)) s.syncWaits_same

/-- The Stream Reader's asking changes only whose turn it is. -/
theorem State.askReader_same (s : State) : s.askReader.SameStreams s := by
  unfold State.askReader
  dsimp only
  (repeat' split) <;> exact ⟨fun n => rfl, rfl, rfl, rfl, rfl, rfl⟩

theorem State.askNext_same (s : State) (q : Requester) : (s.askNext q).SameStreams s := by
  unfold State.askNext
  split
  · cases q
    · exact s.askReader_same
    all_goals exact .of_eq (by simp)
  · exact .of_eq rfl

theorem State.arbitrate_same (s : State) : s.arbitrate.SameStreams s := .of_eq (by simp)

/-- The bus changes nothing of the streams. -/
theorem State.serveBus_same (s : State) : s.serveBus.SameStreams s := by
  unfold State.serveBus
  exact (State.arbitrate_same _).trans <| (State.askNext_same _ _).trans <| (State.askNext_same _ _).trans <|
    (State.askNext_same _ _).trans <| (State.askNext_same _ _).trans (State.arbitrate_same _)

/-! ## When nothing of the Composer moves -/

theorem State.resumeWait_composed {s : State} (h : s.comp.waits = false) : s.resumeWait = s := by
  have h1 : s.comp.state ≠ .waitSlot := by intro e; simp [Composer.waits, e] at h
  have h2 : s.comp.state ≠ .waitStrike := by intro e; simp [Composer.waits, e] at h
  unfold State.resumeWait
  split
  · rfl
  · split <;> simp_all

theorem State.memReadFault_composed {s : State} (h : s.sc.readFailed = false) : s.memReadFault = s := by
  unfold State.memReadFault State.needsFailed
  split <;> simp [h]

theorem State.checkForm_composed {s : State} (h : s.form.noCheck = true) : s.checkForm = s := by
  unfold State.checkForm
  split
  · rename_i l _ e _
    have : l.step ≠ .check := by simpa [FormUnit.noCheck, e] using h
    simp [this]
  · rfl

theorem State.settleComposer_composed {s : State} (h : s.Composed) : s.settleComposer = s.grant := by
  simp [State.settleComposer, State.resumeWait_composed h.waits, State.memReadFault_composed h.readFailed]

theorem State.settleImaging_composed {s : State} (h : s.Composed) :
    s.settleImaging.sc = s.sc ∧ s.settleImaging.comp = s.comp ∧ s.settleImaging.form = s.form ∧
      s.settleImaging.store = s.store ∧ s.settleImaging.mtu = s.mtu ∧ s.settleImaging.writer = s.writer := by
  have e : s.settleImaging = (s.startRebuild Config.sentMax).cacheBoundary := by
    apply State.checkForm_composed
    simpa using h.noCheck
  simp [e]

/-- The grant looks at the Stream Controller and RUN alone. -/
theorem State.grant_congr {s t : State} (h : s.sc = t.sc) (k : s.regs.run = t.regs.run) :
    s.grant.sc = t.grant.sc ∧ (s.comp = t.comp → s.grant.comp = t.grant.comp) := by
  unfold State.grant
  rw [State.owner_congr h, h, k]
  split
  · split <;> simp [State.modStream, h]
  · exact ⟨h, id⟩

/-- With an owner, while RUN is 0, or with an empty Job Queue, nothing is granted (R35). -/
theorem State.grant_none {s : State} (h : s.owner ≠ none ∨ s.regs.run = false ∨ s.sc.queue = []) : s.grant = s := by
  unfold State.grant
  split
  · rename_i n rest e1 e2
    rcases h with h | h | h
    · exact absurd e1 h
    · simp [h]
    · simp [h] at e2
  · rfl

/-- A settlement in which nothing of the Composer moves: the Page Store and the Form Unit stay, the streams are
those after the grant. -/
theorem State.settle_composed (old : State) {u : State} (hb : u.regs.resetBusy = false) (h : u.Composed) :
    (State.settle old u).store = u.store ∧ (State.settle old u).form = u.form ∧
      (State.settle old u).comp = u.grant.comp ∧ (State.settle old u).SameStreams u.grant := by
  have hs : (State.settle old u) =
      (State.settleStatus old (u.settleImaging.settleComposer.settleEngine)).serveBus := by
    simp [State.settle, hb]
  obtain ⟨i1, i2, i3, i4, i5, i6⟩ := State.settleImaging_composed h
  have hc : u.settleImaging.Composed := ⟨by rw [i2]; exact h.waits, by rw [i1]; exact h.readFailed, by rw [i3]; exact h.noCheck⟩
  have hg := State.grant_congr (s := u.settleImaging) (t := u) i1 (by simp)
  rw [hs, State.settleComposer_composed hc]
  refine ⟨by simp [State.settleEngine, i4], by simp [State.settleEngine, i3], ?_, ?_⟩
  · simp [State.settleEngine, hg.2 i2]
  · exact (State.serveBus_same _).trans <| (State.settleStatus_same _ _).trans (.of_eq (by simp [State.settleEngine, hg.1]))

/-! ## Answers of the bus -/

/-- A late answer changes nothing (R157). -/
@[simp] theorem answered_late (s t : State) : s.answered true t = s := rfl

/-- An answer for the transfer on the bus goes on with what follows it (R157). -/
@[simp] theorem answered_now (s t : State) : s.answered false t = State.settle s t := rfl

end Sys2Proof.Machine
end

