-- ==== Sys2Proof/Laws/Views.lean ====
section
/-! SUPPORT. The operations of records, requests, faults and pages leave the scan's part of the Stream Controller
as it was; so does every settlement. -/

namespace Sys2Proof.Machine

@[simp] theorem State.modStream_view (s : State) (n : Fin 8) (f : StreamRec → StreamRec) :
    (s.modStream n f).sc.view = s.sc.view := rfl

@[simp] theorem State.enqueue_view (s : State) (n : Fin 8) :
    (s.enqueue n).sc.view = s.sc.view := rfl

@[simp] theorem State.dequeue_view (s : State) (n : Fin 8) :
    (s.dequeue n).sc.view = s.sc.view := rfl

@[simp] theorem State.syncWaits_view (s : State) :
    (s.syncWaits).sc.view = s.sc.view := rfl

@[simp] theorem State.reportsFall_view (s : State) (n : Fin 8) (ends : List JobEnd) :
    (s.reportsFall n ends).sc.view = s.sc.view := rfl

@[simp] theorem State.openAt_view (s : State) (i : Fin 4) (n : Fin 8) (tag : Word32) (number : Nat) (first : Bool) :
    (s.openAt i n tag number first).sc.view = s.sc.view := rfl

@[simp] theorem State.openNext_view (s : State) (i : Fin 4) (n : Fin 8) (number : Nat) :
    (s.openNext i n number).sc.view = s.sc.view := rfl

@[simp] theorem State.setCursor_view (s : State) (n : Fin 8) (line : Nat) :
    (s.setCursor n line).sc.view = s.sc.view := rfl

@[simp] theorem State.beginDiscard_view (s : State) (n : Fin 8) (reports : Bool) :
    (s.beginDiscard n reports).sc.view = s.sc.view := rfl

@[simp] theorem State.withdrawStream_view (s : State) (n : Fin 8) :
    (s.withdrawStream n).sc.view = s.sc.view := rfl

@[simp] theorem State.cancelJobs_view (s : State) (n : Fin 8) :
    (s.cancelJobs n).sc.view = s.sc.view := rfl

@[simp] theorem State.takeRingBytes_view (s : State) (b : List Byte) :
    (s.takeRingBytes b).sc.view = s.sc.view := rfl

@[simp] theorem State.holdRecord_view (s : State) (n : Fin 8) (b : List Byte) :
    (s.holdRecord n b).sc.view = s.sc.view := rfl

@[simp] theorem State.dropHeld_view (s : State) (n : Fin 8) :
    (s.dropHeld n).sc.view = s.sc.view := rfl

@[simp] theorem State.enterState_view (s : State) (n : Fin 8) (st : StreamState) :
    (s.enterState n st).sc.view = s.sc.view := by
  unfold State.enterState
  try dsimp only
  (repeat' split) <;> simp

@[simp] theorem State.reportMark_view (s : State) (n : Fin 8) (t : Option Word32) :
    (s.reportMark n t).sc.view = s.sc.view := by
  unfold State.reportMark
  try dsimp only
  (repeat' split) <;> simp

@[simp] theorem State.closeSteps_view (s : State) (i : Fin 4) (e : Nat) :
    (s.closeSteps i e).sc.view = s.sc.view := by
  unfold State.closeSteps
  try dsimp only
  (repeat' split) <;> simp

@[simp] theorem State.closeFinal_view (s : State) (i : Fin 4) (j : Option JobEnd) :
    (s.closeFinal i j).sc.view = s.sc.view := by
  unfold State.closeFinal
  try dsimp only
  (repeat' split) <;> simp

@[simp] theorem State.closeFlush_view (s : State) (i : Fin 4) :
    (s.closeFlush i).sc.view = s.sc.view := by
  unfold State.closeFlush
  try dsimp only
  (repeat' split) <;> simp

@[simp] theorem State.pageExit_view (s : State) (n : Fin 8) (sl : Slot) :
    (s.pageExit n sl).sc.view = s.sc.view := by
  unfold State.pageExit
  try dsimp only
  (repeat' split) <;> simp

@[simp] theorem State.freeExited_view (s : State) (i : Fin 4) :
    (s.freeExited i).sc.view = s.sc.view := by
  unfold State.freeExited
  try dsimp only
  (repeat' split) <;> simp

@[simp] theorem State.releaseUnused_view (s : State) (i : Fin 4) (j : Option JobEnd) :
    (s.releaseUnused i j).sc.view = s.sc.view := by
  unfold State.releaseUnused
  try dsimp only
  (repeat' split) <;> simp

@[simp] theorem State.revertSlot_view (s : State) (i : Fin 4) :
    (s.revertSlot i).sc.view = s.sc.view := by
  unfold State.revertSlot
  try dsimp only
  (repeat' split) <;> simp

@[simp] theorem State.revertSlots_view (s : State) :
    (s.revertSlots).sc.view = s.sc.view := by
  simp [State.revertSlots, allSlots]

@[simp] theorem State.revertAll_view (s : State) :
    (s.revertAll).sc.view = s.sc.view := by
  unfold State.revertAll
  try dsimp only
  (repeat' split) <;> simp

@[simp] theorem State.discardHalt_view (s : State) :
    (s.discardHalt).sc.view = s.sc.view := by
  unfold State.discardHalt
  try dsimp only
  (repeat' split) <;> simp

@[simp] theorem State.discardSlots_view (s : State) (n : Fin 8) :
    (s.discardSlots n).sc.view = s.sc.view := by
  unfold State.discardSlots
  try dsimp only
  (repeat' split) <;> simp

@[simp] theorem State.takeJam_view (s : State) :
    (s.takeJam).sc.view = s.sc.view := by
  unfold State.takeJam
  try dsimp only
  (repeat' split) <;> simp

@[simp] theorem State.foldl_freeExited_view (l : List (Fin 4)) (s : State) :
    (l.foldl State.freeExited s).sc.view = s.sc.view := by
  induction l generalizing s with
  | nil => simp
  | cons a l ih => simp [ih]

@[simp] theorem State.takeExit_view (s : State) (q : BitVec 8) : (s.takeExit q).sc.view = s.sc.view := by
  unfold State.takeExit
  (repeat' split) <;> simp

@[simp] theorem State.giveUp_view (s : State) (n : Fin 8) (st : StreamState) :
    (s.giveUp n st).sc.view = s.sc.view := by
  unfold State.giveUp
  rw [State.enterState_view]
  rfl

@[simp] theorem State.grant_view (s : State) :
    (s.grant).sc.view = s.sc.view := by
  unfold State.grant
  split
  · split <;> rfl
  · rfl

@[simp] theorem State.requeue_view (s : State) (n : Fin 8) :
    (s.requeue n).sc.view = s.sc.view := by
  unfold State.requeue
  try dsimp only
  (repeat' split) <;> simp

@[simp] theorem State.takeTo_view (s : State) (n : Fin 8) (k : Nat) :
    (s.takeTo n k).sc.view = s.sc.view := by
  unfold State.takeTo
  try dsimp only
  (repeat' split) <;> simp

@[simp] theorem State.advanceTake_view (s : State) (n : Fin 8) (k : Nat) :
    (s.advanceTake n k).sc.view = s.sc.view :=
  State.takeTo_view s n _

@[simp] theorem State.afterTake_view (s : State) (n : Fin 8) :
    (s.afterTake n).sc.view = s.sc.view := by
  unfold State.afterTake
  try dsimp only
  (repeat' split) <;> simp

@[simp] theorem State.turnPages_view (n : Fin 8) (line : Nat) (rest : RecordRest) (k : Nat) (s : State) :
    (State.turnPages n line rest k s).sc.view = s.sc.view := by
  induction k generalizing s with
  | zero => simp [State.turnPages]
  | succ k ih =>
    simp only [State.turnPages]
    (repeat' split) <;> simp [ih]

@[simp] theorem State.moveCarriage_view (s : State) (n : Fin 8) (c : Carriage) (r : RecordRest) :
    (s.moveCarriage n c r).sc.view = s.sc.view := by
  unfold State.moveCarriage
  try dsimp only
  (repeat' split) <;> simp

@[simp] theorem State.placeStrike_view (s : State) (n : Fin 8) (i : Fin 4) (h : RecordHeader) (l : Nat) :
    (s.placeStrike n i h l).sc.view = s.sc.view := by
  unfold State.placeStrike
  try dsimp only
  (repeat' split) <;> simp

@[simp] theorem State.offerStrike_view (s : State) (n : Fin 8) (i : Fin 4) (h : RecordHeader) :
    (s.offerStrike n i h).sc.view = s.sc.view := by
  unfold State.offerStrike
  try dsimp only
  (repeat' split) <;> simp

@[simp] theorem State.finishLine_view (s : State) (n : Fin 8) (h : RecordHeader) :
    (s.finishLine n h).sc.view = s.sc.view := by
  unfold State.finishLine
  try dsimp only
  (repeat' split) <;> simp

@[simp] theorem State.lineAfter_view (s : State) (n : Fin 8) (h : RecordHeader) :
    (s.lineAfter n h).sc.view = s.sc.view := by
  unfold State.lineAfter
  try dsimp only
  (repeat' split) <;> simp

@[simp] theorem State.lineStrike_view (s : State) (n : Fin 8) (h : RecordHeader) :
    (s.lineStrike n h).sc.view = s.sc.view := by
  unfold State.lineStrike
  try dsimp only
  (repeat' split) <;> simp

@[simp] theorem State.lineBody_view (s : State) (n : Fin 8) (h : RecordHeader) (c : Carriage) :
    (s.lineBody n h c).sc.view = s.sc.view := by
  unfold State.lineBody
  try dsimp only
  (repeat' split) <;> simp

@[simp] theorem State.endPage_view (s : State) (i : Fin 4) (e : JobEnd) :
    (s.endPage i e).sc.view = s.sc.view := by
  unfold State.endPage
  try dsimp only
  (repeat' split) <;> simp

@[simp] theorem State.reportUntakenJob_view (s : State) (n : Fin 8) :
    (s.reportUntakenJob n).sc.view = s.sc.view := rfl

@[simp] theorem State.faultPage_view (s : State) (n : Fin 8) (c : FaultCode) :
    (s.faultPage n c).sc.view = s.sc.view := by
  unfold State.faultPage
  try dsimp only
  (repeat' split) <;> simp

@[simp] theorem State.faultActive_view (s : State) (n : Fin 8) (c : FaultCode) :
    (s.faultActive n c).sc.view = s.sc.view := by
  unfold State.faultActive
  try dsimp only
  (repeat' split) <;> simp

@[simp] theorem State.faultInactive_view (s : State) (n : Fin 8) (c : FaultCode) :
    (s.faultInactive n c).sc.view = s.sc.view := by
  unfold State.faultInactive
  try dsimp only
  (repeat' split) <;> simp

@[simp] theorem State.memReadFault_view (s : State) :
    (s.memReadFault).sc.view = s.sc.view := by
  unfold State.memReadFault
  try dsimp only
  (repeat' split) <;> simp

@[simp] theorem State.takeLine_view (s : State) (n : Fin 8) (h : RecordHeader) :
    (s.takeLine n h).sc.view = s.sc.view := by
  unfold State.takeLine
  try dsimp only
  (repeat' split) <;> simp

@[simp] theorem State.takeJob_view (s : State) (n : Fin 8) :
    (s.takeJob n).sc.view = s.sc.view := by
  unfold State.takeJob
  try dsimp only
  (repeat' split) <;> simp

@[simp] theorem State.takeEnd_view (s : State) (n : Fin 8) (h : RecordHeader) :
    (s.takeEnd n h).sc.view = s.sc.view := by
  unfold State.takeEnd
  try dsimp only
  (repeat' split) <;> simp

@[simp] theorem State.takeMark_view (s : State) (n : Fin 8) (h : RecordHeader) :
    (s.takeMark n h).sc.view = s.sc.view := by
  unfold State.takeMark
  try dsimp only
  (repeat' split) <;> simp

@[simp] theorem State.takeWrap_view (s : State) (n : Fin 8) :
    (s.takeWrap n).sc.view = s.sc.view := by
  unfold State.takeWrap
  dsimp only
  rw [State.afterTake_view]
  split <;> exact State.takeTo_view s n 0

@[simp] theorem State.startJob_view (s : State) (i : Fin 4) (n : Fin 8) (j : JobInfo) :
    (s.startJob i n j).sc.view = s.sc.view := by
  unfold State.startJob
  try dsimp only
  (repeat' split) <;> simp

@[simp] theorem State.openJob_view (s : State) (n : Fin 8) :
    (s.openJob n).sc.view = s.sc.view := by
  unfold State.openJob
  try dsimp only
  (repeat' split) <;> simp

@[simp] theorem State.resumeRecord_view (s : State) (n : Fin 8) (r : RecordRest) :
    (s.resumeRecord n r).sc.view = s.sc.view := by
  unfold State.resumeRecord
  try dsimp only
  (repeat' split) <;> simp

@[simp] theorem State.resumeWait_view (s : State) :
    (s.resumeWait).sc.view = s.sc.view := by
  unfold State.resumeWait
  try dsimp only
  (repeat' split) <;> simp

@[simp] theorem State.flushExpired_view (s : State) :
    (s.flushExpired).sc.view = s.sc.view := by
  unfold State.flushExpired
  try dsimp only
  (repeat' split) <;> simp

@[simp] theorem State.endDiscard_view (s : State) (n : Fin 8) (t : Word32) :
    (s.endDiscard n t).sc.view = s.sc.view := by
  unfold State.endDiscard
  try dsimp only
  (repeat' split) <;> simp

@[simp] theorem State.skipRecord_view (s : State) (n : Fin 8) (h : RecordHeader) (b : List Byte) :
    (s.skipRecord n h b).sc.view = s.sc.view := by
  unfold State.skipRecord
  try dsimp only
  (repeat' split) <;> simp

@[simp] theorem State.discardHeld_view (s : State) (d : HeldRecord) :
    (s.discardHeld d).sc.view = s.sc.view := by
  unfold State.discardHeld
  try dsimp only
  (repeat' split) <;> simp

@[simp] theorem State.discardRecord_view (s : State) :
    (s.discardRecord).sc.view = s.sc.view := by
  unfold State.discardRecord
  try dsimp only
  (repeat' split) <;> simp

@[simp] theorem State.makeReport_view (old s : State) (n : Fin 8) :
    (State.makeReport old s n).sc.view = s.sc.view := by
  unfold State.makeReport
  try dsimp only
  (repeat' split) <;> simp

@[simp] theorem State.takeFill_view (s : State) (n : Fin 8) (p : Nat) :
    (s.takeFill n p).sc.view = s.sc.view := by
  unfold State.takeFill
  try dsimp only
  (repeat' split) <;> simp

@[simp] theorem State.checkFill_view (s : State) (n : Fin 8) (p : Nat) :
    (s.checkFill n p).sc.view = s.sc.view := by
  unfold State.checkFill
  try dsimp only
  (repeat' split) <;> simp

@[simp] theorem State.takeInterval_view (s : State) (n : Fin 8) (k : Nat) :
    (s.takeInterval n k).sc.view = s.sc.view := by
  unfold State.takeInterval
  try dsimp only
  (repeat' split) <;> simp

@[simp] theorem State.takeFields_view (s : State) (n : Fin 8) (t : Taken) :
    (s.takeFields n t).sc.view = s.sc.view := by
  unfold State.takeFields
  try dsimp only
  (repeat' split) <;> simp

@[simp] theorem State.openStream_view (s : State) (n : Fin 8) (b : Word32) (k f : Nat) :
    (s.openStream n b k f).sc.view = s.sc.view := by
  unfold State.openStream
  try dsimp only
  (repeat' split) <;> simp

@[simp] theorem State.leaveToDiscard_view (s : State) (n : Fin 8) :
    (s.leaveToDiscard n).sc.view = s.sc.view := by
  unfold State.leaveToDiscard
  try dsimp only
  (repeat' split) <;> simp

@[simp] theorem State.cancelActive_view (s : State) (n : Fin 8) :
    (s.cancelActive n).sc.view = s.sc.view := by
  unfold State.cancelActive
  try dsimp only
  (repeat' split) <;> simp

@[simp] theorem State.cancelStream_view (s : State) (n : Fin 8) :
    (s.cancelStream n).sc.view = s.sc.view := by
  unfold State.cancelStream
  try dsimp only
  (repeat' split) <;> simp

@[simp] theorem State.rushStream_view (s : State) (n : Fin 8) :
    (s.rushStream n).sc.view = s.sc.view := by
  unfold State.rushStream
  try dsimp only
  (repeat' split) <;> simp

@[simp] theorem State.resetStream_view (s : State) (n : Fin 8) :
    (s.resetStream n).sc.view = s.sc.view := by
  unfold State.resetStream
  try dsimp only
  (repeat' split) <;> simp

@[simp] theorem State.endLoad_view (s : State) (c : FaultCode) :
    (s.endLoad c).sc.view = s.sc.view := by
  unfold State.endLoad
  try dsimp only
  (repeat' split) <;> simp

@[simp] theorem State.checkForm_view (s : State) :
    (s.checkForm).sc.view = s.sc.view := by
  unfold State.checkForm
  try dsimp only
  (repeat' split) <;> simp

@[simp] theorem State.takeFormBytes_view (s : State) (b : List Byte) :
    (s.takeFormBytes b).sc.view = s.sc.view := by
  unfold State.takeFormBytes
  try dsimp only
  (repeat' split) <;> simp

/-- A settlement leaves the scan where it was. -/
@[simp] theorem State.settle_view (old s : State) : (State.settle old s).sc.view = s.sc.view := by
  unfold State.settle
  split
  · rfl
  · rw [(State.serveBus_same _).view, (State.settleStatus_same _ _).view]
    simp [State.settleEngine, State.settleComposer, State.settleImaging]

end Sys2Proof.Machine
end

