-- ==== Sys2Proof/Laws/Calm.lean ====
section
/-! SUPPORT. What a settlement does to the imaging side: with no refusal waiting nothing is sent and no rebuild is
begun, and the engine moves by an owed hold and the image gate alone. -/

namespace Sys2Proof.Machine

/-! ## With no refusal waiting -/

theorem State.rebuildOrder_calm {s : State} (h : s.refusalWaits = false) : s.rebuildOrder = none := by
  simp only [State.rebuildOrder, List.find?_eq_none]
  intro m hm
  have := (List.any_eq_false.mp h) m hm
  simp [this]

theorem State.startRebuild_calm {s : State} (h : s.refusalWaits = false) (k : Nat) : s.startRebuild k = s := by
  cases k <;> simp [State.startRebuild, State.rebuildOrder_calm h]

theorem State.resendSlews_calm {s : State} (h : s.refusalWaits = false) (k : Nat) : s.resendSlews k = s := by
  have : s.engine.sent.find? (fun e => e.awaiting && !e.isBand) = none := by
    rw [List.find?_eq_none]
    intro m hm
    have := (List.any_eq_false.mp h) m hm
    simp [this]
  cases k <;> simp [State.resendSlews, this]

@[simp] theorem State.enterHeld_sent (s : State) (r : HoldReason) : (s.enterHeld r).engine.sent = s.engine.sent := by
  unfold State.enterHeld
  dsimp only
  split <;> simp

@[simp] theorem State.moveGate_sent (s : State) : s.moveGate.engine.sent = s.engine.sent := by
  unfold State.moveGate
  dsimp only
  split <;> simp

@[simp] theorem State.enterGate_sent (s : State) : s.enterGate.engine.sent = s.engine.sent := by
  unfold State.enterGate
  (repeat' split) <;> simp

@[simp] theorem State.holdAtBoundary_sent (s : State) : s.holdAtBoundary.engine.sent = s.engine.sent := by
  unfold State.holdAtBoundary
  (repeat' split) <;> simp

@[simp] theorem State.lookAtGate_sent (s : State) : s.lookAtGate.engine.sent = s.engine.sent := by
  unfold State.lookAtGate
  (repeat' split) <;> simp

/-! ## The engine's part depends on the engine, the builder, the pages and the registers -/

theorem State.enterHeld_congr {s t : State} (h1 : s.engine = t.engine) (h2 : s.regs = t.regs) (r : HoldReason) :
    (s.enterHeld r).engine = (t.enterHeld r).engine ∧ (s.enterHeld r).regs = (t.enterHeld r).regs := by
  unfold State.enterHeld
  rw [h1]
  split <;> simp [State.raise, h2] <;> split <;> simp [h2]

theorem State.gate_congr {s t : State} (h1 : s.engine = t.engine) (h2 : s.store = t.store) : s.gate = t.gate := by
  have e : s.head = t.head := by simp only [State.head, State.slot, h2]
  have k : ∀ i, s.keyMatches i = t.keyMatches i := fun i => by unfold State.keyMatches; rw [State.slot_congr h2, h1]
  have o : s.anyOnEngine = t.anyOnEngine := by simp only [State.anyOnEngine, State.slot, h2]
  simp only [State.gate, e, k, o]

theorem State.moveGate_congr {s t : State} (h1 : s.engine = t.engine) (h2 : s.regs = t.regs)
    (h3 : s.store = t.store) :
    s.moveGate.engine = t.moveGate.engine ∧ s.moveGate.regs = t.moveGate.regs := by
  unfold State.moveGate
  rw [State.gate_congr h1 h3, h1]
  split <;> simp [State.raise, h2] <;> split <;> simp [h2]

theorem State.enterGate_congr {s t : State} (h1 : s.engine = t.engine) (h2 : s.regs = t.regs)
    (h3 : s.store = t.store) :
    s.enterGate.engine = t.enterGate.engine ∧ s.enterGate.regs = t.enterGate.regs := by
  unfold State.enterGate
  rw [State.gate_congr h1 h3, h2]
  split
  · exact State.moveGate_congr h1 h2 h3
  · exact State.enterHeld_congr h1 h2 _

theorem State.holdAtBoundary_congr {s t : State} (h1 : s.engine = t.engine) (h2 : s.regs = t.regs)
    (h3 : s.builder = t.builder) :
    s.holdAtBoundary.engine = t.holdAtBoundary.engine ∧ s.holdAtBoundary.regs = t.holdAtBoundary.regs := by
  have hb : s.atBoundary = t.atBoundary := by simp [State.atBoundary, h3]
  unfold State.holdAtBoundary
  rw [h1, hb]
  split
  · split
    · exact State.enterHeld_congr h1 h2 _
    · exact State.enterHeld_congr h1 h2 _
    · exact ⟨h1, h2⟩
  · exact ⟨h1, h2⟩

theorem State.lookAtGate_congr {s t : State} (h1 : s.engine = t.engine) (h2 : s.regs = t.regs)
    (h3 : s.store = t.store) :
    s.lookAtGate.engine = t.lookAtGate.engine ∧ s.lookAtGate.regs = t.lookAtGate.regs := by
  unfold State.lookAtGate
  rw [State.gate_congr h1 h3, h1]
  (repeat' split)
  · exact ⟨h1, h2⟩
  · exact State.moveGate_congr h1 h2 h3
  · exact State.enterGate_congr h1 h2 h3

/-! ## The settlement -/

@[simp] theorem State.askWriter_counts (s : State) :
    { s.askWriter.counts with shown := .zero } = { s.counts with shown := .zero } := by
  unfold State.askWriter
  (repeat' split)
  all_goals try simp
  rename_i o _ _ _
  cases h : o.kind <;> simp [State.showCounts]

@[simp] theorem State.askNext_counts (s : State) (q : Requester) :
    { (s.askNext q).counts with shown := .zero } = { s.counts with shown := .zero } := by
  unfold State.askNext
  split
  · cases q <;> simp
  · rfl

@[simp] theorem State.serveBus_counts (s : State) :
    { s.serveBus.counts with shown := .zero } = { s.counts with shown := .zero } := by
  unfold State.serveBus
  simp

/-- With no refusal waiting and a Composer that stands still the settlement sends nothing: the offers and the
panel stay, the cache meets the band boundary, and the engine and the events follow the owed hold and the gate. -/
theorem State.settle_calm (old : State) {u : State} (hb : u.regs.resetBusy = false) (h : u.Composed)
    (hr : u.refusalWaits = false) :
    (State.settle old u).linkOut = u.linkOut ∧ (State.settle old u).builder = u.builder ∧
      (State.settle old u).panel = u.panel ∧ (State.settle old u).cache = u.cacheBoundary.cache ∧
      { (State.settle old u).counts with shown := .zero } = { u.counts with shown := .zero } ∧
      (State.settle old u).engine = u.holdAtBoundary.lookAtGate.engine ∧
      (State.settle old u).regs = u.holdAtBoundary.lookAtGate.regs := by
  have hs : (State.settle old u) =
      (State.settleStatus old (u.settleImaging.settleComposer.settleEngine)).serveBus := by
    simp [State.settle, hb]
  obtain ⟨i1, i2, i3, i4, i5, i6⟩ := State.settleImaging_composed h
  have hi : u.settleImaging = u.cacheBoundary := by
    have hc : u.settleImaging = (u.startRebuild Config.sentMax).cacheBoundary := by
      apply State.checkForm_composed
      simpa using h.noCheck
    rw [hc, State.startRebuild_calm hr _]
  have hc : u.settleImaging.Composed :=
    ⟨by rw [i2]; exact h.waits, by rw [i1]; exact h.readFailed, by rw [i3]; exact h.noCheck⟩
  have e1 : u.settleImaging.settleComposer = u.cacheBoundary.grant := by
    rw [State.settleComposer_composed hc, hi]
  have k1 := State.holdAtBoundary_congr (s := u.cacheBoundary.grant) (t := u) (by simp) (by simp) (by simp)
  have k2 := State.lookAtGate_congr (s := u.cacheBoundary.grant.holdAtBoundary) (t := u.holdAtBoundary) k1.1 k1.2 (by simp)
  have e2 : u.cacheBoundary.grant.settleEngine = u.cacheBoundary.grant.holdAtBoundary.lookAtGate := by
    apply State.resendSlews_calm
    simpa [State.refusalWaits] using hr
  rw [hs, e1, e2]
  refine ⟨by simp, by simp, by simp, by simp, by simp, ?_, ?_⟩
  · simp [k2.1]
  · simp [k2.2]

/-! ## Owed writes stay owed -/

theorem Owed.covers_refl (o : Owed) : o.Covers o := ⟨rfl, id, id, id⟩

theorem askOwed_covers (o : Owed) (l : List Owed) : ∃ w ∈ askOwed o l, w.Covers o := by
  induction l with
  | nil => exact ⟨o, by simp [askOwed], o.covers_refl⟩
  | cons a l ih =>
    unfold askOwed
    split
    · rename_i h
      exact ⟨_, List.mem_cons_self, h, by simp +contextual, by simp +contextual, by simp +contextual⟩
    · obtain ⟨w, hw, c⟩ := ih
      exact ⟨w, List.mem_cons_of_mem _ hw, c⟩

theorem askOwed_mem (o p : Owed) (l : List Owed) (h : ∃ w ∈ l, w.Covers p) : ∃ w ∈ askOwed o l, w.Covers p := by
  induction l with
  | nil => simp at h
  | cons a l ih =>
    obtain ⟨w, hw, c⟩ := h
    unfold askOwed
    split
    · rcases List.mem_cons.mp hw with e | e
      · subst e
        exact ⟨_, List.mem_cons_self, c.1, fun h => by simp [c.2.1 h], fun h => by simp [c.2.2.1 h],
          fun h => by simp [c.2.2.2 h]⟩
      · exact ⟨w, List.mem_cons_of_mem _ e, c⟩
    · rcases List.mem_cons.mp hw with e | e
      · exact ⟨a, List.mem_cons_self, e ▸ c⟩
      · obtain ⟨w', hw', c'⟩ := ih ⟨w, e, c⟩
        exact ⟨w', List.mem_cons_of_mem _ hw', c'⟩

/-- What is asked for is owed. -/
theorem State.ask_owes (s : State) (o : Owed) : (s.ask o).Owes o := by
  obtain ⟨w, hw, c⟩ := askOwed_covers o s.writer.waiting
  exact ⟨w, List.mem_append_left _ hw, c⟩

/-- Asking for a write forgets none. -/
theorem State.Owes.ask {s : State} {p : Owed} (h : s.Owes p) (o : Owed) : (s.ask o).Owes p := by
  obtain ⟨w, hw, c⟩ := h
  rcases List.mem_append.mp hw with e | e
  · obtain ⟨w', hw', c'⟩ := askOwed_mem o p _ ⟨w, e, c⟩
    exact ⟨w', List.mem_append_left _ hw', c'⟩
  · exact ⟨w, List.mem_append_right _ e, c⟩

theorem State.Owes.congr_lists {s t : State} {p : Owed} (h : s.Owes p) (k : t.writer.waiting = s.writer.waiting)
    (k' : t.writer.issued = s.writer.issued) : t.Owes p := by
  unfold State.Owes at *
  rwa [k, k']

theorem State.Owes.congr {s t : State} {p : Owed} (h : s.Owes p) (k : t.writer = s.writer) : t.Owes p := by
  unfold State.Owes at *
  rwa [k]

theorem State.Owes.makeReport {s : State} {p : Owed} (h : s.Owes p) (old : State) (n : Fin 8) : (State.makeReport old s n).Owes p := by
  unfold State.makeReport
  split
  · split
    · exact State.Owes.ask (State.Owes.congr h rfl) _
    · exact h
  · exact h

theorem State.Owes.foldl_makeReport {p : Owed} (old : State) (l : List (Fin 8)) {s : State} (h : s.Owes p) :
    (l.foldl (State.makeReport old) s).Owes p := by
  induction l generalizing s with
  | nil => exact h
  | cons a l ih => exact ih (h.makeReport old a)

theorem State.Owes.askChanged {s : State} {p : Owed} (h : s.Owes p) (old : State) :
    (State.askChanged old s).Owes p := by
  unfold State.askChanged
  generalize allStreams = l
  induction l generalizing s with
  | nil => exact h
  | cons a l ih =>
    apply ih
    dsimp only
    split
    · exact h
    · exact h.ask _

theorem State.Owes.askRecordChanged {s : State} {p : Owed} (h : s.Owes p) (old : State) :
    (State.askRecordChanged old s).Owes p := by
  unfold State.askRecordChanged
  split
  · exact h.ask _
  · exact h

theorem State.Owes.settleStatus {s : State} {p : Owed} (h : s.Owes p) (old : State) :
    (State.settleStatus old s).Owes p := by
  unfold State.settleStatus
  apply State.Owes.askRecordChanged
  exact State.Owes.foldl_makeReport old allStreams (State.Owes.askChanged (h.congr (by simp)) old)

theorem State.Owes.serveBus {s : State} {p : Owed} (h : s.Owes p) : s.serveBus.Owes p := by
  have w : ∀ u : State, u.Owes p → u.askWriter.Owes p := by
    intro u hu
    unfold State.askWriter
    (repeat' split)
    · exact hu.congr (by simp)
    · exact hu
    · rename_i o rest e1 e2
      refine State.Owes.congr_lists
        (s := { u with writer := { u.writer with issued := some o, waiting := rest } }) ?_ (by simp) (by simp)
      unfold State.Owes at *
      simp only [e1, e2] at hu
      simp only [Option.toList_some, List.mem_append, List.mem_singleton]
      obtain ⟨w, hw, c⟩ := hu
      simp at hw
      exact ⟨w, by tauto, c⟩
    · exact hu
    · exact hu
  have n : ∀ (q : Requester) (u : State), u.Owes p → (u.askNext q).Owes p := by
    intro q u hu
    unfold State.askNext
    split
    · cases q
      · exact hu.congr (by simp)
      · exact hu.congr (by simp)
      · exact hu.congr (by simp)
      · exact w _ hu
    · exact hu
  unfold State.serveBus
  have a : s.arbitrate.Owes p := h.congr (by simp)
  exact (n .statusWriter _ (n .glyphFiller _ (n .formLoader _ (n .streamReader _ a)))).congr (by simp)

/-- A settlement in which nothing of the Composer moves forgets no owed write. -/
theorem State.Owes.settle {u : State} {p : Owed} (h : u.Owes p) (old : State) (hb : u.regs.resetBusy = false)
    (hc : u.Composed) : (State.settle old u).Owes p := by
  obtain ⟨i1, i2, i3, i4, i5, i6⟩ := State.settleImaging_composed hc
  have hs : (State.settle old u) =
      (State.settleStatus old (u.settleImaging.settleComposer.settleEngine)).serveBus := by
    simp [State.settle, hb]
  have hd : u.settleImaging.Composed :=
    ⟨by rw [i2]; exact hc.waits, by rw [i1]; exact hc.readFailed, by rw [i3]; exact hc.noCheck⟩
  rw [hs, State.settleComposer_composed hd]
  apply State.Owes.serveBus
  apply State.Owes.settleStatus
  exact h.congr (by simp [State.settleEngine, i6])

/-! ## An engine that stands -/

/-- An engine with no hold owed, in the state its gate gives, does not move. -/
theorem State.engineStands {u : State} (h1 : u.engine.holdOwed = .none)
    (h2 : u.gate = u.engine.state ∨ u.engine.halting = true ∨
      (u.engine.state ≠ .idle ∧ u.engine.state ≠ .feeding ∧ u.engine.state ≠ .formsWait)) :
    u.holdAtBoundary.lookAtGate = u := by
  have a : u.holdAtBoundary = u := by
    unfold State.holdAtBoundary
    split <;> simp [h1]
  rw [a]
  unfold State.lookAtGate
  rw [if_pos]
  rcases h2 with h2 | h2 | h2
  · exact .inr (.inr h2)
  · exact .inr (.inl h2)
  · left
    cases e : u.engine.state <;> simp_all [EngineState.gated]

end Sys2Proof.Machine
end

