-- ==== Sys2Proof/Laws/Memory.lean ====
section
/-! SUPPORT. Host memory as the part's writes leave it: every operation keeps the canonical form, a read after a write
gives the byte written, and a write leaves every other byte alone. -/

namespace Sys2Proof.Machine

@[simp] theorem Memory.read_nil (a : Nat) : Memory.read [] a = none := rfl

@[simp] theorem Memory.wf_nil : Memory.wf [] = true := rfl

theorem Memory.wf_tail {c : Host.Cell} {m : Memory} (h : Memory.wf (c :: m) = true) : Memory.wf m = true := by
  cases m with
  | nil => rfl
  | cons d m => simp [Memory.wf] at h; exact h.2

/-- The addresses behind the head of a canonical memory lie above it. -/
theorem Memory.wf_head_lt {c : Host.Cell} {m : Memory} (h : Memory.wf (c :: m) = true) : ∀ d ∈ m, c.1 < d.1 := by
  induction m generalizing c with
  | nil => simp
  | cons d m ih =>
    simp only [Memory.wf, Bool.and_eq_true, decide_eq_true_eq] at h
    intro e he
    rcases List.mem_cons.1 he with rfl | he
    · exact h.1
    · exact Nat.lt_trans h.1 (ih h.2 e he)

theorem Memory.wf_cons {c : Host.Cell} {m : Memory} (h : ∀ d ∈ m, c.1 < d.1) (hm : Memory.wf m = true) :
    Memory.wf (c :: m) = true := by
  cases m with
  | nil => rfl
  | cons d m => simp [Memory.wf, hm, h d (by simp)]

theorem Memory.wf_cons_iff {c : Host.Cell} {m : Memory} :
    Memory.wf (c :: m) = true ↔ (∀ d ∈ m, c.1 < d.1) ∧ Memory.wf m = true :=
  ⟨fun h => ⟨Memory.wf_head_lt h, Memory.wf_tail h⟩, fun h => Memory.wf_cons h.1 h.2⟩

/-! ## Membership -/

theorem Memory.mem_write {m : Memory} {a : Nat} {v : Byte} {d : Host.Cell} (h : d ∈ Memory.write m a v) :
    d = (a, v) ∨ d ∈ m := by
  induction m with
  | nil => simpa [Memory.write] using h
  | cons c m ih =>
    unfold Memory.write at h
    split at h
    · simpa using h
    · split at h
      · rcases List.mem_cons.1 h with h | h
        · exact .inl h
        · exact .inr (List.mem_cons_of_mem _ h)
      · rcases List.mem_cons.1 h with rfl | h
        · exact .inr List.mem_cons_self
        · exact (ih h).imp_right (List.mem_cons_of_mem _)

theorem Memory.mem_forget {m : Memory} {a : Nat} {d : Host.Cell} (h : d ∈ Memory.forget m a) : d ∈ m := by
  induction m with
  | nil => simpa [Memory.forget] using h
  | cons c m ih =>
    unfold Memory.forget at h
    split at h
    · exact List.mem_cons_of_mem _ h
    · split at h
      · exact h
      · rcases List.mem_cons.1 h with rfl | h
        · exact List.mem_cons_self
        · exact List.mem_cons_of_mem _ (ih h)

/-! ## The canonical form is kept -/

theorem Memory.wf_write {m : Memory} (h : Memory.wf m = true) (a : Nat) (v : Byte) :
    Memory.wf (Memory.write m a v) = true := by
  induction m with
  | nil => rfl
  | cons c m ih =>
    obtain ⟨hc, hm⟩ := Memory.wf_cons_iff.1 h
    unfold Memory.write
    split
    · rename_i hlt
      refine Memory.wf_cons (fun d hd => ?_) h
      rcases List.mem_cons.1 hd with rfl | hd
      · exact hlt
      · exact Nat.lt_trans hlt (hc d hd)
    · rename_i hge
      split
      · rename_i heq
        exact Memory.wf_cons (fun d hd => by simpa [heq] using hc d hd) hm
      · rename_i hne
        refine Memory.wf_cons (fun d hd => ?_) (ih hm)
        rcases Memory.mem_write hd with rfl | hd
        · simp only; omega
        · exact hc d hd

theorem Memory.wf_forget {m : Memory} (h : Memory.wf m = true) (a : Nat) : Memory.wf (Memory.forget m a) = true := by
  induction m with
  | nil => rfl
  | cons c m ih =>
    obtain ⟨hc, hm⟩ := Memory.wf_cons_iff.1 h
    unfold Memory.forget
    split
    · exact hm
    · split
      · exact h
      · exact Memory.wf_cons (fun d hd => hc d (Memory.mem_forget hd)) (ih hm)

theorem Memory.wf_writeRun {m : Memory} (h : Memory.wf m = true) (a : Word32) (bs : List Byte) :
    Memory.wf (Memory.writeRun m a bs) = true := by
  induction bs generalizing m a with
  | nil => exact h
  | cons b bs ih => exact ih (Memory.wf_write h _ _) _

theorem Memory.wf_forgetRun {m : Memory} (h : Memory.wf m = true) (a : Word32) (k : Nat) :
    Memory.wf (Memory.forgetRun m a k) = true := by
  induction k generalizing m a with
  | zero => exact h
  | succ k ih => exact ih (Memory.wf_forget h _) _

/-! ## Reading -/

/-- Below the first address nothing is known. -/
theorem Memory.read_below {m : Memory} {a : Nat} (h : ∀ d ∈ m, a < d.1) : Memory.read m a = none := by
  cases m with
  | nil => rfl
  | cons c m =>
    have hc : a < c.1 := h c List.mem_cons_self
    simp [Memory.read, hc, Nat.ne_of_gt hc]

theorem Memory.read_write {m : Memory} (a : Nat) (v : Byte) : Memory.read (Memory.write m a v) a = some v := by
  induction m with
  | nil => simp [Memory.write, Memory.read]
  | cons c m ih =>
    unfold Memory.write
    split
    · simp [Memory.read]
    · split
      · simp [Memory.read]
      · rename_i h1 h2
        simp [Memory.read, ih, Ne.symm h2, h1]

theorem Memory.read_write_ne {m : Memory} {a b : Nat} (v : Byte) (h : a ≠ b) :
    Memory.read (Memory.write m a v) b = Memory.read m b := by
  induction m with
  | nil => simp [Memory.write, Memory.read, h]
  | cons c m ih =>
    unfold Memory.write
    split
    · rename_i hlt
      by_cases hb : b < a
      · simp [Memory.read, h, hb, Nat.ne_of_gt (Nat.lt_trans hb hlt), Nat.lt_trans hb hlt]
      · simp [Memory.read, h, hb]
    · split
      · rename_i h1 h2
        subst h2
        simp [Memory.read, h]
      · simp [Memory.read, ih]

theorem Memory.read_forget {m : Memory} (h : Memory.wf m = true) (a : Nat) :
    Memory.read (Memory.forget m a) a = none := by
  induction m with
  | nil => rfl
  | cons c m ih =>
    obtain ⟨hc, hm⟩ := Memory.wf_cons_iff.1 h
    unfold Memory.forget
    split
    · rename_i heq
      exact Memory.read_below fun d hd => by simpa [heq] using hc d hd
    · rename_i hne
      split
      · rename_i hlt
        simp [Memory.read, hne, hlt]
      · rename_i hge
        simp [Memory.read, hne, hge, ih hm]

theorem Memory.read_forget_ne {m : Memory} (h : Memory.wf m = true) {a b : Nat} (hab : a ≠ b) :
    Memory.read (Memory.forget m a) b = Memory.read m b := by
  induction m with
  | nil => rfl
  | cons c m ih =>
    obtain ⟨hc, hm⟩ := Memory.wf_cons_iff.1 h
    unfold Memory.forget
    split
    · rename_i heq
      subst heq
      by_cases hb : b < c.1
      · rw [Memory.read_below fun d hd => Nat.lt_trans hb (hc d hd)]
        simp [Memory.read, hab, hb]
      · simp [Memory.read, hab, hb]
    · split
      · rfl
      · simp [Memory.read, ih hm]

/-- One address on. -/
theorem addrAt_succ (a : Word32) (k : Nat) : addrAt a (k + 1) = addrAt (a + 1) k := by
  simp only [addrAt]
  rw [BitVec.ofNat_add k 1, BitVec.add_comm (BitVec.ofNat 32 k), ← BitVec.add_assoc]
  rfl

/-- A run of bytes placed leaves every address outside it as it was. -/
theorem Memory.read_writeRun_out {m : Memory} (a : Word32) (bs : List Byte) (b : Nat)
    (h : ∀ k < bs.length, (addrAt a k).toNat ≠ b) :
    Memory.read (Memory.writeRun m a bs) b = Memory.read m b := by
  induction bs generalizing m a with
  | nil => rfl
  | cons x bs ih =>
    have h0 : a.toNat ≠ b := by simpa [addrAt] using h 0 (by simp)
    rw [Memory.writeRun, ih (a + 1) (fun k hk => ?_), Memory.read_write_ne x h0]
    have := h (k + 1) (by simp; omega)
    intro hc
    apply this
    rw [← hc]
    rw [addrAt_succ]

/-- A run of bytes forgotten leaves every address outside it as it was. -/
theorem Memory.read_forgetRun_out {m : Memory} (hm : Memory.wf m = true) (a : Word32) (n : Nat) (b : Nat)
    (h : ∀ k < n, (addrAt a k).toNat ≠ b) : Memory.read (Memory.forgetRun m a n) b = Memory.read m b := by
  induction n generalizing m a with
  | zero => rfl
  | succ n ih =>
    have h0 : a.toNat ≠ b := by simpa [addrAt] using h 0 (by omega)
    rw [Memory.forgetRun, ih (Memory.wf_forget hm _) (a + 1) (fun k hk => ?_), Memory.read_forget_ne hm h0]
    have := h (k + 1) (by omega)
    intro hc
    apply this
    rw [← hc]
    rw [addrAt_succ]

end Sys2Proof.Machine
end

