-- ==== Sys2Proof/Laws/Outcomes.lean ====
section
/-! SUPPORT. What the shared operations of the commands can do, said once: the end of a transfer, the record at take, a
request that waits, a press, a form check. -/

namespace Sys2Proof.Machine

/-- A completion that finds no transfer of its kind and length changes nothing; else the transfer ends, its bytes are
placed, and its outcome is acted on when it is wanted outside a device reset. -/
theorem completed_cases (s : State) (p : TransferKind → Bool) (data : List Byte) (act : TransferKind → State → State) :
    s.completed p data act = s ∨ ∃ t, s.mtu.inFlight = some t ∧ p t.request.kind = true ∧
      data.length + t.request.data.length = t.request.len ∧
      ∃ u : State, u = { s.endTransfer t.who with hostMem := s.hostMem.writeRun t.request.addr t.request.data } ∧
        ((t.wanted = true ∧ s.regs.resetBusy = false ∧ s.completed p data act = act t.request.kind u) ∨
          (¬(t.wanted = true ∧ s.regs.resetBusy = false) ∧ s.completed p data act = u)) := by
  unfold State.completed
  cases ht : s.mtu.inFlight with
  | none => exact .inl rfl
  | some t =>
    by_cases hp : p t.request.kind = true ∧ data.length + t.request.data.length = t.request.len
    · refine .inr ⟨t, rfl, hp.1, hp.2, _, rfl, ?_⟩
      by_cases hw : t.wanted = true ∧ s.regs.resetBusy = false
      · exact .inl ⟨hw.1, hw.2, by simp [hp, hw, State.endTransfer]⟩
      · exact .inr ⟨hw, by simp only [hp, and_self, if_true, if_neg hw, State.endTransfer]⟩
    · exact .inl (by simp [hp])

/-- What a failed transfer leaves of host memory: what stood there, or the bytes of its write unknown. -/
theorem memAfterFailure_cases (s : State) (t : Transfer) :
    s.memAfterFailure t = s.hostMem ∨
      s.memAfterFailure t = s.hostMem.forgetRun t.request.addr t.request.data.length := by
  unfold State.memAfterFailure
  split
  · exact .inl rfl
  · exact .inr rfl

/-- A failed transfer keeps the canonical form. -/
theorem memAfterFailure_wf {s : State} (h : s.hostMem.wf = true) (t : Transfer) : (s.memAfterFailure t).wf = true := by
  rcases memAfterFailure_cases s t with e | e <;> rw [e]
  · exact h
  · exact Memory.wf_forgetRun h _ _

/-- A failure with nothing on the bus changes nothing; else the transfer ends and the bytes of a write are unknown, as
`State.memAfterFailure` says; outside a device reset it is counted, and acted on when it is wanted. -/
theorem failed_cases (s : State) (act : TransferKind → State → State) :
    (s.mtu.inFlight = none ∧ s.failed act = s) ∨ ∃ t, s.mtu.inFlight = some t ∧
      ∃ u : State, u = { s.endTransfer t.who with
          hostMem := s.memAfterFailure t } ∧
        ((s.regs.resetBusy = true ∧ s.failed act = u) ∨
          (s.regs.resetBusy = false ∧ t.wanted = true ∧ s.failed act = act t.request.kind (u.countFailure t)) ∨
          (s.regs.resetBusy = false ∧ t.wanted = false ∧ s.failed act = u.countFailure t)) := by
  unfold State.failed
  cases ht : s.mtu.inFlight with
  | none => exact .inl ⟨rfl, rfl⟩
  | some t =>
    refine .inr ⟨t, rfl, _, rfl, ?_⟩
    cases hb : s.regs.resetBusy
    · cases hw : t.wanted
      · exact .inr (.inr ⟨rfl, rfl, by simp [State.endTransfer, hw]⟩)
      · exact .inr (.inl ⟨rfl, rfl, by simp [State.endTransfer, hw]⟩)
    · exact .inl ⟨rfl, by simp [State.endTransfer]⟩

/-- A failure is counted with its address. It leaves the Status Writer as it is when it is that of a device record write
that a failure had asked for; else it asks for a device record write on its own account (R158, R159). -/
theorem countFailure_cases (s : State) (t : Transfer) :
    (s.countFailure t).counts = { s.counts with
        memFaults := satAdd s.counts.memFaults 1, lastFault := t.request.addr } ∧
      ((t.request.kind.isDeviceRecord = true ∧ s.writer.failureIssued = true ∧ (s.countFailure t).writer = s.writer) ∨
        ((s.countFailure t).writer.failureWaits = true ∧
          (s.countFailure t).writer.waiting = askOwed ⟨.deviceRecord, false, false, false⟩ s.writer.waiting ∧
          (s.countFailure t).writer.issued = s.writer.issued)) := by
  unfold State.countFailure
  dsimp only
  split
  · rename_i h
    exact ⟨rfl, .inl ⟨h.1, h.2, rfl⟩⟩
  · exact ⟨rfl, .inr ⟨rfl, rfl, rfl⟩⟩

/-- An owed hold is entered at a band boundary in the states the gate moves, and else nothing changes (R173). -/
theorem holdAtBoundary_cases (s : State) :
    s.holdAtBoundary = s ∨ (s.engine.state.gated = true ∧ s.atBoundary = true ∧
      ((s.engine.holdOwed = .operatorStop ∧ s.holdAtBoundary = s.enterHeld .operatorStop) ∨
        (s.engine.holdOwed = .hostPause ∧ s.holdAtBoundary = s.enterHeld .hostPause))) := by
  unfold State.holdAtBoundary
  split
  · rename_i h
    cases e : s.engine.holdOwed <;> simp [h]
  · exact .inl rfl

/-- A rebuild waits for a flush, or is begun (R137, R148). -/
theorem orderRebuild_cases (s : State) (m : SentMsg) :
    (s.cacheBoundary.cache.holdsBands = true ∧ s.orderRebuild m = s.cacheBoundary) ∨
      (s.cacheBoundary.cache.holdsBands = false ∧ s.orderRebuild m = s.cacheBoundary.rebuild m) := by
  unfold State.orderRebuild
  dsimp only
  split
  · rename_i h
    exact .inl ⟨h, rfl⟩
  · rename_i h
    exact .inr ⟨by simpa using h, rfl⟩

/-- At a band boundary a directory set aside is put in force and an owed flush goes on, unless the cache is FLUSHING
(R141, R148, R149). -/
theorem atBoundary_cases (c : GlyphCache) :
    (c.flush = .reading ∧ c.atBoundary = c) ∨ (c.flush = .none ∧ c.atBoundary = c.putInForce) ∨
      ((c.flush = .owed ∨ c.flush = .waitFill) ∧ c.atBoundary = c.putInForce.beginFlush) := by
  unfold GlyphCache.atBoundary
  cases c.flush <;> simp

/-- A due report at the head of the list is made, or nothing changes (R39, R161). -/
theorem makeReport_cases (old s : State) (n : Fin 8) :
    State.makeReport old s n = s ∨ ∃ p rest, (s.stream n).reports = p :: rest ∧ p.due = true ∧
      (s.writer.reporting n = false ∨ (s.writer.roomForReport n = true ∧ noneDue (old.stream n).reports = true)) ∧
      State.makeReport old s n = (s.modStream n fun r => { r with
        jobTag := p.tag, jobOutcome := p.outcome, jobPages := p.pages, reports := rest }).ask
          ⟨.descriptor n, true, true, false⟩ := by
  unfold State.makeReport
  split
  · rename_i p rest e
    split
    · rename_i h
      simp only [Bool.and_eq_true, Bool.or_eq_true, Bool.not_eq_true'] at h
      exact .inr ⟨p, rest, e, h.1, h.2, rfl⟩
    · exact .inl rfl
  · exact .inl rfl

/-- A record command acts on a whole record of its kind, faults the stream at one that fails the checks, and else changes
nothing (R30, R31). -/
theorem takeRecord_cases (s : State) (k : RecordKind) (act : Fin 8 → RecordHeader → State) :
    s.takeRecord k act = s ∨ ∃ n, s.owner = some n ∧ s.regs.run = true ∧ s.comp.state = .ready ∧
      ((∃ k', (s.stream n).atTake s.sc.buffer = .bad k' ∧ (k' = k ∨ k' = .unknown) ∧
          s.takeRecord k act = s.faultActive n .badRecord) ∨
        (∃ h, (s.stream n).atTake s.sc.buffer = .whole h ∧ h.kind = k ∧ s.takeRecord k act = act n h)) := by
  unfold State.takeRecord
  cases ho : s.owner with
  | none => exact .inl rfl
  | some n =>
    by_cases hr : s.regs.run = true ∧ s.comp.state = .ready
    · simp only [hr, and_self, if_true]
      cases ha : (s.stream n).atTake s.sc.buffer with
      | absent => exact .inl rfl
      | bad k' =>
        by_cases hk : k' = k ∨ k' = .unknown
        · exact .inr ⟨n, rfl, trivial, trivial, .inl ⟨k', ha, hk, by simp [hk]⟩⟩
        · exact .inl (by simp [hk])
      | whole h =>
        by_cases hk : h.kind = k
        · exact .inr ⟨n, rfl, trivial, trivial, .inr ⟨h, ha, hk, by simp [hk]⟩⟩
        · exact .inl (by simp [hk])
    · exact .inl (by simp only [hr, if_false])

/-- A request command acts on a request of its code that waits, and else changes nothing. -/
theorem onRequest_cases (s : State) (c : RequestCode) (act : Fin 8 → Taken → State) :
    s.onRequest c act = s ∨
      ∃ n t b z, s.sc.phase = .request n t b z ∧ t.code = c ∧ s.onRequest c act = act n t := by
  unfold State.onRequest
  cases hp : s.sc.phase with
  | request n t b z =>
    by_cases hc : t.code = c
    · exact .inr ⟨n, t, b, z, rfl, hc, by simp [hc]⟩
    · exact .inl (by simp [hc])
  | none => exact .inl rfl
  | header => exact .inl rfl
  | descriptor n => exact .inl rfl
  | openRead n t => exact .inl rfl
  | acting n t => exact .inl rfl
  | directory => exact .inl rfl

/-- A press of a button that is DOWN changes nothing; during a device reset it goes DOWN unarmed; else it is armed and
acted on (R183, R184). -/
theorem press_cases (s : State) (b : Button) (act : State → State) :
    ((s.panel.buttons.get b).down = true ∧ s.press b act = s) ∨
      ((s.panel.buttons.get b).down = false ∧ s.regs.resetBusy = true ∧ s.press b act = s.setButton b ⟨true, false⟩) ∨
      ((s.panel.buttons.get b).down = false ∧ s.regs.resetBusy = false ∧
        s.press b act = act (s.setButton b ⟨true, true⟩)) := by
  unfold State.press
  cases hd : (s.panel.buttons.get b).down <;> cases hb : s.regs.resetBusy <;> simp

/-! ## The form check (R76, R140) -/

@[simp] theorem State.checkDirectory_inForce {s : State} {d : Directory} (h : s.cache.inForce = some d) :
    s.checkDirectory = some d := by
  simp [State.checkDirectory, h]

@[simp] theorem State.checkDirectory_aside {s : State} {d : Directory} (h : s.cache.inForce = none)
    (ha : s.cache.aside = some d) : s.checkDirectory = none := by
  simp [State.checkDirectory, h, ha]

theorem State.checkDirectory_unread {s : State} (h : s.cache.inForce = none) (ha : s.cache.aside = none) :
    s.checkDirectory = if Config.refusesUnread then some .beforeFirst else none := by
  simp [State.checkDirectory, h, ha]

/-- No record passes the check against a directory without glyphs (R80, R140). -/
@[simp] theorem formAccepted_noGlyphs (b : List Byte) : formAccepted 0 b = false := by
  simp [formAccepted, formPlaces]

/-- What a form check leaves: the state as it is, where none is due or it waits, the load at its next step, or the load
refused. -/
theorem checkForm_cases (s : State) :
    (s.checkForm = s ∧ (s.form.noCheck = true ∨ s.checkDirectory = none)) ∨
      ∃ l d, s.form = .loading l ∧ l.step = .check ∧ s.checkDirectory = some d ∧
        ((formAccepted (d.font 0).count l.recordBytes = true ∧
            s.checkForm = { s with form := .loading { l with step := .vft } }) ∨
          (formAccepted (d.font 0).count l.recordBytes = false ∧ s.checkForm = s.endLoad .badForm)) := by
  unfold State.checkForm
  split
  · rename_i l d hf hd
    by_cases hl : l.step = .check
    · refine .inr ⟨l, d, hf, hl, hd, ?_⟩
      cases ha : formAccepted (d.font 0).count l.recordBytes <;> simp [hl, ha]
    · exact .inl ⟨by simp [hl], .inl (by simp [hf, FormUnit.noCheck, hl])⟩
  · rename_i hn
    refine .inl ⟨rfl, ?_⟩
    cases hf : s.form with
    | loading l =>
      cases hd : s.checkDirectory with
      | none => exact .inr rfl
      | some d => exact absurd hd (hn l d hf)
    | _ => exact .inl rfl

/-- Before the first directory read has completed a form check refuses any record, or waits (R140, R76; log 23). -/
theorem checkForm_unread {s : State} {l : Load} (hf : s.form = .loading l) (hl : l.step = .check)
    (h : s.cache.inForce = none) (ha : s.cache.aside = none) :
    s.checkForm = if Config.refusesUnread then s.endLoad .badForm else s := by
  have hz : (Directory.beforeFirst.font 0).count = 0 := rfl
  cases hc : Config.refusesUnread <;>
    simp [State.checkForm, hf, hl, State.checkDirectory_unread h ha, hc, hz]

end Sys2Proof.Machine
end

