-- ==== Sys2Proof/WellFormed.lean ====
section
/-! DEFINITION. When a command's operands are those of its row. A command that is not well-formed still has
the meaning of the write, the transfer or the frame it spells; it only stands under the wrong row. -/

namespace Sys2Proof

/-- The CONTROL word `w` spells carries DEVICE_RESET 0 (R2: with DEVICE_RESET 1 the write is a device reset). -/
def HostWrite.plainControl (w : HostWrite) : Bool := ¬ w.word.getLsbD 1

/-- Every command row's condition on its operands. -/
def Instr.WellFormed : Instr → Bool
  | .runSet w => w.plainControl && w.word.getLsbD 0
  | .runClear w => w.plainControl && !w.word.getLsbD 0
  | .deviceReset w => w.word.getLsbD 1
  | .glyphFlush w => w.plainControl && w.word.getLsbD 2
  | .sweepInterval w => w.plainControl
  | .registerWriteIgnored offset _ => decide (offset ∉ [0x00, 0x04, 0x08, 0x0C, 0x10])
  | .areaHeaderRead data _ => data.length == 64
  | .descriptorRead data _ => data.length == 8
  | .fontDirectoryRead data _ => data.length == 64
  | .flushDirectoryRead data _ => data.length == 64
  | .ringRead data _ => Machine.transferLength data.length
  | .formTransfer data _ => Machine.transferLength data.length
  | .subBlockRead data _ => Machine.transferLength data.length
  | .status f => f.passes && f.kind == 8
  | .exitFrame f => f.passes && f.kind == 9
  | .refusedFrame f => f.passes && f.kind == 10
  | .badFrame f => !f.passes
  | .powerOn | .attention _ | .eventsWrite _ | .eventMaskWrite _ | .areaBaseWrite _
  | .deviceResetDone | .sweepTimerExpiry | .openRequest | .closeRequest | .cancelRequest
  | .rushRequest | .resetRequest | .badRequest | .lineRecord | .jobRecord | .endRecord
  | .markRecord | .wrapRecord | .discardRecord | .flushTimerExpiry | .descriptorWrite _
  | .requestFieldWrite _ | .deviceRecordWrite _ | .busError _ | .limitTimerExpiry | .bandBegin
  | .messageHandover | .pollTimerExpiry | .answerTimerExpiry | .startButton | .stopButton
  | .topOfForm | .lineButton | .lampTest | .buttonRelease _ | .repeatTimerExpiry
  | .lingerTimerExpiry | .blinkHalf => true

end Sys2Proof
end

