-- ==== Sys2Proof/Tests/Slice0.lean ====
section
/-! SUPPORT. Tests. First the smoke test of WellFormed and tests on values written out from the manual; then, for every
statement with hypotheses, a state and operands that meet them all, clause by clause. -/

-- One test at a time: elaborated side by side they hold a thread each, more than check.sh's memory limit allows.
set_option Elab.async false

namespace Sys2Proof.Tests
open Sys2Proof.Machine

/-! ## States the tests share -/

/-- A write of all four bytes. -/
def word (v : Nat) : HostWrite := ⟨BitVec.ofNat 32 v, 15⟩

/-- The part with an area at 0x1000. -/
def part (run : Bool) : State :=
  { State.reset with regs := { RegisterWindow.initial with run := run, areaBase := 0x1000 } }

/-- Another state of the engine. -/
def eng (s : State) (e : EngineState) : State := { s with engine := { s.engine with state := e } }

/-- A ring of 1,024 bytes whose stream is in state `st` with 64 bytes to take. -/
def ring (st : StreamState) : StreamRec :=
  { StreamRec.initial with state := st, ringBase := 0x8000, ringSize := 1024, fill := 64 }

/-- Stream record `n` is `r`. -/
def withRec (s : State) (n : Fin 8) (r : StreamRec) : State := s.modStream n fun _ => r

/-- Stream 0 is ACTIVE and the Composer READY, with `bytes` in the read buffer. -/
def owned (bytes : List Byte) : State :=
  let s := withRec (part true) 0 (ring .active)
  { s with comp := { s.comp with state := .ready }, sc := { s.sc with buffer := bytes } }

/-- A page of stream 0 on a form of 6 lines of 100 rows. -/
def page (st : SlotState) : Slot :=
  { Slot.free with
    state := st
    copy := { FormCopy.cleared with stock := 1, length := 600, lines := 6, pitch := 3, positions := 4, charPitch := 12 } }

/-- Slot `i` is `sl`. -/
def withSlot (s : State) (i : Fin 4) (sl : Slot) : State := s.modSlot i fun _ => sl

/-- The scan stands at `p`. -/
def withPhase (s : State) (p : ScanPhase) : State := { s with sc := { s.sc with scan := .scanning, phase := p } }

/-- A transfer of kind `k` stands on the bus. -/
def bus (s : State) (who : Requester) (k : TransferKind) (len : Nat) (data : List Byte) : State :=
  { s with mtu := { s.mtu.setPlace .granted who with
      inFlight := some ⟨who, ⟨k, 0x2000, len, data⟩, true⟩, limit := some 1 } }

/-! ## Hypotheses as booleans -/

theorem composed_iff (s : State) :
    s.Composed ↔ (s.comp.waits = false ∧ s.sc.readFailed = false ∧ s.form.noCheck = true) :=
  ⟨fun h => ⟨h.1, h.2, h.3⟩, fun h => ⟨h.1, h.2.1, h.2.2⟩⟩

theorem onBus_iff (s : State) (k : TransferKind) (len : Nat) :
    s.OnBus k len ↔ (s.regs.resetBusy = false ∧ ∃ t ∈ s.mtu.inFlight.toList,
      t.wanted = true ∧ t.request.kind = k ∧ t.request.len = len ∧ t.request.data = []) := by
  simp [State.OnBus]

theorem writing_iff (s : State) (k : TransferKind) :
    s.WritingOnBus k ↔ (s.regs.resetBusy = false ∧ ∃ t ∈ s.mtu.inFlight.toList,
      t.wanted = true ∧ t.request.kind = k ∧ t.request.data.length = t.request.len) := by
  simp [State.WritingOnBus]

/-! ## WellFormed: for each check a term it refuses, and one it lets pass -/

theorem test_wf_control : ([Instr.runSet (word 0), .runSet (word 3), .runClear (word 1), .runClear (word 2),
    .deviceReset (word 5), .glyphFlush (word 3), .glyphFlush (word 6), .sweepInterval (word 0x102)].all
      fun c => !c.WellFormed) = true ∧
    ([Instr.runSet (word 1), .runClear (word 4), .deviceReset (word 2), .glyphFlush (word 5),
      .sweepInterval (word 0xFF00)].all Instr.WellFormed) = true := by decide +kernel

theorem test_wf_register : ([0, 4, 8, 12, 16].all fun k => !(Instr.registerWriteIgnored k (word 0)).WellFormed) = true ∧
    (Instr.registerWriteIgnored 20 (word 0)).WellFormed = true := by decide +kernel

theorem test_wf_reads : ([Instr.areaHeaderRead (List.replicate 63 0), .descriptorRead (List.replicate 9 0),
    .fontDirectoryRead [], .flushDirectoryRead (List.replicate 65 0), .ringRead [0, 0, 0], .ringRead [],
    .formTransfer (List.replicate 68 0), .subBlockRead (List.replicate 66 0)].all fun c => !c.WellFormed) = true ∧
    ([Instr.areaHeaderRead (List.replicate 64 0), .descriptorRead (List.replicate 8 0), .ringRead (List.replicate 4 0),
      .formTransfer (List.replicate 64 0), .subBlockRead (List.replicate 60 0)].all Instr.WellFormed) = true := by
  decide +kernel

/-- A frame of the wrong kind for its row, one whose CRC fails, and a good one called bad. -/
theorem test_wf_frames : ([Instr.status (RxFrame.make 9 0 [0]), .status { RxFrame.make 8 0 [0, 0] with crc := 0 },
    .exitFrame (RxFrame.make 10 0 [0]), .refusedFrame (RxFrame.make 9 0 [0]), .badFrame (RxFrame.make 9 0 [0]),
    .exitFrame (RxFrame.make 9 0 [0, 0])].all fun c => !c.WellFormed) = true ∧
    ([Instr.status (RxFrame.make 8 0 [0, 0]), .exitFrame (RxFrame.make 9 0 [0]), .refusedFrame (RxFrame.make 10 0 [0]),
      .badFrame (RxFrame.make 7 0 [])].all Instr.WellFormed) = true := by decide +kernel

/-- The table gives no bits: no word spells a command, and a state stays as it is. -/
theorem test_noWord : decodeTableWord 32 0xFFFFFFFF = none ∧ (part true).withFetchWord 32 5 = part true :=
  ⟨rfl, rfl⟩

/-! ## The machine as a whole -/

/-- Every timer runs. -/
def ticking : State :=
  let s := part true
  { s with
    regs := { s.regs with sweepTimer := some 10 }
    engine := { s.engine with answerTimer := some 5 }
    mtu := { s.mtu with limit := some 1 }
    panel := { s.panel with repeatTimer := some 500, linger := some 5000 }
    comp := { s.comp with flush := .running 60000 } }

/-- The flush timer is paused, and stream 0 owns. -/
def pausedFlush : State :=
  let s := withRec (part false) 0 (ring .active)
  { s with comp := { s.comp with state := .atFill, flush := .paused 100 } }

theorem test_idle_witness : ticking.pending = [] ∧ ticking.regs.sweepTimer = some 10 ∧
    ticking.engine.pollTimer = some 0 ∧ ticking.engine.answerTimer = some 5 ∧ ticking.mtu.limit = some 1 ∧
    ticking.panel.repeatTimer = some 500 ∧ ticking.panel.linger = some 5000 ∧ ticking.comp.flush = .running 60000 ∧
    pausedFlush.pending = [] ∧ pausedFlush.comp.flush = .paused 100 := by decide +kernel

theorem test_settings_witness : (∃ t, exec .blinkHalf (part true) = .next t) ∧ isRegisterCommand .blinkHalf = false ∧
    isButtonCommand .blinkHalf = false := ⟨⟨_, rfl⟩, by decide, by decide⟩

/-- A descriptor write of 48 bytes stands on the bus at 0x2000. -/
def writing (n : Fin 8) (event result : Bool) : State :=
  let s := bus (part true) .statusWriter (.descriptorWrite n) 48 (List.replicate 48 7)
  { s with writer := { s.writer with issued := some ⟨.descriptor n, event, false, result⟩ } }

theorem test_hostMem_witness : (∃ t, exec .descriptorWrite (writing 0 true true) = .next t) ∧
    isBusOutcome .blinkHalf = false ∧ (part true).mtu.inFlight = none ∧ (writing 0 true true).mtu.inFlight ≠ none ∧
    (writing 0 true true).MemoryCanonical ∧ (∀ k < 48, (addrAt 0x2000 k).toNat ≠ 0x2030) :=
  ⟨⟨_, rfl⟩, by decide, by decide, by decide +kernel, by unfold State.MemoryCanonical; decide, by decide +kernel⟩

/-- A part at work: stream 0 ACTIVE with a page, stream 1 QUEUED, a message sent. -/
def working : State :=
  let s := withRec (owned []) 1 (ring .queued)
  let s := withSlot s 0 { page .composing with mark := true, strikes := [⟨1, 1, 1, 0, false, false, [65], none⟩] }
  { s with
    sc := { s.sc with queue := [1] }
    store := { s.store with poolUsed := 1 }
    engine := { s.engine with bandRoom := 2, missed := 2 }
    hostMem := [(1, 7), (2, 7)]
    pending := [.blinkHalf] }

theorem test_invariants_witness : working.MemoryCanonical ∧ working.OneActive ∧ working.QueueSound ∧ working.PoolSound ∧
    working.EngineBounds ∧ ∃ t, step working = .next t := by
  refine ⟨by unfold State.MemoryCanonical; decide, by unfold State.OneActive; decide +kernel,
    by unfold State.QueueSound; decide +kernel, ⟨by unfold Slot.FreeIsEmpty; decide +kernel, by decide +kernel, by decide +kernel, fun i line => ?_⟩,
    by unfold State.EngineBounds; decide +kernel, ⟨_, rfl⟩⟩
  exact Nat.le_trans List.countP_le_length ((by decide +kernel : ∀ i, (working.slot i).strikes.length ≤ 4) i)

/-! ## The Register Window -/

/-- A full band of slot 0 is being built. -/
def building (e : EngineState) : State :=
  let s := withSlot (eng (part true) e) 0 { page .imaging with entry := some ⟨0, 600⟩ }
  { s with
    builder := { s.builder with state := .building, slot := some 0 }
    store := { s.store with imaging := [0] } }

/-- Bits and settings that every plain CONTROL write statement asks for. -/
def Plain (w : HostWrite) (s : State) : Prop :=
  s.regs.resetBusy = false ∧ w.word.getLsbD 1 = false ∧ s.Composed ∧ s.refusalWaits = false

theorem plain_iff (w : HostWrite) (s : State) :
    Plain w s ↔ (s.regs.resetBusy = false ∧ w.word.getLsbD 1 = false ∧
      (s.comp.waits = false ∧ s.sc.readFailed = false ∧ s.form.noCheck = true) ∧ s.refusalWaits = false) := by
  rw [Plain, composed_iff]

theorem test_runSet_witness :
    (∀ s ∈ [part false, pausedFlush, eng (part false) (.held .hostPause), eng (part false) (.held .operatorStop)],
      Plain (word 1) s ∧ s.regs.run = false ∧ s.hasArea = true ∧ s.sc.scan = .noScan) ∧
    (word 1).word.getLsbD 0 = true ∧ pausedFlush.comp.flush = .paused 100 ∧ pausedFlush.owner ≠ none ∧
    (part false).engine.holdOwed = .none := by
  simp only [plain_iff]; decide +kernel

theorem test_interval_witness : isControlWrite (word 0xFF01) (.sweepInterval (word 0xFF01)) ∧
    Plain (word 0xFF01) (part true) ∧ (word 0xFF01).word.getLsbD 2 = false ∧
    (word 0xFF01).word.getLsbD 0 = (part true).regs.run ∧ Plain (word 1) State.reset ∧
    (word 1).word.getLsbD 0 = true ∧ State.reset.hasArea = false ∧ (part true).engine.holdOwed = .none ∧
    (part true).engine.state = .offline ∧ (eng (part true) .idle).gate = .idle ∧ Plain (word 1) (eng (part true) .idle) ∧
    (part true).cache.flush = .none := by
  simp only [plain_iff, isControlWrite]; decide +kernel

/-- A closed page waits for its stock. -/
def waitingForms : State :=
  let s := withSlot (eng (part true) .formsWait) 0 { page .closed with entry := some ⟨0, 600⟩ }
  { s with store := { s.store with imaging := [0] } }

/-- The states RUN_CLEAR's clauses ask for. -/
def clearing : List State :=
  [{ owned [] with comp := { (owned []).comp with flush := .running 1 } }, withPhase (part true) .header,
    withPhase (part true) (.request 7 ⟨0, .close, 0⟩ 0 0), withPhase (part true) (.acting 7 ⟨0, .close, 0⟩),
    eng (part true) .idle, eng (part true) .feeding, building .feeding, eng (part true) .jammed,
    eng (part true) (.held .operatorStop), waitingForms, withPhase (part true) (.openRead 7 ⟨0, .openRing, 0⟩)]

theorem test_runClear_witness : (∀ s ∈ clearing, Plain (word 0) s ∧ s.regs.run = true) ∧
    (word 0).word.getLsbD 0 = false ∧ (eng (part true) .feeding).atBoundary = true ∧
    (building .feeding).atBoundary = false ∧ (building .feeding).gate = .feeding ∧
    (building .feeding).engine.holdOwed = .none ∧ (part true).engine.state = .offline ∧
    waitingForms.gate = .formsWait ∧ waitingForms.engine.holdOwed = .none := by
  simp only [plain_iff]; decide +kernel

/-- A scan that stands at the header, a descriptor and the directory, its read not asked for, and on the bus. -/
def atReads (issued : Bool) : List State :=
  [(.header, .areaHeader), (.descriptor 3, .descriptor 3), (.directory, .fontDirectory)].map
    fun (p : ScanPhase × TransferKind) =>
      if issued then bus (withPhase (part true) p.1) .streamReader p.2 64 [] else withPhase (part true) p.1

theorem test_runClear_reads : ∀ b, ∀ s ∈ atReads b, Plain (word 0) s ∧ s.regs.run = true ∧ s.scanIssued = b ∧
    (s.sc.phase = .header ∨ s.sc.phase = .descriptor 3 ∨ s.sc.phase = .directory) := by
  simp only [plain_iff]; decide +kernel

/-- A typeface of two glyphs of 8 dots by 8 rows, at an unaligned address. -/
def face : FontRec := ⟨0x6001, 2, 8, 8⟩

/-- A fill is in flight for way 0 of set 1. -/
def filling (s : State) (wanted : Bool) : State :=
  { s with cache := { s.cache with fill := some ⟨1, 0, 0, 1, face, [0], [], wanted⟩ } }

theorem test_glyphFlush_witness :
    (∀ s ∈ [part true, filling (part true) false, building .feeding],
      Plain (word 5) s ∧ s.cache.flush = .none ∧ (word 5).word.getLsbD 0 = s.regs.run) ∧
    (word 5).word.getLsbD 2 = true ∧ (part true).atBoundary = true ∧ (filling (part true) false).atBoundary = true ∧
    (building .feeding).atBoundary = false ∧ (filling (part true) false).cache.fill ≠ none := by
  simp only [plain_iff]; decide +kernel

/-- A directory of one typeface is set aside, and a flush stands at `f`. -/
def setAside (s : State) (f : FlushPhase) : State :=
  { s with cache := { s.cache with aside := some ⟨1, [face]⟩, flush := f } }

theorem test_flushAside_witness : ∀ s ∈ [part true, filling (part true) false],
    Plain (word 5) (setAside s .none) ∧ (setAside s .none).cache.flush = .none ∧ (setAside s .none).atBoundary = true ∧
    (setAside s .none).cache.aside = some ⟨1, [face]⟩ := by
  simp only [plain_iff]; decide +kernel

/-- A device reset is under way. -/
def resetting (s : State) : State := { s with regs := { s.regs with resetBusy := true, run := false } }

theorem test_deviceReset_witness : (word 2).word.getLsbD 1 = true ∧ (writing 0 true false).regs.resetBusy = false ∧
    (writing 0 true false).mtu.inFlight ≠ none ∧ (resetting State.reset).regs.resetBusy = true ∧
    (resetting State.reset).mtu.inFlight = none ∧ (resetting (writing 0 true false)).regs.resetBusy = true ∧
    (resetting (writing 0 true false)).mtu.inFlight ≠ none ∧ (resetting State.reset).regs.run = false ∧
    isControlWrite (word 2) (.deviceReset (word 2)) := by
  simp only [isControlWrite]; decide +kernel

theorem test_trigger_witness : (part true).regs.resetBusy = false ∧ (part true).regs.run = true ∧ (part true).hasArea = true ∧
    (part true).sc.scan = .noScan ∧ ticking.regs.sweepTimer ≠ none ∧ ticking.regs.resetBusy = false ∧
    (withPhase (part true) .header).sc.scan = .scanning ∧ (part false).regs.run = false ∧
    ({ part true with regs := { (part true).regs with areaBase := 0x1001 } } : State).hasArea = false := by decide +kernel

theorem test_events_witness : (∃ t, exec .busError (bus (part true) .streamReader .areaHeader 64 []) = .next t) ∧
    (∃ t, exec .busError (resetting (part true)) = .next t) ∧ (resetting (part true)).regs.events = 0 ∧
    (part true).regs.resetBusy = false ∧ (word 2).word.getLsbD 1 = true ∧
    isControlWrite (word 2) (.deviceReset (word 2)) := by
  refine ⟨⟨_, rfl⟩, ⟨_, rfl⟩, ?_⟩
  simp only [isControlWrite]; decide +kernel

theorem test_rstimg_witness :
    (∀ sl ∈ [page .imaging, page .sent, { page .composing with split := 1 }],
      ∃ i, ((withSlot (part true) 3 sl).slot i).state = .imaging ∨ ((withSlot (part true) 3 sl).slot i).state = .sent ∨
        (((withSlot (part true) 3 sl).slot i).state = .composing ∧ 0 < ((withSlot (part true) 3 sl).slot i).split)) ∧
    (∀ i, ((withSlot (part true) 3 (page .composing)).slot i).state ≠ .imaging ∧
      ((withSlot (part true) 3 (page .composing)).slot i).state ≠ .sent ∧
      (((withSlot (part true) 3 (page .composing)).slot i).state = .composing →
        ((withSlot (part true) 3 (page .composing)).slot i).split = 0)) := by decide +kernel

theorem test_areaBase_witness : (part false).regs.run = false ∧ (word 0x1001).word ≠ (part false).regs.areaBase ∧
    (word 0x1000).word = (part false).regs.areaBase ∧ (part true).regs.run = true ∧
    0x14 ∉ [0x00, 0x04, 0x08, 0x0C, 0x10] ∧ 0x18 ∉ [0x00, 0x04, 0x08, 0x0C, 0x10] ∧
    (withPhase (part false) .directory).sc.phase = .directory ∧ (part false).sc.phase ≠ .directory := by decide +kernel

/-! ## Scans and requests -/

/-- A scan at its header, whose read stands on the bus. -/
def header : State := bus (withPhase (part true) .header) .streamReader .areaHeader 64 []

/-- 64 bytes of an area header with counts out of range, flag 7 and lamp functions 5, 0, 9, 3. -/
def headerBytes : List Byte := [9, 0, 200, 0x80, 0x05, 0x39] ++ List.replicate 58 0

/-- The same scan cut short by RUN 0; `scan` is its state. -/
def cutHeader (run : Bool) (scan : ScanState) : State :=
  { header with sc := { header.sc with cut := true, scan := scan }, regs := { header.regs with run := run } }

theorem test_header_witness : header.OnBus .areaHeader 64 ∧ headerBytes.length = 64 ∧ header.Composed ∧
    header.sc.cut = false ∧ (cutHeader false .scanning).OnBus .areaHeader 64 ∧
    (cutHeader false .scanning).sc.scan ≠ .scanningOwed ∧ (cutHeader true .scanningOwed).OnBus .areaHeader 64 ∧
    (cutHeader true .scanningOwed).sc.scan = .scanningOwed ∧ (cutHeader true .scanningOwed).regs.run = true ∧
    (cutHeader true .scanningOwed).sc.cut = true := by
  simp only [onBus_iff, composed_iff]; decide +kernel

/-- R6: counts are clamped to 1..8, 1..16 and 1..4, and an unknown lamp function is OFF. -/
theorem test_header_clamps : ∃ t, exec (.areaHeaderRead headerBytes) header = .next t ∧
    (t.sc.streamCount, t.sc.formCount, t.sc.fontCount, t.sc.firstPage) = (8, 1, 4, 0x80) ∧
    t.panel.lamps = #v[.offline, .off, .off, .activity] := ⟨_, rfl, by decide +kernel⟩

/-- RUN 0 on a part whose bus and whose streams are at rest. -/
theorem test_runSetBus_witness : (part false).regs.resetBusy = false ∧ (word 1).word.getLsbD 1 = false ∧
    (word 1).word.getLsbD 0 = true ∧ (part false).regs.run = false ∧ (part false).hasArea = true ∧
    (part false).sc.scan = .noScan ∧ (part false).Composed ∧ (part false).refusalWaits = false ∧
    (part false).mtu = TransferUnit.initial ∧ (part false).cache.fill = none ∧ (part false).sc.queue = [] ∧
    (∀ n, ((part false).stream n).state = .closed) := by
  simp only [composed_iff]; decide +kernel

/-- The read of descriptor `n` stands on the bus; stream `n` is `r`. -/
def reading (s : State) (n : Fin 8) (r : StreamRec) : State :=
  bus (withPhase (withRec s n r) (.descriptor n)) .streamReader (.descriptor n) 8 []

/-- Descriptor bytes: fill pointer, request code, flush interval 61. -/
def descriptorBytes (fill code : Nat) : List Byte := leBytes 4 fill ++ leBytes 2 code ++ leBytes 2 61

/-- Stream 6 with the scan at its descriptor, 7 streams; the fills used: at release + 4, just behind take, good. -/
def scanned (s : State) (st : StreamState) : State :=
  let s := reading s 6 { ring st with fill := 0, take := 0, release := 512 }
  { s with sc := { s.sc with streamCount := 8 } }

/-- Stream 6 is the owner, at fill. -/
def atFill : State :=
  let s := scanned (part true) .active
  { s with comp := { s.comp with state := .atFill, flush := .running 5 } }

theorem test_descriptorRead_witness :
    (∀ st ∈ [StreamState.closed, .idle, .queued, .faulted], ∀ b ∈ [owned [], part true],
      (scanned b st).OnBus (.descriptor 6) 8 ∧ (scanned b st).Composed ∧
        ((scanned b st).stream 6).clearOwed = false ∧ ((scanned b st).stream 6).state = st ∧
        ((scanned b st).stream 6).discard = false ∧ ((scanned b st).stream 6).rush = false ∧
        ((scanned b st).stream 6).badFill 4 = false ∧ ((scanned b st).stream 6).badFill 1020 = true) ∧
    (scanned (owned []) .idle).owner ≠ none ∧ (scanned (part true) .idle).owner = none ∧
    (scanned (part true) .idle).sc.queue = [] ∧ (scanned (part true) .idle).regs.run = true ∧
    (descriptorBytes 4 0).length = 8 ∧ le16 (descriptorBytes 4 0) 4 = 0 ∧ le32 (descriptorBytes 1020 0) 0 = 1020 ∧
    atFill.OnBus (.descriptor 6) 8 ∧ atFill.Composed ∧ (atFill.stream 6).clearOwed = false ∧
    (atFill.stream 6).state = .active ∧ (atFill.stream 6).badFill 4 = false ∧ (atFill.stream 6).badFill 1020 = true ∧
    atFill.comp.state = .atFill ∧ (6 : Fin 8) ∉ atFill.sc.queue ∧ (6 : Fin 8).val + 1 < atFill.sc.streamCount ∧
    atFill.sc.cut = false := by
  simp only [onBus_iff, composed_iff]; decide +kernel

/-- R28 at its bounds: release 512, take 0 of 1,024 bytes; and take ahead of release. -/
theorem test_badFill_bounds :
    let r := (scanned (part true) .idle).stream 6
    r.release < r.ringSize ∧ r.take < r.ringSize ∧ ([0, 508, 512, 1020, 1024, 2].map r.badFill) =
        [false, false, true, true, true, true] ∧
      ([0, 508, 512, 516, 1020].map { r with release := 508, take := 516 }.badFill) =
        [false, true, true, false, false] := by decide +kernel

/-- Stream 6 is IDLE and discards, or is rushed behind the streams `front` and before `back` of the Job Queue. -/
def scannedDiscard (s : State) : State := (scanned s .idle).modStream 6 fun r => { r with discard := true }
def scannedRush (front back : List (Fin 8)) : State :=
  let s := front.foldl (fun s m => withRec s m { ring .queued with rush := true }) (scanned (owned []) .idle)
  let s := back.foldl (fun s m => withRec s m (ring .queued)) (s.modStream 6 fun r => { r with rush := true })
  { s with sc := { s.sc with queue := front ++ back } }

theorem test_descriptorQueue_witness : (∀ b ∈ [owned [], part true], (scannedDiscard b).OnBus (.descriptor 6) 8 ∧
      (scannedDiscard b).Composed ∧ ((scannedDiscard b).stream 6).clearOwed = false ∧
      ((scannedDiscard b).owner ≠ none ∨ (scannedDiscard b).sc.queue = []) ∧
      ((scannedDiscard b).stream 6).state = .idle ∧ ((scannedDiscard b).stream 6).discard = true ∧
      ((scannedDiscard b).stream 6).badFill 4 = false ∧ ((scannedDiscard b).stream 6).take ≠ 4) ∧
    (∀ f ∈ [[], [1]], ∀ b ∈ [[], [2]], (scannedRush f b).OnBus (.descriptor 6) 8 ∧ (scannedRush f b).Composed ∧
      ((scannedRush f b).stream 6).clearOwed = false ∧ (scannedRush f b).owner ≠ none ∧
      ((scannedRush f b).stream 6).state = .idle ∧ ((scannedRush f b).stream 6).discard = false ∧
      ((scannedRush f b).stream 6).rush = true ∧ ((scannedRush f b).stream 6).badFill 4 = false ∧
      ((scannedRush f b).stream 6).take ≠ 4 ∧ (scannedRush f b).sc.queue = f ++ b ∧
      (∀ m ∈ f.getLast?, ((scannedRush f b).stream m).rush = true) ∧
      (∀ m ∈ b, ((scannedRush f b).stream m).rush = false)) := by
  simp only [onBus_iff, composed_iff]; decide +kernel

/-- A wait of the Composer that a bad fill pointer of stream 0 ends: for a strike entry on page `sl`, or for a slot with
every slot taken, in a turn or at a JOB that has not started. -/
def interrupted (wait : ComposerState) (started : Bool) (sl : Slot) (c : Nat) : State :=
  let s := withSlot (owned (List.replicate 16 1)) 0 { sl with jobTag := 5, pageNo := 7 }
  let s := bus (withPhase s (.descriptor 0)) .streamReader (.descriptor 0) 8 []
  { s with
    comp := { s.comp with
      state := wait, cursor := some c, job := some ⟨5, 0, 7, started⟩, waiting := some ⟨c, 0, 8, .nothing⟩ }
    store := { s.store with imaging := if sl.mark then [] else [0] } }

def waitStrikes : List State :=
  [interrupted .waitStrike true { page .composing with mark := true, strikes := [⟨1, 1, 1, 0, false, false, [65], none⟩] } 1,
    interrupted .waitStrike true { page .composing with mark := true } 2]
def waitSlots : List State :=
  [true, false].map fun b => interrupted .waitSlot b { page .closed with entry := some ⟨0, 600⟩ } 1

theorem test_badFillWaits_witness : (∀ s ∈ waitStrikes ++ waitSlots, s.OnBus (.descriptor 0) 8 ∧
      (s.stream 0).clearOwed = false ∧ (s.stream 0).badFill 1024 = true ∧ s.owner = some 0 ∧ s.OneActive ∧
      (0 : Fin 8) ∉ s.sc.queue ∧ s.comp.waits = true ∧ s.comp.job.isSome ∧ (s.stream 0).reports = [] ∧
      s.writer.reporting 0 = false) ∧ le32 (descriptorBytes 1024 0) 0 = 1024 ∧ le16 (descriptorBytes 1024 0) 4 = 0 ∧
    (∀ s ∈ waitStrikes, s.comp.state = .waitStrike ∧ s.composing = some 0 ∧
      ((s.slot 0).strikes ≠ [] ∨ 1 < s.comp.cursor.getD 1) ∧ (s.slot 0).state = .composing ∧ (s.slot 0).split = 0 ∧
      s.comp.job.map (·.started) = some true) ∧
    (∀ s ∈ waitSlots, s.comp.state = .waitSlot ∧ s.composing = none ∧ s.newestSlot 0 none = some 0) ∧
    (waitSlots.map fun s => s.comp.job.map (·.started)) = [some true, some false] := by
  simp only [onBus_iff, State.OneActive]; decide +kernel

/-- Descriptor 6 is the last of 7, a directory read owed or not, a device record write owed. -/
def lastDescriptor (dir : Bool) (scan : ScanState) : State :=
  let s := scanned (owned []) .idle
  { s with sc := { s.sc with streamCount := 7, dirOwed := dir, scan := scan } }

theorem test_lastDescriptor_witness : ∀ d, ∀ sc ∈ [ScanState.scanning, .scanningOwed],
    (lastDescriptor d sc).OnBus (.descriptor 6) 8 ∧ (lastDescriptor d sc).Composed ∧
    ((lastDescriptor d sc).stream 6).clearOwed = false ∧ (lastDescriptor d sc).sc.streamCount ≤ (6 : Fin 8).val + 1 ∧
    (lastDescriptor d sc).sc.cut = false ∧ (lastDescriptor d sc).sc.dirOwed = d ∧
    (lastDescriptor d sc).sc.scan = sc ∧ (lastDescriptor d sc).regs.run = true ∧
    (lastDescriptor d sc).sc.recordOwed = true := by
  simp only [onBus_iff, composed_iff]; decide +kernel

/-- The second read of an OPEN stands on the bus. -/
def ringReading : State :=
  bus (withPhase (owned []) (.openRead 1 ⟨0, .openRing, 0⟩)) .streamReader (.openRead 1) 8 []

theorem test_request_witness :
    (∀ c ∈ [1, 2, 65535], (descriptorBytes 0 c).length = 8 ∧ le16 (descriptorBytes 0 c) 4 = c) ∧
    (scanned (owned []) .idle).OnBus (.descriptor 6) 8 ∧ (scanned (owned []) .idle).Composed ∧
    (scanned (owned []) .idle).owner ≠ none ∧ ((scanned (owned []) .idle).stream 6).clearOwed = false ∧
    (reading (owned []) 6 { ring .idle with clearOwed := true }).OnBus (.descriptor 6) 8 ∧
    ((reading (owned []) 6 { ring .idle with clearOwed := true }).stream 6).clearOwed = true ∧
    ringReading.OnBus (.openRead 1) 8 ∧ ringReading.Composed ∧ ringReading.owner ≠ none ∧
    ringReading.sc.phase = .openRead 1 ⟨0, .openRing, 0⟩ := by
  simp only [onBus_iff, composed_iff]; decide +kernel

/-- A request of code `c` on stream 3 in state `st` waits to be acted on; stream 0 is the owner. -/
def asked (c : RequestCode) (st : StreamState) (fill size : Nat) : State :=
  withPhase (withRec (owned []) 3 (ring st)) (.request 3 ⟨fill, c, 0⟩ 0x8000 size)

/-- What every request statement asks for. -/
def Asked (c : RequestCode) (n : Fin 8) (s : State) : Prop :=
  s.regs.resetBusy = false ∧ (∃ x b z, s.sc.phase = .request n x b z ∧ x.code = c) ∧ s.Composed ∧ s.owner ≠ none

theorem asked_holds (c : RequestCode) (st : StreamState) (fill size : Nat) : Asked c 3 (asked c st fill size) := by
  refine ⟨rfl, ⟨_, _, _, rfl, rfl⟩, ⟨rfl, rfl, rfl⟩, ?_⟩
  have h : (asked c st fill size).owner = some 0 := rfl
  simp [h]

/-- A request on stream 3 with no stream ACTIVE: nothing is queued, or RUN is 0 and streams 1 and 3 are. -/
def askedIdle (c : RequestCode) (st : StreamState) (run : Bool) : State :=
  let s := withPhase (withRec (withRec (part run) 3 (ring st)) 1 (ring .queued)) (.request 3 ⟨0, c, 0⟩ 0 0)
  { s with sc := { s.sc with queue := if run then [] else if st = .queued then [1, 3] else [1] } }

theorem test_askedIdle_witness : ∀ c ∈ [RequestCode.close, .cancel, .reset, .unknown],
    ∀ st ∈ [StreamState.closed, .idle, .queued, .faulted], ∀ r, (askedIdle c st r).regs.resetBusy = false ∧
      (askedIdle c st r).sc.phase = .request 3 ⟨0, c, 0⟩ 0 0 ∧
      ((askedIdle c st r).comp.waits = false ∧ (askedIdle c st r).sc.readFailed = false ∧
        (askedIdle c st r).form.noCheck = true) ∧ (askedIdle c st r).owner = none ∧
      ((askedIdle c st r).stream 3).state = st ∧ (askedIdle c st r).regs.run = r ∧
      ((askedIdle c st r).sc.queue = [] ∨ (askedIdle c st r).regs.run = false) := by decide +kernel

/-- The owner is gone from `asked`. -/
def askedAlone (fill size : Nat) : State :=
  withPhase (part true) (.request 3 ⟨fill, .openRing, 0⟩ 0x8000 size)

/-- OPEN with no stream ACTIVE: to IDLE, to QUEUED while RUN is 0, and refused. -/
def openIdle (st : StreamState) (run : Bool) (fill size : Nat) : State :=
  withPhase (askedIdle .openRing st run) (.request 3 ⟨fill, .openRing, 0⟩ 0x8000 size)

theorem test_openIdle_witness : ∀ o ∈ [(StreamState.closed, true, 0, 1024), (.closed, false, 1020, 1024),
      (.idle, true, 4, 1024), (.closed, true, 4, 1000)],
    let s := openIdle o.1 o.2.1 o.2.2.1 o.2.2.2
    s.regs.resetBusy = false ∧ (s.comp.waits = false ∧ s.sc.readFailed = false ∧ s.form.noCheck = true) ∧
    s.owner = none ∧ (s.sc.queue = [] ∨ s.regs.run = false) ∧ (s.stream 3).state = o.1 ∧ s.regs.run = o.2.1 ∧
    (∀ i, (s.slot i).stream = 3 → (s.slot i).state = .free) := by decide +kernel

theorem test_open_witness : ((asked .openRing .idle 0 1024).stream 3).state ≠ .closed ∧
    ((asked .openRing .closed 0 1024).stream 3).state = .closed ∧ (0x8000#32).toNat % 4 = 0 ∧ 1024 % 256 = 0 ∧
    1048576 % 256 = 0 ∧ (∀ i, ((asked .openRing .closed 0 1024).slot i).stream = 3 →
      ((asked .openRing .closed 0 1024).slot i).state = .free) ∧
    (∃ i, ((withSlot (asked .openRing .closed 0 1024) 1 { page .closed with stream := 3 }).slot i).stream = 3 ∧
      ((withSlot (asked .openRing .closed 0 1024) 1 { page .closed with stream := 3 }).slot i).state ≠ .free) ∧
    (askedAlone 1020 1024).owner = none ∧ (askedAlone 1020 1024).sc.queue = [] ∧
    (askedAlone 1020 1024).regs.run = true ∧ ((askedAlone 1020 1024).stream 3).state = .closed ∧
    (∀ i, ((askedAlone 1020 1024).slot i).stream = 3 → ((askedAlone 1020 1024).slot i).state = .free) := by
  decide +kernel

theorem test_close_witness : ((asked .close .idle 0 0).stream 3).state = .idle ∧
    ((asked .close .active 0 0).stream 3).state ≠ .idle ∧ ((asked .close .active 0 0).stream 3).state ≠ .queued := by
  decide +kernel

/-- CANCEL of the owner before any JOB. -/
def cancelEarly : State := withPhase (owned []) (.request 0 ⟨0, .cancel, 0⟩ 0 0)

/-- CANCEL of the owner after its JOB, with a page in state `st`. -/
def cancelLate (st : SlotState) : State :=
  let s := withSlot cancelEarly 0 { page st with entry := some ⟨64, 600⟩ }
  { s with
    comp := { s.comp with job := some ⟨5, 0, 1, true⟩ }
    store := { s.store with imaging := [0] } }

theorem test_cancel_witness :
    (∀ st, ((asked .cancel st 0 0).stream 3).state = st ∧ ((asked .cancel st 0 0).stream 3).discard = false) ∧
    Asked .cancel 0 cancelEarly ∧ (cancelEarly.stream 0).state = .active ∧ cancelEarly.comp.job = none ∧
    cancelEarly.sc.queue = [] ∧ cancelEarly.owner = some 0 := by
  refine ⟨fun st => ⟨rfl, rfl⟩, ⟨rfl, ⟨_, _, _, rfl, rfl⟩, ⟨rfl, rfl, rfl⟩, by decide +kernel⟩, ?_⟩
  decide +kernel

theorem test_cancelActive_witness : ∀ st ∈ [SlotState.closed, .imaging],
    (cancelLate st).regs.resetBusy = false ∧ (cancelLate st).sc.phase = .request 0 ⟨0, .cancel, 0⟩ 0 0 ∧
    ((cancelLate st).stream 0).state = .active ∧ (cancelLate st).comp.job ≠ none ∧ (cancelLate st).owner = some 0 ∧
    (cancelLate st).OneActive ∧ (cancelLate st).sc.queue = [] ∧ (cancelLate st).refusalWaits = false ∧
    (cancelLate st).engine.halting = false ∧ ((cancelLate st).slot 0).stream = 0 ∧
    ((cancelLate st).slot 0).onEngine = decide (st = .imaging) := by
  unfold State.OneActive; decide +kernel

/-- CANCEL of the owner with reports `rs` owed, its JOB in progress or not. -/
def cancelReporting (rs : List Report) (started : Bool) : State :=
  { cancelEarly.modStream 0 fun r => { r with reports := rs } with
    comp := { cancelEarly.comp with job := some ⟨5, 0, 1, started⟩ } }

theorem test_cancelReports_witness : ∀ rs ∈ [[], [⟨4, .done, false, 3⟩, ⟨5, .noneYet, false, 0⟩]],
    ∀ b, (cancelReporting rs b).regs.resetBusy = false ∧
    (cancelReporting rs b).sc.phase = .request 0 ⟨0, .cancel, 0⟩ 0 0 ∧ ((cancelReporting rs b).stream 0).state = .active ∧
    (cancelReporting rs b).owner = some 0 ∧ (cancelReporting rs b).OneActive ∧ (cancelReporting rs b).sc.queue = [] ∧
    (cancelReporting rs b).refusalWaits = false ∧ ((cancelReporting rs b).stream 0).reports = rs ∧
    (cancelReporting rs b).writer.reporting 0 = false ∧ (cancelReporting rs b).comp.job = some ⟨5, 0, 1, b⟩ := by
  unfold State.OneActive; decide +kernel

/-- Streams 1 (rushed), 2 and 3 wait; RUSH of stream 3. -/
def rushing : State :=
  let s := withRec (withRec (asked .rush .queued 0 0) 1 { ring .queued with rush := true }) 2 (ring .queued)
  { s with sc := { s.sc with queue := [1, 2, 3] } }

theorem test_rush_witness : Asked .rush 3 rushing ∧ (rushing.stream 3).state = .queued ∧
    (rushing.stream 3).discard = false ∧ (rushing.stream 3).rush = false ∧
    rushing.sc.queue.filter (· ≠ 3) = [1] ++ [2] ∧ (∀ m ∈ [(2 : Fin 8)], (rushing.stream m).rush = false) ∧
    (∀ m ∈ [(1 : Fin 8)].getLast?, (rushing.stream m).rush = true) ∧
    ((asked .rush .closed 0 0).stream 3).state = .closed ∧ ((asked .rush .idle 0 0).stream 3).state = .idle := by
  refine ⟨⟨rfl, ⟨_, _, _, rfl, rfl⟩, ⟨rfl, rfl, rfl⟩, by decide +kernel⟩, ?_⟩
  decide +kernel

/-- RUSH where no stream is ACTIVE: RUN is 0, or nothing is queued and stream 3 is IDLE. -/
theorem test_rushIdle_witness : ∀ r, (askedIdle .rush (if r then .idle else .queued) r).regs.resetBusy = false ∧
    (askedIdle .rush (if r then .idle else .queued) r).owner = none ∧
    (askedIdle .rush (if r then .idle else .queued) r).regs.run = r ∧
    (r = true → (askedIdle .rush (if r then .idle else .queued) r).sc.queue = []) := by decide +kernel

/-- RESET of the QUEUED stream 3 with a page in state `st`, beside a page of stream 0 in state `other`. -/
def resetPages (st other : SlotState) (halting : Bool) : State :=
  let s := withSlot (withSlot (asked .reset .queued 0 0) 2 { page st with stream := 3, entry := some ⟨64, 600⟩ }) 1
    { page other with entry := some ⟨64, 600⟩ }
  { s with
    store := { s.store with imaging := [1, 2] }
    engine := { s.engine with halting := halting, state := .feeding } }

theorem test_resetPages_witness : ∀ st ∈ [SlotState.closed, .imaging, .sent], ∀ o ∈ [SlotState.closed, .imaging], ∀ h,
    ((resetPages st o h).stream 3).state = .queued ∧ ((resetPages st o h).slot 2).stream = 3 ∧
    ((resetPages st o h).slot 2).onEngine = decide (st ≠ .closed) ∧ (resetPages st o h).engine.halting = h ∧
    (resetPages st o h).refusalWaits = false ∧ (∀ i, i ≠ 2 → ((resetPages st o h).slot i).stream ≠ 3) ∧
    (resetPages st o h).owner ≠ none := by decide +kernel

theorem test_reset_witness : ((asked .reset .closed 0 0).stream 3).state = .closed ∧
    ((asked .reset .active 0 0).stream 3).state ≠ .closed ∧
    (((asked .reset .queued 0 0).modStream 3 fun r => { r with reports := [⟨4, .faulted, false, 3⟩] }).stream 3).reports =
      ⟨4, .faulted, false, 3⟩ :: [] ∧ (asked .reset .queued 0 0).writer.reporting 3 = false := by decide +kernel

/-- The font directory's read stands on the bus; `scan` is the scan's state. -/
def directory (s : State) (scan : ScanState) : State :=
  let s := bus (withPhase s .directory) .streamReader .fontDirectory 64 []
  { s with sc := { s.sc with scan := scan }, regs := { s.regs with sweepInterval := 255 } }

theorem test_directory_witness : (∀ s ∈ [part true, building .feeding], ∀ sc ∈ [ScanState.scanning, .scanningOwed],
      (directory s sc).OnBus .fontDirectory 64 ∧ (directory s sc).refusalWaits = false ∧
      (directory s sc).regs.run = true ∧ (directory s sc).hasArea = true ∧
      (directory s sc).regs.sweepInterval ≠ 0 ∧ (directory s sc).cache.flush = .none ∧
      (directory s sc).cache.fill = none) ∧ (directory (part true) .scanning).atBoundary = true ∧
    (directory (building .feeding) .scanning).atBoundary = false := by
  simp only [onBus_iff]; decide +kernel

/-- The same while a flush stands at any of its steps, a given-up fill in flight or none; the record write is owed. -/
theorem test_directoryFlush_witness : ∀ f ∈ [FlushPhase.owed, .waitFill, .reading], ∀ b : Bool,
    let s := directory (setAside (if b then filling (part true) false else part true) f) .scanning
    s.OnBus .fontDirectory 64 ∧ s.refusalWaits = false ∧ s.atBoundary = true ∧ s.cache.flush = f ∧
      s.sc.recordOwed = true := by
  simp only [onBus_iff]; decide +kernel

/-! ## Records, forms and the flush timer -/

theorem test_ring_witness :
    (bus (owned []) .streamReader (.ring 0) 4 []).OnBus (.ring 0) 4 ∧
    (bus (owned []) .streamReader (.ring 0) 4 []).Composed ∧ (bus (owned []) .streamReader (.ring 0) 4 []).owner ≠ none ∧
    (bus (owned []) .streamReader (.discardRing 7) 16 []).OnBus (.discardRing 7) 16 ∧
    (bus (owned []) .streamReader (.discardRing 7) 16 []).Composed ∧
    (∀ r, (bus (part r) .streamReader (.discardRing 7) 16 []).OnBus (.discardRing 7) 16 ∧ (part r).owner = none ∧
      (part r).sc.queue = []) ∧
    (List.replicate 16 (0 : Byte)).length = 16 ∧ (List.replicate 4 (0 : Byte)).length = 4 := by
  simp only [onBus_iff, composed_iff]; decide +kernel

/-- The 8 bytes of a record header. -/
def headerOf (kind flags len before after face text : Nat) : List Byte :=
  leBytes 1 kind ++ leBytes 1 flags ++ leBytes 2 len ++ leBytes 1 before ++ leBytes 1 after ++ leBytes 1 face ++
    leBytes 1 text

/-- A WRAP at take, one behind a MARK, and one behind three LINEs of 168 bytes, which fill the buffer with it. -/
theorem test_wrapAhead_witness :
    ∀ records ∈ [[], [headerOf 4 0 12 0 0 0 0 ++ [1, 2, 3, 4]],
      List.replicate 3 (headerOf 1 0 168 0 0 0 160 ++ List.replicate 160 (65 : Byte))],
    let back := headerOf 5 0 8 0 0 0 0
    ((owned (records.flatten ++ back)).stream 0).state = .active ∧ (records.flatten ++ back).length ≤ 512 ∧
    (∀ r ∈ records, r.length = (recordHeader r).length ∧ (recordHeader r).sound = true) ∧
    (recordHeader back).kind = .wrap ∧ (recordHeader back).length = 8 ∧ 8 ≤ back.length := by decide +kernel

/-- The requests: scan reads and form reads at the ends of the area; ring reads with whole and cut records in hand, at
fill, and of a discard. -/
theorem test_request_places_witness :
    (∀ p ∈ [ScanPhase.header, .descriptor 0, .descriptor 7, .openRead 7 ⟨0, .openRing, 0⟩, .directory],
      (withPhase (part true) p).hasArea = true ∧ (withPhase (part true) p).sc.phase = p ∧
      (withPhase (part true) p).mtu.reader = .empty ∧ (withPhase (part true) p).scanRead.isSome ∧
      (∀ n, (withPhase (part true) p).ringReadOf n = none)) ∧
    (∀ records ∈ [[], [headerOf 4 0 12 0 0 0 0 ++ [1, 2, 3, 4]]],
      ∀ back ∈ [[], headerOf 0 0 8 0 0 0 0, headerOf 1 0 20 0 0 0 9, [5, 0, 8, 0]],
      let s := owned (records.flatten ++ back)
      (s.stream 0).state = .active ∧ s.sc.readFailed = false ∧
      (∀ b ∈ records, b.length = (recordHeader b).length ∧ (recordHeader b).sound = true ∧
        (recordHeader b).kind ≠ .wrap) ∧
      (back.length < 8 ∨ (recordHeader back).sound = false ∨
        ((recordHeader back).kind ≠ .wrap ∧ back.length < (recordHeader back).length)) ∧ (s.ringReadOf 0).isSome) ∧
    ((owned (List.replicate 64 0)).stream 0).span - 64 < 4 := by decide +kernel

/-- Stream 0 reads its ring and the scan its header: one or the other had the last turn. -/
def readers (scanLast : Bool) : State :=
  let s := withPhase (owned []) .header
  { s with sc := { s.sc with lastWasScan := scanLast } }

/-- A write waits to be issued, or the second half of a device record does. -/
def writers (o : OwedKind) (second : Bool) : State :=
  let w : Owed := ⟨o, false, false, false⟩
  { part true with writer := if second then ⟨[], some w, true, false, false⟩ else ⟨[w], none, false, false, false⟩ }

theorem test_asks_witness : (∀ b, (readers b).mtu.reader = .empty ∧ (readers b).scanRead.isSome ∧
      ((readers b).ringReadOf 0).isSome ∧ (readers b).sc.lastWasScan = b) ∧
    (∀ m : Fin 8, (m.val + 7 - (readers true).sc.lastStream.val) % 8 <
      ((0 : Fin 8).val + 7 - (readers true).sc.lastStream.val) % 8 → (readers true).ringReadOf m = none) ∧
    (∀ st ∈ [LoadStep.recordLow, .recordHigh, .vft, .translate],
      let s := { part true with form := .loading ⟨15, st, [1], [], []⟩ }
      s.mtu.loader = .empty ∧ (s.formRead ⟨15, st, [1], [], []⟩).isSome) ∧
    (∀ w, (filling (part true) w).mtu.filler = .empty ∧
      ((filling (part true) w).fillRead ⟨1, 0, 0, 1, face, [0], [], w⟩).isSome) ∧
    (setAside (part true) .reading).mtu.filler = .empty ∧ (setAside (part true) .reading).cache.fill = none ∧
    (setAside (part true) .reading).cache.flush = .reading ∧ (setAside (part true) .reading).hasArea = true ∧
    (∀ o ∈ [OwedKind.descriptor 7, .requestField 0, .deviceRecord], (writers o false).mtu.writer = .empty ∧
      (writers o false).hasArea = true ∧ (writers o false).writer.issued = none ∧
      (writers o false).writer.waiting = [⟨o, false, false, false⟩]) ∧
    (writers .deviceRecord true).mtu.writer = .empty ∧ (writers .deviceRecord true).writer.issued.isSome ∧
    (writers .deviceRecord true).writer.secondHalf = true := by decide +kernel

/-- A form of `lines` lines; stop 1 on lines 1 and 4, stop 2 on line 6. -/
def form (lines : Nat) : Form :=
  { Form.none with
    stock := 1
    length := 600
    lines := lines
    pitch := 3
    positions := 4
    charPitch := 12
    headerLine := 1
    vft := [1, 0, 0, 1, 0, 2].take lines }

/-- R52's worked examples: 84 lines of the form, and forms of one and two lines. -/
theorem test_space_examples :
    (form 84).move 83 (.space 1) = (0, 84) ∧ (form 84).move 83 (.space 2) = (1, 1) ∧
    (form 84).move 84 (.space 3) = (1, 3) ∧ (form 2).move 2 (.space 3) = (2, 1) ∧
    (form 1).move 1 (.space 3) = (3, 1) := by decide +kernel

theorem test_carriage_witness :
    1 + 2 ≤ (form 6).lines ∧ (form 6).lines < 6 + 1 ∧ (form 6).carries 1 4 = true ∧
    (∀ k < 4, 1 < k → (form 6).carries 1 k = false) ∧ (∀ k < 7, 4 < k → (form 6).carries 1 k = false) ∧
    (form 6).carries 1 1 = true := by decide +kernel

/-- Stream 0 composes slot 0, `sl`, on the form of 6 lines, the cursor on line `c`; `bytes` stand at take. -/
def composing (c : Nat) (sl : Slot) (bytes : List Byte) : State :=
  let s := withSlot (owned bytes) 0 { sl with mark := true, jobTag := 5, pageNo := 7 }
  { s with
    comp := { s.comp with cursor := some c, job := some ⟨5, 0, 7, true⟩ }
    form := .loaded (form 6)
    store := { s.store with poolUsed := sl.strikes.length, lastOpened := 0 } }

/-- Take stands `k` bytes before fill. -/
def span (s : State) (k : Nat) : State := s.modStream 0 fun r => { r with fill := k }

/-- A LINE of five codes: space 1, print, skip to stop 1; the form has four positions. -/
def lineBytes : List Byte := headerOf 1 1 16 1 0x41 2 5 ++ [65, 66, 67, 68, 69, 0, 0, 0]

/-- A strike on line `l`. -/
def strike (l : Nat) : Strike := ⟨l, 1, 1, 0, false, false, [65], none⟩

/-- The header of the record at take, if it is whole. -/
def wholeAt (s : State) : Option RecordHeader :=
  match (s.stream 0).atTake s.sc.buffer with
  | .whole h => some h
  | _ => none

/-- What the LINE statements ask for, with text, from cursor line 1 to lines 2 and 4. -/
def Lined (s : State) : Prop :=
  s.regs.resetBusy = false ∧ s.regs.run = true ∧ s.owner = some 0 ∧ s.Composed ∧ s.comp.state = .ready ∧
    s.comp.jobInProgress = true ∧ (s.stream 0).atTake s.sc.buffer = .whole (recordHeader lineBytes) ∧
    (recordHeader lineBytes).kind = .line ∧ carriageOf (recordHeader lineBytes).before = some (.space 1) ∧
    carriageOf (recordHeader lineBytes).after = some (.stop 1) ∧ s.loadedForm.hasStop (.space 1) = true ∧
    s.loadedForm.hasStop (.stop 1) = true ∧ s.composing = some 0 ∧
    s.loadedForm.move (s.comp.cursor.getD 1) (.space 1) = (0, 2) ∧ s.loadedForm.move 2 (.stop 1) = (0, 4)

theorem lined_iff (s : State) : Lined s ↔ (s.regs.resetBusy = false ∧ s.regs.run = true ∧ s.owner = some 0 ∧
    (s.comp.waits = false ∧ s.sc.readFailed = false ∧ s.form.noCheck = true) ∧ s.comp.state = .ready ∧
    s.comp.jobInProgress = true ∧ (s.stream 0).atTake s.sc.buffer = .whole (recordHeader lineBytes) ∧
    (recordHeader lineBytes).kind = .line ∧ carriageOf (recordHeader lineBytes).before = some (.space 1) ∧
    carriageOf (recordHeader lineBytes).after = some (.stop 1) ∧ s.loadedForm.hasStop (.space 1) = true ∧
    s.loadedForm.hasStop (.stop 1) = true ∧ s.composing = some 0 ∧
    s.loadedForm.move (s.comp.cursor.getD 1) (.space 1) = (0, 2) ∧ s.loadedForm.move 2 (.stop 1) = (0, 4)) := by
  rw [Lined, composed_iff]

/-- A LINE to a page that is open, at fill or not; sent down to line 2; full on line 2; with the pool used up. -/
def lined : State := composing 1 (page .composing) lineBytes
def linedAtFill : State := span lined 16
def linedLate : State := composing 1 { page .composing with split := 101 } lineBytes
def linedExcess : State := composing 1 { page .composing with strikes := List.replicate 4 (strike 2) } lineBytes
def linedNoEntry : State := { lined with store := { lined.store with poolUsed := 1024 } }

theorem test_line_witness : ∀ s ∈ [lined, linedAtFill, linedLate, linedExcess, linedNoEntry], Lined s := by
  simp only [lined_iff]; decide +kernel

theorem test_line_cases : (recordHeader lineBytes).textCount ≠ 0 ∧ (lined.slot 0).split ≤ (lined.slot 0).copy.top 2 ∧
    (lined.slot 0).strikesOn 2 < 4 ∧ lined.store.poolUsed < 1024 ∧
    (linedAtFill.stream 0).fill = (linedAtFill.stream 0).after 16 ∧
    (linedLate.slot 0).copy.top 2 < (linedLate.slot 0).split ∧ 4 ≤ (linedExcess.slot 0).strikesOn 2 ∧
    1024 ≤ linedNoEntry.store.poolUsed ∧ (linedNoEntry.slot 0).strikesOn 2 < 4 := by decide +kernel

/-- A LINE that skips to the top, nothing printed. -/
def turning (s : State) : State := { s with sc := { s.sc with buffer := headerOf 1 0 8 0x40 0 0 0 } }

/-- Every slot but slot 0 is CLOSED. -/
def full (s : State) : State := withSlot (withSlot (withSlot s 1 (page .closed)) 2 (page .closed)) 3 (page .closed)

theorem test_turn_witness : ∀ s ∈ [turning lined, turning (full lined)],
    s.regs.resetBusy = false ∧ s.regs.run = true ∧ s.owner = some 0 ∧ s.comp.state = .ready ∧
    s.comp.job = some ⟨5, 0, 7, true⟩ ∧ (wholeAt s).map (·.kind) = some .line ∧
    (wholeAt s).map (·.before) = some 0x40 ∧ (wholeAt s).map (·.after) = some 0 ∧
    (wholeAt s).map (·.textCount) = some 0 ∧ s.composing = some 0 ∧ (∀ k, k ≠ 0 → (s.slot k).mark = false) ∧
    (s.slot 0).state = .composing ∧ (s.slot 0).split = 0 ∧ (s.slot 0).firstClose = false ∧ 1 ≤ s.loadedForm.lines ∧
    (s.freeSlot = none ∨ s.freeSlot = some 1) := by decide +kernel

/-- A LINE of five codes, `before` and `after` its carriage bytes, to a page on a form of `lines` lines at line 1. -/
def turningLine (lines before after : Nat) (s : State) : State :=
  { s with
    sc := { s.sc with buffer := headerOf 1 1 16 before after 2 5 ++ [65, 66, 67, 68, 69, 0, 0, 0] }
    form := .loaded { form lines with headerLine := 3 } }

/-- The text lands on the page and the turn comes after it, or before it; two turns on a form of one line, one before
and one after the text; and a skip to the top before and after it. -/
def turningLines (s : State) : List (State × Nat × Nat) :=
  [(turningLine 2 1 1 s, 0, 1), (turningLine 2 2 1 s, 1, 0), (turningLine 1 1 1 s, 1, 1), (turningLine 1 0 2 s, 0, 2),
    (turningLine 2 0x40 0x40 s, 1, 1)]

theorem test_turningLines_witness : ∀ s ∈ [lined, full lined], ∀ x ∈ turningLines s,
    x.1.regs.resetBusy = false ∧ x.1.regs.run = true ∧ x.1.owner = some 0 ∧
    (x.1.comp.waits = false ∧ x.1.sc.readFailed = false ∧ x.1.form.noCheck = true) ∧ x.1.comp.state = .ready ∧
    x.1.comp.job = some ⟨5, 0, 7, true⟩ ∧ (wholeAt x.1).map (·.kind) = some .line ∧
    (wholeAt x.1).map (·.textCount) = some 5 ∧ x.1.composing = some 0 ∧ (∀ k, k ≠ 0 → (x.1.slot k).mark = false) ∧
    (x.1.slot 0).state = .composing ∧ (x.1.slot 0).split = 0 ∧ (x.1.slot 0).firstClose = false ∧
    x.1.store.poolUsed < 1024 ∧ (x.1.slot 0).strikesOn 1 < 4 ∧ (x.1.slot 0).strikes = [] ∧
    x.1.loadedForm.headerLine = 3 ∧ (match carriageOf ((wholeAt x.1).getD (recordHeader [])).before,
        carriageOf ((wholeAt x.1).getD (recordHeader [])).after with
      | some b, some a => x.1.loadedForm.hasStop b && x.1.loadedForm.hasStop a &&
        decide ((x.1.loadedForm.move (x.1.comp.cursor.getD 1) b).1 = x.2.1 ∧
          (x.1.loadedForm.move (x.1.loadedForm.move (x.1.comp.cursor.getD 1) b).2 a).1 = x.2.2)
      | _, _ => false) = true := by decide +kernel

/-- R58, R66 by hand: on a form of one line a LINE that spaces 1, prints and spaces 1 turns twice, its text on the
second page; with one slot FREE it waits after its text. -/
theorem test_turn_twice : (match exec .lineRecord (turningLine 1 1 1 lined) with
      | .next t => decide ((t.slot 0).strikes = [] ∧ (t.slot 1).strikes.length = 1 ∧ (t.slot 1).state = .closed ∧
          (t.slot 2).strikes = [] ∧ (t.slot 2).pageNo = 9 ∧ t.store.imaging = [0, 1] ∧ (t.stream 0).take = 16)
      | _ => false) = true ∧
    (match exec .lineRecord (turningLine 1 1 1 (withSlot (withSlot lined 2 (page .closed)) 3 (page .closed))) with
      | .next t => decide (t.comp.waiting = some ⟨1, 0, 9, .nothing⟩ ∧ (t.slot 1).strikes.length = 1 ∧
          t.store.imaging = [0, 1] ∧ (t.stream 0).take = 0)
      | _ => false) = true := by decide +kernel

/-- The page of `turning` on a form with a header template and two keyed strikes, the captures of two codes and a
page number of `width` codes. -/
def heading (cap width : Nat) (first : Bool) : State :=
  let s := composing 1 { page .composing with
    firstOfJob := first
    strikes := [⟨1, 1, 1, 0, false, true, [32, 65], none⟩, ⟨2, 1, 2, 0, true, false, [66, 67], none⟩,
      ⟨3, 1, 3, 1, true, false, [68], some [.blank]⟩] } (headerOf 1 0 8 0x40 0 0 0)
  { s with
    form := .loaded { form 6 with captureLen := cap, capturePos := 1, firstPos := 1, lastPos := 3, numberPos := 2
                                  numberWidth := width }
    sc := { s.sc with firstPage := 1 } }

theorem test_heading_witness : ∀ c ∈ [0, 2], ∀ w ∈ [0, 3], ∀ b, let s := heading c w b
    s.owner = some 0 ∧ s.comp.state = .ready ∧ s.composing = some 0 ∧ (s.slot 0).state = .composing ∧
    (s.slot 0).fillMade = false ∧ s.loadedForm.top s.loadedForm.headerLine < (s.slot 0).copy.length ∧
    (s.slot 0).strikes.find? (fun k => k.template && decide (k.line = s.loadedForm.headerLine)) =
      some ⟨1, 1, 1, 0, false, true, [32, 65], none⟩ ∧
    (∀ k ∈ (s.slot 0).strikes, k.seq = 1 → k = ⟨1, 1, 1, 0, false, true, [32, 65], none⟩) ∧
    s.loadedForm.captureLen = c ∧ s.loadedForm.numberWidth = w ∧ (s.slot 0).firstOfJob = b ∧
    s.sc.firstPage.getLsbD (s.slot 0).stream.val = true ∧ ((s.slot 0).strikes.filter (·.keyed)).head?.isSome ∧
    (wholeAt s).map (·.kind) = some .line ∧
    ((lined.slot 0).strikes.all fun k => !k.template || decide (k.line ≠ 1)) = true := by decide +kernel

/-- Records that fail a check, with the fault each gives: a kind of none of the five, a LINE of the wrong length, a
LINE out of a job, a carriage byte of no meaning, a stop no line carries. -/
def badRecords : List (State × FaultCode) :=
  let at_ (b : List Byte) : State := composing 1 { page .composing with strikes := [strike 1] } b
  [(at_ (headerOf 0 0 8 0 0 0 0), .badRecord), (at_ (headerOf 1 0 12 0 0 0 0), .badRecord),
    (owned (headerOf 1 0 8 0 0 0 0), .noJob), (at_ (headerOf 1 0 8 4 0 0 0), .badCarriage),
    (at_ (headerOf 1 0 8 0 0x48 0 0), .missingStop)]

theorem test_badRecord_witness : ∀ b ∈ badRecords,
    b.1.regs.resetBusy = false ∧ b.1.regs.run = true ∧ b.1.owner = some 0 ∧ b.1.comp.state = .ready ∧
    (0 : Fin 8) ∉ b.1.sc.queue ∧
    (b.2 = .badRecord → (b.1.stream 0).atTake b.1.sc.buffer = .bad .unknown ∨
      (b.1.stream 0).atTake b.1.sc.buffer = .bad .line) ∧
    (b.2 ≠ .badRecord → (wholeAt b.1).map (·.kind) = some .line) ∧
    (b.2 = .noJob → b.1.comp.jobInProgress = false) ∧
    (b.2 = .badCarriage → b.1.comp.jobInProgress = true ∧ carriageOf 4 = none) ∧
    (b.2 = .missingStop → carriageOf 0x48 = some (.stop 8) ∧ b.1.loadedForm.hasStop (.stop 8) = false) := by
  decide +kernel

/-- A record whose length reaches past the ring end, and one whose first 8 bytes end there. -/
theorem test_ringEnd_witness : ∀ o ∈ [(1020 - 8, 16), (1024 - 8, 8)],
    let r := { ring .active with take := o.1, release := o.1 }
    let b := headerOf 2 0 16 0 0 0 0
    8 ≤ b.length ∧ 8 ≤ r.span ∧ r.take + 8 ≤ r.ringSize ∧ r.ringSize < r.take + (recordHeader b).length ∧
      r.atTake b = .bad .job := by decide +kernel

/-- A JOB record of the wrong length with no JOB taken: its header alone read, and 16 bytes of it. -/
def badJob (more : List Byte) : State := owned (headerOf 2 0 20 0 0 0 0 ++ more)

/-- A fault and an END on a page without a strike whose cursor has moved past line 1. -/
def badTouched : State := composing 2 (page .composing) (headerOf 1 0 12 0 0 0 0)
def endedTouched : State := composing 2 (page .composing) (headerOf 3 0 12 0 0 0 0 ++ leBytes 4 9)

theorem test_touched_witness : ∀ s ∈ [badTouched, endedTouched], s.regs.resetBusy = false ∧ s.regs.run = true ∧
    s.owner = some 0 ∧ s.comp.state = .ready ∧ s.composing = some 0 ∧ s.comp.job = some ⟨5, 0, 7, true⟩ ∧
    (s.slot 0).strikes = [] ∧ 1 < s.comp.cursor.getD 1 ∧ (s.slot 0).state = .composing ∧ (s.slot 0).split = 0 ∧
    (s.slot 0).firstClose = false ∧ (s.slot 0).stream = 0 := by decide +kernel

/-- A fault on an untouched page, the only page of the stream, with its job's report owed. -/
def badUntouched : State :=
  (composing 1 (page .composing) (headerOf 1 0 12 0 0 0 0)).modStream 0 fun r => { r with
    reports := [⟨5, .noneYet, false, 0⟩] }

theorem test_badReports_witness : (∀ more ∈ [[], [1, 0, 0, 0, 9, 0, 0, 0]], (badJob more).owner = some 0 ∧
      (badJob more).regs.run = true ∧ (badJob more).comp.state = .ready ∧ (badJob more).comp.job = none ∧
      ((badJob more).stream 0).atTake (badJob more).sc.buffer = .bad .job ∧ ((badJob more).stream 0).reports = [] ∧
      (badJob more).writer.reporting 0 = false ∧ (badJob more).sc.buffer ≠ []) ∧
    16 ≤ (badJob [1, 0, 0, 0, 9, 0, 0, 0]).sc.buffer.length ∧ 16 ≤ ((badJob []).stream 0).span ∧
    16 ≤ ((badJob []).stream 0).ringSize - ((badJob []).stream 0).take ∧
    (owned (headerOf 1 0 8 0 0 0 0)).comp.job = none ∧
    recordKind (byteAt (owned (headerOf 1 0 8 0 0 0 0)).sc.buffer 0) ≠ .job ∧
    (badUntouched.stream 0).atTake badUntouched.sc.buffer = .bad .line ∧ badUntouched.composing = some 0 ∧
    badUntouched.comp.job = some ⟨5, 0, 7, true⟩ ∧ (badUntouched.slot 0).strikes = [] ∧
    badUntouched.comp.cursor = some 1 ∧ (badUntouched.slot 0).stream = 0 ∧
    badUntouched.newestSlot 0 (some 0) = none ∧ (badUntouched.stream 0).reports = [⟨5, .noneYet, false, 0⟩] ∧
    badUntouched.writer.reporting 0 = false := by decide +kernel

/-- A JOB of form `k`, first page number 0xFFFFFF, tag 9; one form stands in the header's count. -/
def jobAt (k : Nat) : State := owned (headerOf 2 0 16 0 0 0 0 ++ leBytes 1 k ++ [255, 255, 255] ++ leBytes 4 9)

theorem test_job_witness : ∀ k ∈ [0, 1], (jobAt k).regs.resetBusy = false ∧ (jobAt k).regs.run = true ∧
    (jobAt k).owner = some 0 ∧ (jobAt k).comp.state = .ready ∧ (jobAt k).sc.readFailed = false ∧
    (jobAt k).comp.jobInProgress = false ∧ (wholeAt (jobAt k)).map (·.kind) = some .job ∧
    byteAt (jobAt k).sc.buffer 8 = k ∧ (jobAt k).sc.formCount = 1 ∧ ((jobAt k).stream 0).reports = [] ∧
    (jobAt k).writer.reporting 0 = false ∧ (0 : Fin 8) ∉ (jobAt k).sc.queue ∧
    (((jobAt k).modStream 0 fun r => { r with reports := [⟨4, .done, false, 2⟩] }).stream 0).reports =
      ⟨4, .done, false, 2⟩ :: [] := by decide +kernel

/-- An END of tag 9. -/
def endBytes : List Byte := headerOf 3 0 12 0 0 0 0 ++ leBytes 4 9

/-- An END with a strike on the page and stream 1 waiting; with an untouched page; with take at fill. -/
def ended : State :=
  let s := withRec (composing 2 { page .composing with strikes := [strike 2] } endBytes) 1 (ring .queued)
  { s with sc := { s.sc with queue := [1] } }
def endedUnused : State := composing 1 (page .composing) endBytes
def endedAtFill : State := span endedUnused 12

theorem test_end_witness : (∀ s ∈ [ended, endedUnused, endedAtFill],
      s.regs.resetBusy = false ∧ s.regs.run = true ∧ s.owner = some 0 ∧ s.comp.state = .ready ∧ s.OneActive ∧
      s.form.noCheck = true ∧ s.comp.job = some ⟨5, 0, 7, true⟩ ∧ (wholeAt s).map (·.kind) = some .endJob ∧
      s.composing = some 0 ∧ (s.slot 0).stream = 0 ∧ (s.slot 0).state = .composing ∧ (s.slot 0).split = 0 ∧
      (s.slot 0).firstClose = false ∧ s.newestSlot 0 (some 0) = none) ∧
    (ended.slot 0).strikes ≠ [] ∧ (endedUnused.slot 0).strikes = [] ∧ endedUnused.comp.cursor = some 1 ∧
    (endedAtFill.stream 0).fill = (endedAtFill.stream 0).after 12 ∧ (0 : Fin 8) ∉ endedAtFill.sc.queue ∧
    ended.sc.queue = 1 :: [] ∧ (ended.stream 0).fill ≠ (ended.stream 0).after 12 ∧ (ended.stream 0).rush = false := by
  unfold State.OneActive; decide +kernel

theorem test_endRegrant_witness : endedUnused.sc.queue = [] ∧ (endedUnused.stream 0).rush = false ∧
    (endedUnused.stream 0).fill ≠ (endedUnused.stream 0).after 12 := by decide +kernel

/-- The untouched page's job has its report owed. -/
def endedReporting : State := endedUnused.modStream 0 fun r => { r with reports := [⟨5, .noneYet, false, 0⟩] }

theorem test_endReport_witness : (endedReporting.stream 0).reports = [⟨5, .noneYet, false, 0⟩] ∧
    endedReporting.writer.reporting 0 = false ∧ endedReporting.OneActive ∧ endedReporting.composing = some 0 ∧
    (endedReporting.slot 0).strikes = [] ∧ endedReporting.comp.cursor = some 1 ∧
    endedReporting.newestSlot 0 (some 0) = none := by unfold State.OneActive; decide +kernel

/-- An END with a struck page flushed before: its rows are sent down to row 101, or some still wait in its entry. An END
with an untouched page, a mark and a job's end handed to the older page in slot 2, which is SENT or CLOSED. -/
def endedFlushed (st : SlotState) : State :=
  let s := composing 3 { page st with
    strikes := [strike 1, strike 2], split := 101, firstClose := true
    entry := if st = .composing then none else some ⟨64, 101⟩ } endBytes
  { s with store := { s.store with imaging := [0] } }
def endedOlder (st : SlotState) (mark : Bool) : State :=
  let s := withSlot (composing 1 { page .composing with markTag := if mark then some 7#32 else none } endBytes) 2 { page st with markTag := some 3#32 }
  { s with store := { s.store with imaging := [2] } }

theorem test_endFlushed_witness : ∀ st ∈ [SlotState.composing, .imaging, .closed],
    (endedFlushed st).regs.resetBusy = false ∧ (endedFlushed st).owner = some 0 ∧ (endedFlushed st).OneActive ∧
    (endedFlushed st).composing = some 0 ∧ (wholeAt (endedFlushed st)).map (·.kind) = some .endJob ∧
    ((endedFlushed st).slot 0).strikes.length = 2 ∧ ((endedFlushed st).slot 0).state = st ∧
    ((endedFlushed st).slot 0).firstClose = true ∧ ((endedFlushed st).slot 0).split = 101 ∧
    ((endedFlushed st).slot 0).entry.isSome = decide (st ≠ .composing) := by unfold State.OneActive; decide +kernel

theorem test_endOlder_witness : ∀ st ∈ [SlotState.sent, .closed], ∀ m,
    (endedOlder st m).owner = some 0 ∧ (endedOlder st m).composing = some 0 ∧
    (wholeAt (endedOlder st m)).map (·.kind) = some .endJob ∧ ((endedOlder st m).slot 0).strikes = [] ∧
    (endedOlder st m).comp.cursor = some 1 ∧ (endedOlder st m).newestSlot 0 (some 0) = some 2 ∧
    ((endedOlder st m).slot 0).markTag.isSome = m := by decide +kernel

/-- An END of a rushed stream, with streams `rushed` and then `plain` of the Job Queue waiting. -/
def endedRush (rushed plain : List (Fin 8)) : State :=
  let s := rushed.foldl (fun s m => withRec s m { ring .queued with rush := true }) (ended.modStream 0 fun r => { r with rush := true })
  let s := plain.foldl (fun s m => withRec s m (ring .queued)) s
  { s with sc := { s.sc with queue := rushed ++ plain } }

theorem test_endRush_witness : (∀ p ∈ [[], [1], [1, 2]], (endedRush [] p).owner = some 0 ∧ (endedRush [] p).OneActive ∧
      ((endedRush [] p).stream 0).rush = true ∧ (∀ m ∈ (endedRush [] p).sc.queue, ((endedRush [] p).stream m).rush = false) ∧
      ((endedRush [] p).stream 0).fill ≠ ((endedRush [] p).stream 0).after 12 ∧
      (wholeAt (endedRush [] p)).map (·.kind) = some .endJob ∧ (endedRush [] p).composing = some 0) ∧
    (∀ r ∈ [[4], [4, 5]], ∀ p ∈ [[], [1]], (endedRush r p).owner = some 0 ∧ (endedRush r p).OneActive ∧
      ((endedRush r p).stream 0).rush = true ∧ (endedRush r p).sc.queue = (4 : Fin 8) :: r.tail ++ p ∧
      (∀ m ∈ r.getLast?, ((endedRush r p).stream m).rush = true) ∧
      (∀ m ∈ p, ((endedRush r p).stream m).rush = false) ∧
      ((endedRush r p).stream 0).fill ≠ ((endedRush r p).stream 0).after 12) := by
  simp only [State.OneActive]; decide +kernel

/-- A MARK of tag 9; a WRAP in a job, and a WRAP out of a job that brings take to fill. -/
def marked : State := composing 2 (page .composing) (headerOf 4 0 12 0 0 0 0 ++ leBytes 4 9)
def wrapped : State := composing 2 (page .composing) (headerOf 5 0 8 0 0 0 0)
def wrappedAtFill : State :=
  (owned (headerOf 5 0 8 0 0 0 0)).modStream 0 fun r => { r with take := 1000, release := 1000, fill := 0 }

theorem test_markWrap_witness : (∀ s ∈ [marked, wrapped, wrappedAtFill],
      s.regs.resetBusy = false ∧ s.regs.run = true ∧ s.owner = some 0 ∧ s.Composed ∧ s.comp.state = .ready) ∧
    (wholeAt marked).map (·.kind) = some .mark ∧ marked.comp.jobInProgress = true ∧ marked.composing = some 0 ∧
    (wholeAt wrapped).map (·.kind) = some .wrap ∧ wrapped.composing = some 0 ∧ (wrapped.stream 0).fill ≠ 0 ∧
    (wholeAt wrappedAtFill).map (·.kind) = some .wrap ∧ (wrappedAtFill.stream 0).fill = 0 ∧
    wrappedAtFill.composing = none ∧ wrappedAtFill.OneActive ∧ (0 : Fin 8) ∉ wrappedAtFill.sc.queue := by
  simp only [composed_iff, State.OneActive]; decide +kernel

/-- Stream 7 discards, and holds `bytes` of the record at take, `k` bytes before fill. -/
def discarding (st : StreamState) (bytes : List Byte) (k : Nat) : State :=
  let s := withRec (owned []) 7 { ring st with discard := true, discardReports := true, fill := k }
  { s with sc := { s.sc with held := some ⟨7, bytes⟩ } }

/-- The discards: a JOB, an END, an END at fill, a WRAP, and a LINE of 168 bytes of which 16 are held. -/
def discards : List State :=
  [discarding .queued (headerOf 2 0 16 0 0 0 0 ++ leBytes 4 0 ++ leBytes 4 9) 64, discarding .queued endBytes 64,
    discarding .idle endBytes 12, discarding .queued (headerOf 5 0 8 0 0 0 0) 64,
    discarding .queued (headerOf 1 0 168 0 0 0 160 ++ List.replicate 8 0) 168]

theorem test_discard_witness : ∀ s ∈ discards, ∃ h ∈ s.sc.held.toList, s.regs.resetBusy = false ∧ s.regs.run = true ∧
    (s.comp.waits = false ∧ s.sc.readFailed = false ∧ s.form.noCheck = true) ∧ s.owner ≠ none ∧ h.stream = 7 ∧
    (s.stream 7).discard = true ∧ ((s.stream 7).state = .idle ∨ (s.stream 7).state = .queued) ∧
    (s.stream 7).atTake (h.bytes ++ List.replicate (recordHeader h.bytes).length 0) = .whole (recordHeader h.bytes) ∧
    (recordHeader h.bytes).skipBytes ≤ h.bytes.length ∧ (s.stream 7).rush = false ∧ (s.stream 7).reports = [] ∧
    s.writer.waiting = [] ∧ s.writer.issued = none ∧ (s.stream 7).discardReports = true := by decide +kernel

/-- Discarded records that fail: a kind of none of the five, a LINE of the wrong length, and a header across the ring
end; and the END of a discard that makes no report. -/
def badDiscards : List State :=
  [discarding .queued (headerOf 0 0 8 0 0 0 0) 64, discarding .idle (headerOf 1 0 12 0 0 0 0) 64,
    (discarding .queued [1, 0, 8, 0] 64).modStream 7 fun r => { r with take := 1020, release := 1020 }]
def quietDiscard : State := (discarding .queued endBytes 64).modStream 7 fun r => { r with discardReports := false }

theorem test_badDiscard_witness : (∀ s ∈ badDiscards, ∃ h ∈ s.sc.held.toList, s.regs.resetBusy = false ∧
      s.regs.run = true ∧ (s.comp.waits = false ∧ s.sc.readFailed = false ∧ s.form.noCheck = true) ∧ s.owner ≠ none ∧
      h.stream = 7 ∧ (s.stream 7).discard = true ∧ ((s.stream 7).state = .idle ∨ (s.stream 7).state = .queued) ∧
      min 8 ((s.stream 7).ringSize - (s.stream 7).take) ≤ h.bytes.length ∧
      (s.stream 7).atTake (h.bytes ++ List.replicate (recordHeader h.bytes).length 0) =
        .bad (recordHeader h.bytes).kind ∧ (s.stream 7).reports = []) ∧
    quietDiscard.sc.held = some ⟨7, endBytes⟩ ∧ (quietDiscard.stream 7).discardReports = false ∧
    (quietDiscard.stream 7).reports = [] ∧
    (quietDiscard.stream 7).atTake (endBytes ++ List.replicate 12 0) = .whole (recordHeader endBytes) := by decide +kernel

/-- A discard asks for its next read. -/
theorem test_discardRead_witness : ∀ st ∈ [StreamState.idle, .queued],
    let s := discarding st [] 8
    let t := { s with sc := { s.sc with held := none } }
    (t.stream 7).state = st ∧ (t.stream 7).discard = true ∧ t.regs.run = true ∧ (t.stream 7).discardStalled = false ∧
      t.sc.held = none ∧ 8 ≤ (t.stream 7).span := by decide +kernel

/-- The discard of a rushed stream at its END, streams 1 (rushed) and 2 queued; and that of `s` with no stream ACTIVE.
-/
def discardRush : State :=
  let s := discarding .queued endBytes 64
  let s := withRec (withRec (s.modStream 7 fun r => { r with rush := true }) 1 { ring .queued with rush := true }) 2 (ring .queued)
  { s with sc := { s.sc with queue := [1, 2] } }
def ownerless (s : State) : State := { withRec s 0 (ring .idle) with comp := .initial }

theorem test_discardRush_witness : (∀ s ∈ discardRush :: discards.map ownerless, s.regs.resetBusy = false ∧
      s.regs.run = true ∧ (s.comp.waits = false ∧ s.sc.readFailed = false ∧ s.form.noCheck = true) ∧
      (s.owner ≠ none ∨ s.sc.queue = []) ∧ (s.stream 7).discard = true ∧ s.sc.held.isSome) ∧
    (∀ s ∈ discards.map ownerless, s.owner = none ∧ s.sc.queue = []) ∧ discardRush.owner ≠ none ∧
    (discardRush.stream 7).rush = true ∧ discardRush.sc.queue = [1] ++ [2] ∧
    (∀ m ∈ [(1 : Fin 8)].getLast?, (discardRush.stream m).rush = true) ∧
    (∀ m ∈ [(2 : Fin 8)], (discardRush.stream m).rush = false) ∧
    (discardRush.stream 7).fill ≠ (discardRush.stream 7).after 12 := by decide +kernel

/-- Stream 0 loads a form; a transfer of the load stands on the bus. -/
def loading (l : Load) (k : TransferKind) (len : Nat) : State :=
  let s := bus (owned []) .formLoader k len []
  { s with form := .loading l, comp := { s.comp with state := .loadingForm, job := some ⟨5, 0, 0xFFFFFF, false⟩ } }

/-- The 128 bytes of a form record: 600 rows, 6 lines, L 3, 4 positions of 12, U 16, header line 1. -/
def formBytes : List Byte :=
  [1, 6] ++ leBytes 2 600 ++ leBytes 2 0 ++ leBytes 2 0 ++ [3, 4, 12, 16, 1, 2, 3, 1] ++ leBytes 4 0x4000 ++
    leBytes 4 0x5000 ++ [0, 0, 0, 0, 0, 0, 0, 32] ++ List.replicate 96 0

/-- The record's second half is read; with a directory in force, or none. -/
def checking (bytes : List Byte) (d : Option Directory) : State :=
  let s := loading ⟨0, .recordHigh, bytes.take 64, [], []⟩ .formRecord 64
  { s with cache := { s.cache with inForce := d } }

theorem test_formLoad_witness :
    (loading ⟨0, .recordLow, [], [], []⟩ .formRecord 64).OnBus .formRecord 64 ∧
    (∀ d, (checking formBytes d).OnBus .formRecord 64) ∧ (checking formBytes none).cache.aside = none ∧
    (loading ⟨0, .recordLow, [], [], []⟩ .formRecord 64).comp.waits = false ∧
    formAccepted 1 (formBytes.take 64 ++ formBytes.drop 64) = true ∧
    formAccepted 1 (List.replicate 128 0) = false ∧ (checking formBytes none).owner = some 0 ∧
    (0 : Fin 8) ∉ (checking formBytes none).sc.queue ∧
    (loading ⟨0, .vft, formBytes, [], []⟩ .vft 8).OnBus .vft 8 ∧
    (loading ⟨0, .translate, formBytes, [], []⟩ .translate 64).OnBus .translate 64 := by
  refine ⟨(onBus_iff _ _ _).2 (by decide +kernel), fun d => (onBus_iff _ _ _).2 ⟨rfl, _, List.mem_singleton.2 rfl, rfl, rfl, rfl, rfl⟩, ?_⟩
  simp only [onBus_iff]; decide +kernel

/-- The check waits: the one directory read stands set aside behind a flush, or behind a band in hand. -/
def checkWaits (b : Bool) : State :=
  let s := setAside (checking formBytes none) (if b then .reading else .none)
  if b then s else { s with builder := { s.builder with state := .building } }

/-- A form check waits behind a flush whose directory is read. -/
def checkBehindFlush : State :=
  let s := bus (owned []) .glyphFiller .flushDirectory 64 []
  { s with
    cache := { s.cache with flush := .reading, aside := some ⟨1, [face]⟩ }
    form := .loading ⟨0, .check, formBytes, [], []⟩
    comp := { s.comp with state := .loadingForm, job := some ⟨5, 0, 1, false⟩ } }

theorem test_checkWaits_witness : (∀ b : Bool, (checkWaits b).OnBus .formRecord 64 ∧
      (checkWaits b).cache.inForce = none ∧ (checkWaits b).cache.aside ≠ none ∧ (checkWaits b).comp.waits = false ∧
      ((checkWaits b).cache.flush = .reading ∨ (checkWaits b).atBoundary = false) ∧ (checkWaits b).refusalWaits = false) ∧
    checkBehindFlush.OnBus .flushDirectory 64 ∧ checkBehindFlush.cache.fill = none ∧
    checkBehindFlush.refusalWaits = false ∧ checkBehindFlush.comp.waits = false ∧
    formAccepted ((directoryOf checkBehindFlush.sc.fontCount (List.replicate 64 0)).font 0).count formBytes = true := by
  simp only [onBus_iff]; decide +kernel

/-- R76, step 4, by hand: with no directory in force and one set aside the check waits. -/
theorem test_check_waits : (∀ s ∈ [checkWaits true, checkWaits false],
    (match exec (.formTransfer (formBytes.drop 64)) s with
      | .next t => decide (t.form = .loading ⟨0, .check, formBytes, [], []⟩)
      | _ => false) = true) := by decide +kernel

/-- The first directory read stands on the bus while a form check waits for it; `bytes` is the form's record. -/
def checkBehindScan (bytes : List Byte) : State :=
  let s := directory (owned []) .scanning
  { s with
    form := .loading ⟨0, .check, bytes, [], []⟩
    comp := { s.comp with state := .loadingForm, job := some ⟨5, 0, 1, false⟩ } }

/-- R140 by hand: before the first directory read has completed a good record is refused with BAD_FORM, and the stream
faults at its JOB; or, by R76, the check waits. Which of the two is the free value of log 23. -/
theorem test_check_unread : let s := checkBehindScan formBytes
    (s.checkForm = if Config.refusesUnread then s.endLoad .badForm else s) ∧ (s.endLoad .badForm).form = .empty ∧
      ((s.endLoad .badForm).stream 0).state = .faulted ∧ ((s.endLoad .badForm).stream 0).fault = .badForm ∧
      ((s.endLoad .badForm).stream 0).take = (s.stream 0).take :=
  ⟨checkForm_unread rfl rfl rfl rfl, by decide +kernel⟩

theorem test_checkBehindScan_witness : ∀ b ∈ [formBytes, List.replicate 128 0],
    (checkBehindScan b).OnBus .fontDirectory 64 ∧ (checkBehindScan b).refusalWaits = false ∧
    (checkBehindScan b).comp.waits = false ∧ (checkBehindScan b).sc.readFailed = false ∧
    (checkBehindScan b).atBoundary = true ∧ (checkBehindScan b).cache.flush = .none ∧
    (checkBehindScan b).owner = some 0 ∧ (0 : Fin 8) ∉ (checkBehindScan b).sc.queue ∧
    formAccepted ((directoryOf 1 (List.replicate 64 0)).font 0).count b = decide (b = formBytes) := by
  simp only [onBus_iff]; decide +kernel

/-- The same behind a flush, with a record that fails the check. -/
theorem test_checkRefused_witness :
    let s := { checkBehindFlush with form := .loading ⟨0, .check, List.replicate 128 0, [], []⟩ }
    s.OnBus .flushDirectory 64 ∧ s.cache.fill = none ∧ s.refusalWaits = false ∧ s.comp.waits = false ∧
    s.sc.readFailed = false ∧ s.owner = some 0 ∧ (0 : Fin 8) ∉ s.sc.queue ∧
    formAccepted ((directoryOf s.sc.fontCount (List.replicate 64 0)).font 0).count (List.replicate 128 0) = false := by
  simp only [onBus_iff]; decide +kernel

/-- R76 by hand: the check that waited is made against the directory put in force, by a scan or a flush. -/
theorem test_check_goesOn : ((match exec (.fontDirectoryRead (List.replicate 64 0)) (checkBehindScan formBytes) with
      | .next t => decide (t.form = .loading ⟨0, .vft, formBytes, [], []⟩)
      | _ => false) &&
    (match exec (.fontDirectoryRead (List.replicate 64 0)) (checkBehindScan (List.replicate 128 0)) with
      | .next t => decide (t.form = .empty ∧ (t.stream 0).fault = .badForm ∧ (t.stream 0).take = 0)
      | _ => false) &&
    match exec (.flushDirectoryRead (List.replicate 64 0)) checkBehindFlush with
      | .next t => decide (t.form = .loading ⟨0, .vft, formBytes, [], []⟩)
      | _ => false) = true := by decide +kernel

/-- The last bytes of the translate table are read, with a slot FREE or with none. -/
def accepting : State := loading ⟨0, .translate, formBytes, List.replicate 8 0, List.replicate 448 0⟩ .translate 64
def acceptingFull : State := withSlot (full accepting) 0 (page .closed)

theorem test_formAccepted_witness : ∀ s ∈ [accepting, acceptingFull], s.OnBus .translate 64 ∧
    s.owner = some 0 ∧ s.comp.state = .loadingForm ∧ s.comp.job = some ⟨5, 0, 0xFFFFFF, false⟩ ∧
    s.sc.readFailed = false ∧ (∀ k, (s.slot k).mark = false) ∧
    512 ≤ (List.replicate 448 (0 : Byte) ++ List.replicate 64 0).length ∧
    (s.freeSlot = some 0 ∨ s.freeSlot = none) := by
  simp only [onBus_iff]; decide +kernel

/-- The flush timer runs over slot 0. -/
def flushing (sl : Slot) : State :=
  let s := composing 3 sl []
  { s with comp := { s.comp with state := .atFill, flush := .running 5 } }

/-- An unsent strike on a composing page, on a page whose first rows are sent, on one that is imaging; none unsent. -/
def flushes : List State :=
  [flushing { page .composing with strikes := [strike 2] },
    flushing { page .composing with strikes := [strike 2], split := 100 },
    flushing { page .imaging with strikes := [strike 6], entry := some ⟨64, 100⟩, split := 100 },
    flushing { page .composing with strikes := [strike 1], split := 100 }]

/-- The second flush of a page: its first close has been made, and a strike is unsent on the last line, or above it. -/
def secondFlushes : List State := [2, 6].map fun l =>
  flushing { page .composing with strikes := [strike 1, strike l], split := 100, firstClose := true }

theorem test_secondFlush_witness : ∀ s ∈ secondFlushes, s.regs.resetBusy = false ∧ s.comp.flush = .running 5 ∧
    s.owner = some 0 ∧ (s.comp.waits = false ∧ s.sc.readFailed = false ∧ s.form.noCheck = true) ∧
    s.composing = some 0 ∧ (s.slot 0).firstClose = true ∧ (s.slot 0).state = .composing ∧
    (∃ k ∈ (s.slot 0).strikes, (s.slot 0).split ≤ (s.slot 0).copy.top k.line) ∧
    (∃ m ∈ [2, 6], (∃ k ∈ (s.slot 0).strikes, k.line = m) ∧ ∀ k ∈ (s.slot 0).strikes, k.line ≤ m) := by decide +kernel

theorem test_flush_witness : ∀ s ∈ flushes, s.regs.resetBusy = false ∧ s.comp.flush = .running 5 ∧ s.owner = some 0 ∧
    (s.comp.waits = false ∧ s.sc.readFailed = false ∧ s.form.noCheck = true) ∧ s.composing = some 0 ∧
    (s.slot 0).firstClose = false := by decide +kernel

theorem test_flush_cases : (∀ s ∈ flushes.take 3, ∃ k ∈ (s.slot 0).strikes, (s.slot 0).split ≤ (s.slot 0).copy.top k.line) ∧
    (∀ s ∈ flushes.drop 3, ∀ k ∈ (s.slot 0).strikes, (s.slot 0).copy.top k.line < (s.slot 0).split) := by decide +kernel

/-! ## Transfers that end -/

/-- A SLEW of the most rows of a form's length field, and a BAND of the most rows. -/
theorem test_payload_witness :
    let k : Strobe := ⟨63, 63, 63, 63⟩
    let slew : Message := ⟨none, 0, 8191, .slew, ⟨true, true, true⟩, none⟩
    let band : Message := ⟨some 0, 64, 64, .band [(64 * 4096 + 4095, 3)], ⟨true, false, true⟩, some k⟩
    slew.count < 8192 ∧ slew.strobe = none ∧ band.count < 128 ∧ band.strobe = some k ∧ k.e1 < 64 ∧ k.e2 < 64 ∧
      k.e3 < 64 ∧ k.period < 64 ∧ densityAt band.body.dots 64 4095 = 3 ∧
      (TxBody.slew 0xFFFF 255 slew).payload = [0x00FFFFFF, 0x07000000, 8191] ∧
      (TxBody.band 0xFFFF 255 band).payload.take 2 = [0x40FFFFFF, 0x05FFFFFF] ∧
      (TxBody.band 0xFFFF 255 band).payload[2 + 255]? = some 0xC0000000 := by decide +kernel

/-- R154, chapter 11.1 by hand: a request field write and the codes of an OFFLINE part's device record. -/
theorem test_requestField_bytes : ((part true).writeOf (.requestField 7)).addr = 0x1000 + 64 + 448 + 12 ∧
    ((part true).writeOf (.requestField 7)).data = [0, 0] := by decide +kernel

/-- The request field write of stream 1 stands on the bus; 3 streams. -/
def clearing1 : State :=
  let s := bus (withPhase (withRec (part true) 1 (ring .queued)) (.acting 1 ⟨8, .close, 60⟩)) .statusWriter (.requestField 1) 2 [0, 0]
  { s with sc := { s.sc with streamCount := 3 }, writer := { s.writer with issued := some ⟨.requestField 1, false, false, false⟩ } }

/-- A half of the device record stands on the bus. -/
def recording (second byFailure : Bool) : State :=
  let s := bus (eng (owned []) .idle) .statusWriter (if second then .deviceRecordHigh else .deviceRecord) 64 (List.replicate 64 0)
  { s with writer := ⟨[], some ⟨.deviceRecord, false, false, false⟩, second, false, byFailure⟩ }

theorem test_writes_witness :
    (writing 0 true true).WritingOnBus (.descriptorWrite 0) ∧ (writing 0 true true).Composed ∧
    (writing 0 true true).writer.issued = some ⟨.descriptor 0, true, false, true⟩ ∧
    (writing 0 true true).MemoryCanonical ∧ clearing1.WritingOnBus (.requestField 1) ∧ clearing1.Composed ∧
    clearing1.sc.phase = .acting 1 ⟨8, .close, 60⟩ ∧ (clearing1.stream 1).badFill 8 = false ∧
    (1 : Fin 8).val + 1 < clearing1.sc.streamCount ∧ clearing1.sc.cut = false ∧
    (∀ h f, ((recording h f).WritingOnBus .deviceRecord ∨ (recording h f).WritingOnBus .deviceRecordHigh) ∧
      (recording h f).Composed ∧ (recording h f).writer.secondHalf = h ∧ (recording h f).owner ≠ none) := by
  simp only [writing_iff, composed_iff, State.MemoryCanonical]; decide +kernel

/-- The loader's and the filler's requests are pending, the pointer at the reader; `m` tells whether paper moves. -/
def asking (m : Bool) : State :=
  let s := filling (eng (part true) .feeding) true
  { s with
    mtu := { s.mtu with loader := .pending (readOf .vft 0 4), filler := .pending (readOf .subBlock 0 4) }
    engine := { s.engine with cond := { s.engine.cond with inMotion := m }, bandRoom := 2 } }

theorem test_arbitration_witness : (∀ m, (asking m).mtu.inFlight = none ∧
      (asking m).mtu.place .formLoader = .pending (readOf .vft 0 4) ∧
      (asking m).mtu.filler = .pending (readOf .subBlock 0 4) ∧ (asking m).engine.state = .feeding ∧
      (asking m).engine.cond.inMotion = m ∧ (asking m).engine.bandRoom = 2 ∧ ((asking m).cache.fill.map (·.wanted)) = some true) ∧
    ((asking false).mtu.pointer.round.takeWhile (· ≠ .formLoader)) = [.streamReader] ∧
    (asking false).mtu.place .streamReader = .empty ∧ (writing 0 true true).mtu.inFlight ≠ none := by decide +kernel

/-- A read of kind `k` of the ACTIVE stream 0 on the bus. -/
def failing (k : TransferKind) : State :=
  let s := owned []
  let s := if k = .subBlock then filling s true else s
  let s := if k.isForm then { s with form := .loading ⟨0, .recordLow, [], [], []⟩, comp := { s.comp with state := .loadingForm } } else s
  bus s .streamReader k 64 []

/-- Every kind of read whose failure a clause of its own names. -/
def failingKinds : List TransferKind :=
  [.areaHeader, .descriptor 7, .openRead 0, .ring 0, .discardRing 7, .fontDirectory, .formRecord, .vft, .translate,
    .subBlock, .flushDirectory]

theorem test_failure_witness : (∀ k ∈ failingKinds, (failing k).regs.resetBusy = false ∧ (failing k).mtu.inFlight ≠ none ∧
      (failing k).mtu.limit ≠ none ∧ (failing k).comp.waits = false ∧ (failing k).form.noCheck = true ∧
      (failing k).owner = some 0 ∧ (0 : Fin 8) ∉ (failing k).sc.queue ∧ (failing k).sc.readFailed = false) ∧
    (failing .areaHeader).sc.scan ≠ .scanningOwed ∧ (failing (.ring 0)).comp.state = .ready ∧
    (failing (.ring 0)).regs.run = true ∧ (failing (.ring 0)).sc.buffer = [] ∧ 8 ≤ ((failing (.ring 0)).stream 0).span ∧
    8 ≤ ((failing (.ring 0)).stream 0).ringSize - ((failing (.ring 0)).stream 0).take ∧
    (failing .subBlock).cache.fill ≠ none ∧ (writing 0 true true).comp.waits = false ∧
    (writing 0 true true).form.noCheck = true ∧ (writing 0 true true).mtu.limit ≠ none ∧
    (∀ h f, (recording h f).writer.failureIssued = f ∧ (recording h f).mtu.inFlight.map (·.request.kind) =
        some (if h then .deviceRecordHigh else .deviceRecord) ∧ (recording h f).mtu.inFlight.map (·.wanted) = some true ∧
      (recording h f).comp.waits = false ∧ (recording h f).form.noCheck = true ∧ (recording h f).hostMem.wf = true ∧
      (recording h f).writer.waiting = [] ∧ (recording h f).boundaryCounts = (recording h f).counts.shown ∧
      (recording h f).refusalWaits = false ∧ (recording h f).gate = (recording h f).engine.state ∧
      (recording h f).engine.holdOwed = .none ∧ (recording h f).sc.readFailed = false) ∧
    (resetting (recording true true)).regs.resetBusy = true ∧ (resetting (recording true true)).mtu.limit ≠ none := by
  decide +kernel

/-- R157: the second half of a device record write fails at its limit, the next transfer goes on the bus in the same
step, and the late BUS_ERROR of the first leaves it there. -/
theorem test_late_answer : (match exec .limitTimerExpiry (recording true false) with
    | .next t => match exec (.busError true) t with
      | .next u => decide (t.mtu.inFlight.isSome = true ∧ u.mtu = t.mtu ∧ u.counts.memFaults = 1)
      | _ => false
    | _ => false) = true := by decide +kernel

/-! ## Imaging -/

/-- Slot 0 is `sl`, head of imaging, and the engine is feeding its stock. -/
def imaging (sl : Slot) : State :=
  let s := withSlot (eng (part true) .feeding) 0 sl
  { s with
    engine := { s.engine with mountedStock := 1, mountedLength := 600, bandRoom := 2 }
    store := { s.store with imaging := [0], poolUsed := sl.strikes.length }
    cache := { s.cache with inForce := some ⟨1, [⟨0x6001, 2, 8, 8⟩]⟩ } }

/-- A closed page with nothing on it, and one with glyph 1 of typeface 0 on line 1. -/
def blankPage : Slot :=
  { page .closed with entry := some ⟨0, 600⟩, copy := { (page .closed).copy with rules := List.replicate 4 ⟨0, 1, 6⟩ } }
def inkedPage : Slot := { blankPage with strikes := [⟨1, 1, 1, 0, false, false, [65], some [.glyph 0 1]⟩] }

theorem test_blankPage_witness : (imaging blankPage).regs.resetBusy = false ∧ (imaging blankPage).builder.state = .still ∧
    (imaging blankPage).leave = true ∧ (imaging blankPage).cache.flush = .none ∧ (imaging blankPage).Composed ∧
    (imaging blankPage).head = some 0 ∧ (imaging blankPage).builder.slot ≠ some 0 ∧
    ((imaging blankPage).slot 0).entry = some ⟨0, 600⟩ ∧ ((imaging blankPage).slot 0).copy.length = 600 ∧
    ((imaging blankPage).slot 0).state = .closed ∧ ((imaging blankPage).slot 0).mark = false ∧
    ((imaging blankPage).slot 0).strikes = [] ∧ ((imaging blankPage).slot 0).copy.rules.length = 4 ∧
    (∀ r ∈ ((imaging blankPage).slot 0).copy.rules, r.position = 0) := by
  simp only [composed_iff]; decide +kernel

/-- Slot 0's entry goes to row 110, and the Builder has come to row `row` of it, with `pend` waiting. -/
def bandAt (s : State) (row : Nat) (pend : Option PendingSlew) (mark : Bool) : State :=
  let s := s.modSlot 0 fun sl => { sl with state := .imaging, entry := some ⟨0, 110⟩, mark := mark }
  { s with builder := { s.builder with slot := some 0, nextRow := row, slew := pend } }

theorem bandFrom_iff (s : State) (i : Fin 4) (e : Entry) (row : Nat) (p : Option PendingSlew) : s.BandFrom i e row p ↔
    (s.regs.resetBusy = false ∧ s.builder.state = .still ∧ s.leave = true ∧ s.cache.flush = .none ∧
      (s.comp.waits = false ∧ s.sc.readFailed = false ∧ s.form.noCheck = true) ∧ s.head = some i ∧
      (s.slot i).entry = some e ∧ ((s.builder.slot = some i ∧ s.builder.nextRow = row ∧ s.builder.slew = p) ∨
        (s.builder.slot ≠ some i ∧ e.first = row ∧ p = none))) := by
  rw [← composed_iff]
  exact ⟨fun h => ⟨h.1, h.2, h.3, h.4, h.5, h.6, h.7, h.8⟩, fun ⟨a, b, c, d, e, f, g, h⟩ => ⟨a, b, c, d, e, f, g, h⟩⟩

theorem test_bandNew_witness : (imaging blankPage).BandFrom 0 ⟨0, 600⟩ 0 none := by
  rw [bandFrom_iff]; decide +kernel

theorem test_bandRows_witness : ∀ m : Bool, ∀ p ∈ [none, some ⟨40, 24, false⟩],
    (bandAt (imaging blankPage) 64 p m).BandFrom 0 ⟨0, 110⟩ 64 p ∧
    (bandAt (imaging inkedPage) 64 p m).BandFrom 0 ⟨0, 110⟩ 64 p ∧
    (bandAt (imaging blankPage) 110 p m).BandFrom 0 ⟨0, 110⟩ 110 p := by
  simp only [bandFrom_iff]; decide +kernel

theorem test_blankRows_witness : (bandAt (imaging blankPage) 110 none true).builder.work = none ∧
    ((bandAt (imaging blankPage) 64 none true).slot 0).cells = [] ∧
    (bandAt (imaging inkedPage) 64 none true).cache.aside = none ∧
    ((bandAt (imaging inkedPage) 64 none true).slot 0).cells = [⟨0, 0, 0, 1⟩] ∧
    (⟨0, 0, 0, 1⟩ : Cell).meets (bandAt (imaging inkedPage) 64 none true).directory 64 110 = false ∧
    110 ≤ ((bandAt (imaging blankPage) 64 none true).slot 0).copy.length := by decide +kernel

/-- R131 by hand: an entry with no rows left is ended by one row with last-of-page, or by the slew that waited. -/
theorem test_closing_message : ((match exec .bandBegin (bandAt (imaging blankPage) 110 none false) with
      | .next t => decide (t.builder.offer = [⟨some 0, 110, 1, .slew, ⟨false, true, false⟩, none⟩])
      | _ => false) &&
    match exec .bandBegin (bandAt (imaging blankPage) 110 (some ⟨40, 70, false⟩) true) with
      | .next t => decide (t.builder.offer = [⟨some 0, 40, 70, .slew, ⟨false, false, true⟩, none⟩])
      | _ => false) = true := by decide +kernel

theorem test_miss_witness : (imaging inkedPage).regs.resetBusy = false ∧ (imaging inkedPage).builder.state = .still ∧
    (imaging inkedPage).leave = true ∧ (imaging inkedPage).cache.flush = .none ∧ (imaging inkedPage).Composed ∧
    (imaging inkedPage).head = some 0 ∧ (imaging inkedPage).builder.slot ≠ some 0 ∧
    ((imaging inkedPage).slot 0).entry = some ⟨0, 600⟩ ∧ 600 ≤ ((imaging inkedPage).slot 0).copy.length ∧
    ((imaging inkedPage).slot 0).state = .closed ∧
    ((imaging inkedPage).slot 0).cells.filter (Cell.meets (imaging inkedPage).directory 0 64) = ⟨0, 0, 0, 1⟩ :: [] ∧
    (imaging inkedPage).cache.fill = none ∧
    1 < ((imaging inkedPage).directory.font ((imaging inkedPage).directory.drawing 0)).count ∧
    (imaging inkedPage).cache.sets[setOf ((imaging inkedPage).directory.drawing 0) 1].find
      ((imaging inkedPage).directory.drawing 0, 1) = none := by
  simp only [composed_iff]; decide +kernel

/-- Glyph 1 of typeface 0 is held whole in way 2 of its set. -/
def held (s : State) : State :=
  let entry : CacheEntry := ⟨some (0, 1), Vector.replicate 4 (some [0x81, 0x18])⟩
  { s with cache := s.cache.modSet 1 fun c => { c with ways := c.ways.set 2 entry } }

/-- The page with glyph 7, of which the directory holds none. -/
def boxPage : Slot := { blankPage with strikes := [⟨1, 1, 1, 0, false, false, [65], some [.glyph 0 7]⟩] }

theorem test_hit_witness : (held (imaging inkedPage)).leave = true ∧ (held (imaging inkedPage)).head = some 0 ∧
    ((held (imaging inkedPage)).slot 0).cells.filter (Cell.meets (held (imaging inkedPage)).directory 0 64) = [⟨0, 0, 0, 1⟩] ∧
    (held (imaging inkedPage)).cache.sets[Machine.setOf 0 1].find (0, 1) = some 2 ∧
    ((held (imaging inkedPage)).directory.drawing 0) = 0 ∧ (held (imaging inkedPage)).directory.font 0 = face ∧
    (∀ b ∈ face.needed 0 0 64, (((held (imaging inkedPage)).cache.sets[Machine.setOf 0 1].ways[(2 : Fin 4)]).subs[b]).isSome = true) ∧
    (cellDots 8 8 ⟨0, 0, 0, 1⟩ 0 64 fun r col =>
      rowDot (((held (imaging inkedPage)).cache.sets[Machine.setOf 0 1].ways[(2 : Fin 4)]).row face r) col) ≠ [] ∧
    (imaging boxPage).leave = true ∧
    ((imaging boxPage).slot 0).cells.filter (Cell.meets (imaging boxPage).directory 0 64) = [⟨0, 0, 0, 7⟩] ∧
    face.count ≤ 7 ∧ cellDots 8 8 ⟨0, 0, 0, 7⟩ 0 64 (boxDot 8 8) ≠ [] := by decide +kernel

/-- The glyph stands on line 2, whose top row is 100: in the page's second band. -/
def lowered (sl : Slot) : Slot := { sl with strikes := sl.strikes.map fun k => { k with line := 2 } }

theorem test_bandLater_witness : ∀ m : Bool, ∀ p ∈ [none, some ⟨40, 24, false⟩],
    ∀ s ∈ [bandAt (held (imaging (lowered inkedPage))) 64 p m, bandAt (imaging (lowered inkedPage)) 64 p m,
      bandAt (imaging (lowered boxPage)) 64 p m], s.BandFrom 0 ⟨0, 110⟩ 64 p := by
  simp only [bandFrom_iff]; decide +kernel

theorem test_bandCells_witness : ∀ m : Bool,
    let s := bandAt (held (imaging (lowered inkedPage))) 64 none m
    let box := bandAt (imaging (lowered boxPage)) 64 none m
    (s.slot 0).cells.filter (Cell.meets s.directory 64 110) = [⟨100, 0, 0, 1⟩] ∧ 110 ≤ (s.slot 0).copy.length ∧
    s.cache.fill = none ∧ s.directory.drawing 0 = 0 ∧ s.directory.font 0 = face ∧
    s.cache.sets[Machine.setOf 0 1].find (0, 1) = some 2 ∧
    (∀ b ∈ face.needed 100 64 110, ((s.cache.sets[Machine.setOf 0 1].ways[(2 : Fin 4)]).subs[b]).isSome = true) ∧
    (cellDots 8 8 ⟨100, 0, 0, 1⟩ 64 110 fun r col =>
      rowDot ((s.cache.sets[Machine.setOf 0 1].ways[(2 : Fin 4)]).row face r) col) ≠ [] ∧
    (box.slot 0).cells.filter (Cell.meets box.directory 64 110) = [⟨100, 0, 0, 7⟩] ∧
    cellDots 8 8 ⟨100, 0, 0, 7⟩ 64 110 (boxDot 8 8) ≠ [] := by decide +kernel

theorem test_missLater_witness : ∀ m : Bool,
    let s := bandAt (imaging (lowered inkedPage)) 64 (some ⟨40, 24, false⟩) m
    (s.slot 0).cells.filter (Cell.meets s.directory 64 110) = [⟨100, 0, 0, 1⟩] ∧ s.cache.fill = none ∧
    s.cache.sets[Machine.setOf 0 1].find (0, 1) = none := by decide +kernel

/-- R124, R90 by hand: line by line, positions from left to right, blanks drawing nothing, then the column rule. -/
theorem test_cells_order : ({ page .closed with
      copy := { (page .closed).copy with leftMargin := 5, rules := [⟨3, 2, 2⟩, ⟨0, 1, 6⟩] }
      ruleRef := some (.glyph 0 9)
      strikes := [⟨2, 1, 1, 0, false, false, [], some [.glyph 1 4, .blank, .glyph 1 6]⟩,
        ⟨1, 1, 2, 0, false, false, [], some [.glyph 0 3]⟩,
        ⟨2, 2, 3, 0, false, false, [], some [.blank, .glyph 0 8]⟩] } : Slot).cells =
    [⟨0, 5, 0, 3⟩, ⟨100, 5, 1, 4⟩, ⟨100, 29, 1, 6⟩, ⟨100, 17, 0, 8⟩, ⟨100, 29, 0, 9⟩] := by decide +kernel

/-- Way 2 holds the glyph with its second and fourth sub-blocks absent. -/
def heldPart : State :=
  let s := imaging inkedPage
  let entry : CacheEntry := ⟨some (0, 1), #v[some [0x81, 0x18], none, some [0x81, 0x18], none]⟩
  { s with cache := s.cache.modSet 1 fun c => { c with ways := c.ways.set 2 entry } }

theorem test_subBlockMiss_witness : heldPart.leave = true ∧ heldPart.head = some 0 ∧ heldPart.builder.state = .still ∧
    heldPart.cache.flush = .none ∧ heldPart.cache.fill = none ∧ (heldPart.slot 0).state = .closed ∧
    (heldPart.slot 0).cells.filter (Cell.meets heldPart.directory 0 64) = [⟨0, 0, 0, 1⟩] ∧
    heldPart.directory.font (heldPart.directory.drawing 0) = face ∧
    heldPart.cache.sets[Machine.setOf 0 1].find (0, 1) = some 2 ∧
    ((face.needed 0 0 64).filter fun b => (heldPart.cache.sets[Machine.setOf 0 1].ways[(2 : Fin 4)].subs[b]).isNone) =
      [1, 3] ∧
    (1 ≤ face.height ∧ face.needed 60 64 65 = [2] ∧ face.needed 0 7 8 = [3]) := by decide +kernel

/-- Sub-blocks `todo` of glyph 1 are still to read, the first on the bus, with `got` of it read; the band's last cell
waits, with dots counted before it. -/
def glyphRead (todo : List (Fin 4)) (got : List Byte) : State :=
  let s := bus (imaging { inkedPage with state := .imaging }) .glyphFiller .subBlock 4 []
  { s with
    cache := { s.cache.modSet 1 fun c => c.claim 0 (0, 1) with fill := some ⟨1, 0, 0, 1, face, todo, got, true⟩ }
    builder := { s.builder with
      state := .fillWait
      slot := some 0
      work := some ⟨0, 0, 64, [(5, 1)], [⟨0, 0, 0, 1⟩], none⟩ } }

/-- A sub-block of 96 bytes, of which 4 are on the bus. -/
def glyphWide : State :=
  let s := glyphRead [0] []
  { s with cache := { s.cache with fill := some ⟨1, 0, 0, 1, ⟨0x6001, 2, 48, 64⟩, [0], [], true⟩ } }

theorem test_glyphWide_witness : glyphWide.OnBus .subBlock 4 ∧
    (([] : List Byte) ++ [9, 9, 9, 9]).length < ((⟨0x6001, 2, 48, 64⟩ : FontRec).widened 1 0).2 ∧
    glyphWide.refusalWaits = false ∧ glyphWide.atBoundary = false ∧ glyphWide.Composed := by
  simp only [onBus_iff, composed_iff]; decide +kernel

theorem test_glyphRead_witness : (∀ t ∈ [[0], [0, 1]], ∀ g ∈ [[], [1, 2, 3, 4]], (glyphRead t g).OnBus .subBlock 4 ∧
      (glyphRead t g).cache.fill = some ⟨1, 0, 0, 1, face, t, g, true⟩ ∧ (glyphRead t g).refusalWaits = false ∧
      (glyphRead t g).Composed ∧ (glyphRead t g).atBoundary = false) ∧
    (([] : List Byte) ++ [9, 9, 9, 9]).length = (face.widened 1 0).2 ∧
    ((glyphRead [0] []).cache.sets[(1 : Fin 32)].ways[(0 : Fin 4)]).tag = some (0, 1) ∧
    (glyphRead [0] []).builder.work = some ⟨0, 0, 64, [(5, 1)], [⟨0, 0, 0, 1⟩], none⟩ ∧
    (glyphRead [0] []).builder.slew = none ∧ (glyphRead [0] []).builder.state = .fillWait ∧
    (glyphRead [0] []).cache.flush = .none ∧ (glyphRead [0] []).cache.aside = none ∧
    ((glyphRead [0] []).slot 0).entry = some ⟨0, 600⟩ ∧ ((glyphRead [0] []).slot 0).mark = false := by
  simp only [onBus_iff, composed_iff]; decide +kernel

/-- The last sub-block of a fill given up is on the bus: at a band boundary, a flush waiting for it or not; and with a
cell behind it that is to be looked up, the glyph's other sub-blocks held. -/
def givenUp (flush : FlushPhase) (st : BuilderState) : State :=
  let s := glyphRead [0] []
  let entry : CacheEntry := ⟨some (0, 1), #v[none, some [0x81, 0x18], some [0x81, 0x18], some [0x81, 0x18]]⟩
  { s with
    cache := { s.cache.modSet 1 fun c => { c with ways := c.ways.set 0 entry } with
      fill := some ⟨1, 0, 0, 1, face, [0], [], false⟩, flush := flush }
    builder := { s.builder with state := st, work := if st = .fillWait then s.builder.work else none } }

theorem test_givenUp_witness : (∀ f ∈ [FlushPhase.none, .waitFill], (givenUp f .still).OnBus .subBlock 4 ∧
      (givenUp f .still).cache.fill = some ⟨1, 0, 0, 1, face, [0], [], false⟩ ∧ (givenUp f .still).refusalWaits = false ∧
      (givenUp f .still).Composed ∧ (givenUp f .still).atBoundary = true ∧ (givenUp f .still).cache.flush = f ∧
      (givenUp f .still).cache.aside = none ∧ (givenUp f .still).mtu.limit ≠ none ∧
      ((givenUp f .still).cache.sets[(1 : Fin 32)].ways[(0 : Fin 4)]).tag = some (0, 1)) ∧
    (givenUp .none .fillWait).OnBus .subBlock 4 ∧ (givenUp .none .fillWait).Composed ∧
    (givenUp .none .fillWait).builder.work = some ⟨0, 0, 64, [(5, 1)], [⟨0, 0, 0, 1⟩], none⟩ ∧
    (givenUp .none .fillWait).builder.slew = none ∧ ((givenUp .none .fillWait).slot 0).entry = some ⟨0, 600⟩ ∧
    ((givenUp .none .fillWait).slot 0).mark = false ∧ (givenUp .none .fillWait).directory.drawing 0 = 0 ∧
    (givenUp .none .fillWait).directory.font 0 = face ∧ 1 < face.count ∧ Machine.setOf 0 1 = 1 ∧
    (givenUp .none .fillWait).cache.sets[(1 : Fin 32)].find (0, 1) = some 0 ∧
    (∀ j ∈ face.needed 0 0 64, j = 0 ∨
      (((givenUp .none .fillWait).cache.sets[(1 : Fin 32)].ways[(0 : Fin 4)]).subs[j]).isSome = true) ∧
    (glyphRead [0] []).mtu.limit ≠ none ∧ (glyphRead [0] []).comp.waits = false := by
  simp only [onBus_iff, composed_iff]; decide +kernel

/-- R142, R146 by hand: glyph 1 of a face of 8 × 8 dots at 0x6001 begins at 0x6009; its sub-block 1 at 0x600B. -/
theorem test_subBlock_span : (part true).fillRead ⟨1, 0, 0, 1, face, [1], [], true⟩ =
    some ⟨.subBlock, 0x6008, 8, []⟩ ∧ face.subBytes 1 = 2 ∧ (face.widened 1 1).1 = 3 := by decide +kernel

/-- The same with a hold owed, the engine in `e`. -/
def glyphHold (e : EngineState) (h : OwedHold) : State :=
  let s := eng (glyphRead [0] []) e
  { s with engine := { s.engine with holdOwed := h } }

theorem test_glyphHold_witness : ∀ e ∈ [EngineState.feeding, .idle, .formsWait], ∀ h ∈ [OwedHold.operatorStop, .hostPause],
    (glyphHold e h).OnBus .subBlock 4 ∧ (glyphHold e h).refusalWaits = false ∧ (glyphHold e h).Composed ∧
    (glyphHold e h).atBoundary = false ∧ (glyphHold e h).engine.state = e ∧ (glyphHold e h).engine.holdOwed = h ∧
    (glyphHold e h).cache.flush = .none ∧ (glyphHold e h).cache.aside = none := by
  simp only [onBus_iff, composed_iff]; decide +kernel

/-- The directory read of a flush stands on the bus, with a directory set aside. -/
def flushReading : State :=
  let s := bus (part true) .glyphFiller .flushDirectory 64 []
  { s with cache := { s.cache with flush := .reading, aside := some .beforeFirst } }

theorem test_flushDirectory_witness : flushReading.OnBus .flushDirectory 64 ∧ flushReading.refusalWaits = false ∧
    flushReading.cache.fill = none := by
  simp only [onBus_iff]; decide +kernel

/-- An offer of slot 0: rows `row` to `row + 63`, with page marks. -/
def offer (row : Nat) (first last hold : Bool) : Message :=
  ⟨some 0, row, 64, .band [(5, 1)], ⟨first, last, hold⟩, some (page .closed).copy.strobe⟩

/-- A message offered with the paper in alignment `a`, rows to `stop` waiting, with `rest` behind it. -/
def offering (m : Message) (rest : List Message) (a : Machine.Alignment) (stop : Nat) (mark : Bool) : State :=
  let s := imaging { inkedPage with
    state := .imaging, mark := mark, entry := some ⟨m.row, stop⟩, pageSeq := some 200 }
  { s with
    builder := { s.builder with state := .offering, slot := some 0, offer := m :: rest }
    engine := { s.engine with alignment := a, bandSeq := 0xFFFF, pageSeq := 255, frameSeq := 254 } }

/-- First of a page for each alignment; the last rows of a page, and of the rows so far; one of two. -/
def offers : List (State × Message × List Message) :=
  [(offering (offer 0 true false false) [] .set 600 false, offer 0 true false false, []),
    (offering (offer 0 true false false) [] .off 600 false, offer 0 true false false, []),
    (offering (offer 0 true false false) [] .unknown 600 false, offer 0 true false false, []),
    (offering (offer 536 false true false) [] .set 600 false, offer 536 false true false, []),
    (offering (offer 36 false false true) [] .set 100 true, offer 36 false false true, []),
    (offering (offer 0 false false false) [offer 64 false false false] .off 600 false, offer 0 false false false,
      [offer 64 false false false])]

theorem test_handover_witness : ∀ o ∈ offers, o.1.regs.resetBusy = false ∧ o.1.builder.state = .offering ∧
    o.1.builder.rebuilt = [] ∧ o.1.builder.offer = o.2.1 :: o.2.2 ∧ o.2.1.slot = some 0 ∧ o.1.leave = true ∧
    1 ≤ o.1.engine.bandRoom ∧ o.1.engine.sent.length < 4 ∧ (o.1.slot 0).entry.isSome = true ∧
    (o.1.comp.waits = false ∧ o.1.sc.readFailed = false ∧ o.1.form.noCheck = true) := by decide +kernel

/-- A hold-after message of rows whose page has had its final close since; and a refused BAND's rebuild offered, with
an ordinary offer behind it or none. -/
def heldOffer : State := offering (offer 36 false false true) [] .set 100 false
def rebuilt (rest : List Message) : State :=
  let s := offering (offer 64 false false false) [] .set 600 false
  { s with
    builder := { s.builder with offer := rest, rebuilt := [⟨7, offer 0 true false false⟩] }
    engine := { s.engine with
      sent := [⟨7, 200, some 0, true, 0, 64, ⟨true, false, false⟩, none, 0, true, true⟩] } }

/-- A second rebuilt band is offered behind it, its message waiting too. -/
def rebuiltTwo : State :=
  let s := rebuilt []
  { s with
    builder := { s.builder with rebuilt := s.builder.rebuilt ++ [⟨8, offer 64 false false false⟩] }
    engine := { s.engine with
      sent := s.engine.sent ++ [⟨8, 200, some 0, true, 64, 64, ⟨false, false, false⟩, none, 0, true, true⟩] } }

theorem test_rebuiltTwo_witness : rebuiltTwo.regs.resetBusy = false ∧ rebuiltTwo.builder.state = .offering ∧
    rebuiltTwo.builder.rebuilt = ⟨7, offer 0 true false false⟩ :: [⟨8, offer 64 false false false⟩] ∧
    (∀ e ∈ rebuiltTwo.engine.sent, e.awaiting = true → e.seq = 7 ∨ (e.isBand = true ∧ e.seq = 8)) ∧
    rebuiltTwo.leaveButRefusal = true ∧ 1 ≤ rebuiltTwo.engine.bandRoom := by decide +kernel

theorem test_rebuilt_witness : heldOffer.leave = true ∧ (heldOffer.slot 0).mark = false ∧
    heldOffer.builder.offer = [offer 36 false false true] ∧ (heldOffer.slot 0).entry = some ⟨36, 100⟩ ∧
    (∀ rest ∈ [[], [offer 64 false false false]], (rebuilt rest).regs.resetBusy = false ∧
      (rebuilt rest).builder.state = .offering ∧ (rebuilt rest).builder.rebuilt = [⟨7, offer 0 true false false⟩] ∧
      ((rebuilt rest).engine.sent.find? fun e => decide (e.seq = 7)).isSome ∧
      (∀ e ∈ (rebuilt rest).engine.sent, e.awaiting = true → e.seq = 7) ∧ (rebuilt rest).leaveButRefusal = true ∧
      1 ≤ (rebuilt rest).engine.bandRoom ∧ (offer 0 true false false).slot ≠ none ∧
      ((rebuilt rest).comp.waits = false ∧ (rebuilt rest).sc.readFailed = false ∧
        (rebuilt rest).form.noCheck = true)) := by decide +kernel

/-! ## The engine link -/

/-- A poll is out; `k` polls were missed before it. -/
def polled (k : Nat) (e : EngineState) : State :=
  let s := withSlot (eng (part true) e) 0 { page .sent with pageSeq := some 3, entry := none }
  { s with
    engine := { s.engine with answerTimer := some 5, missed := k }
    store := { s.store with imaging := [0] } }

theorem test_polls_witness : (∀ k ∈ [0, 1, 2, 3], (polled k .feeding).regs.resetBusy = false ∧
      (polled k .feeding).engine.pollTimer = some 0 ∧ (polled k .feeding).engine.answerTimer = some 5 ∧
      (polled k .feeding).engine.missed = k ∧ (polled k .feeding).engine.state ≠ .offline ∧
      (polled k .feeding).Composed ∧ (polled k .feeding).refusalWaits = false) ∧
    ((polled 2 .feeding).slot 0).state = .sent ∧ ((polled 2 .feeding).slot 1).begun = false := by
  simp only [composed_iff]; decide +kernel

/-- Slots of every kind that a reversion changes: SENT, IMAGING with and without the composing mark, and COMPOSING with
rows sent; the Builder works on slot 1. -/
def reverting (s : State) (mark : Bool) : State :=
  let s := withSlot s 1 { page .imaging with entry := some ⟨64, 600⟩, split := 64, pageSeq := some 4, mark := mark }
  let s := withSlot s 2 { page .composing with split := 101, pageSeq := some 5, stream := 6 }
  { s with
    builder := { s.builder with state := .building, slot := some 1 }
    store := { s.store with imaging := [0, 1] } }

theorem test_reverting_witness : ∀ m, (reverting (polled 2 .feeding) m).regs.resetBusy = false ∧
    (reverting (polled 2 .feeding) m).engine.answerTimer = some 5 ∧ (reverting (polled 2 .feeding) m).engine.missed = 2 ∧
    (reverting (polled 2 .feeding) m).engine.state ≠ .offline ∧ (reverting (polled 2 .feeding) m).Composed ∧
    (reverting (polled 2 .feeding) m).builder.slot = some 1 ∧ (reverting (polled 3 .feeding) m).refusalWaits = false ∧
    ((reverting (polled 2 .feeding) m).slot 1).state = .imaging ∧
    ((reverting (polled 2 .feeding) m).slot 1).mark = m ∧ 0 < ((reverting (polled 2 .feeding) m).slot 2).split ∧
    (reverting (polled 2 .feeding) m).slotsBegun 0 = 2 ∧ (reverting (polled 2 .feeding) m).slotsBegun 6 = 1 := by
  simp only [composed_iff]; decide +kernel

/-- A STATUS: ready, band room 3, underruns 5, last exit 9, last accepted 7; `more` sets further bits. -/
def statusFrame (more : Nat) : RxFrame :=
  RxFrame.make 8 0 [BitVec.ofNat 32 (1 + 12 + more + 5 * 65536 + 9 * 16777216), 7]

/-- Message 7 of slot 0 was sent; the engine reported exit `x` last. -/
def sentOne (s : State) (x : Option (BitVec 8)) : State :=
  { s with engine := { s.engine with
      sent := [⟨7, 3, some 0, true, 0, 64, ⟨true, false, false⟩, none, 0, false, false⟩]
      lastExit := x
      expected := some 250
      bandRoom := 2
      handed := 1 } }

/-- The condition record a frame gives. -/
def condOf (f : RxFrame) : Condition := conditionOf (payloadWord f.payload 0) (payloadWord f.payload 1)

theorem test_status_witness : (statusFrame 0).passes = true ∧ (statusFrame 0).kind = 8 ∧
    (condOf (statusFrame 0)).jam = false ∧ (condOf (statusFrame 0)).notReadySeen = false ∧
    (condOf (statusFrame 0)).formsOut = false ∧ (condOf (statusFrame 0)).coverOpen = false ∧
    (∀ x ∈ [none, some 9], (sentOne (polled 1 .feeding) x).regs.resetBusy = false ∧
      (sentOne (polled 1 .feeding) x).engine.state ≠ .offline ∧
      ((sentOne (polled 1 .feeding) x).engine.lastExit = none ∨
        (sentOne (polled 1 .feeding) x).engine.lastExit = some (condOf (statusFrame 0)).lastExit) ∧
      (∀ e ∈ (sentOne (polled 1 .feeding) x).engine.sent,
        seqAtOrBefore e.seq (condOf (statusFrame 0)).lastAccepted = true) ∧
      (sentOne (polled 1 .feeding) x).engine.halting = false ∧ (sentOne (polled 1 .feeding) x).panel.lineOwed = false ∧
      (sentOne (polled 1 .feeding) x).Composed ∧
      (sentOne (polled 1 .feeding) x).gate = (sentOne (polled 1 .feeding) x).engine.state ∧
      (sentOne (polled 1 .feeding) x).engine.holdOwed = .none) := by
  simp only [composed_iff]; decide +kernel

/-- The states of a STATUS that does more: page 9 has exited; message 7 was refused and that was lost, a BAND or a
SLEW; a halt is under way; a LINE advance is owed in `e`. -/
def exitStatus : State :=
  let s := withSlot (eng (owned []) .feeding) 0 { page .sent with pageSeq := some 9, releaseOff := 48 }
  { s with store := { s.store with imaging := [0] }, engine := { s.engine with lastExit := some 8 } }
def lostStatus (band : Bool) : State :=
  let s := withSlot (eng (part true) .feeding) 0 { page .imaging with pageSeq := some 3, entry := some ⟨64, 600⟩ }
  { s with
    store := { s.store with imaging := [0] }
    engine := { s.engine with
      answerTimer := some 5, pollAt := 20, lastExit := some 9
      sent := [⟨8, 3, some 0, band, 0, 64, ⟨true, false, false⟩, none, 0, false, false⟩] } }
def haltStatus : State :=
  let s := eng (part true) .idle
  { s with engine := { s.engine with halting := true } }
def owedStatus (e : EngineState) (handed : Nat) : State :=
  let s := eng (part true) e
  { s with panel := { s.panel with lineOwed := true }, engine := { s.engine with handed := handed } }

theorem test_statusMore_witness : (∀ s ∈ [exitStatus, lostStatus true, lostStatus false, haltStatus,
      owedStatus .idle 0, owedStatus .feeding 0, owedStatus .idle 3],
      s.regs.resetBusy = false ∧ s.engine.state ≠ .offline ∧ s.refusalWaits = false ∧
      (s.comp.waits = false ∧ s.sc.readFailed = false ∧ s.form.noCheck = true)) ∧
    (condOf (statusFrame 0)).lastExit = 9 ∧ exitStatus.engine.lastExit = some 8 ∧ exitStatus.store.imaging = 0 :: [] ∧
    (exitStatus.slot 0).state = .sent ∧ (exitStatus.slot 0).pageSeq = some 9 ∧ exitStatus.owner ≠ none ∧
    exitStatus.engine.answerTimer = none ∧ exitStatus.engine.halting = false ∧ exitStatus.panel.lineOwed = false ∧
    (∀ b, ∀ e ∈ (lostStatus b).engine.sent, e.isBand = b ∧ e.refused = false ∧ e.slot = some 0 ∧
      seqAtOrBefore e.seq (condOf (statusFrame 0)).lastAccepted = false ∧ e.sentAt + 20 ≤ (lostStatus b).engine.pollAt) ∧
    ((lostStatus true).slot 0).pageSeq = some 3 ∧ (lostStatus true).cache.flush = .none ∧
    1 ≤ (condOf (statusFrame 0)).bandRoom - (lostStatus false).engine.handed ∧
    haltStatus.engine.halting = true ∧ haltStatus.engine.answerTimer = none ∧
    (condOf (statusFrame 0)).inMotion = false ∧ (condOf (statusFrame 2)).inMotion = true ∧
    (statusFrame 2).passes = true ∧ (owedStatus .idle 0).paperFree = true ∧ (owedStatus .feeding 0).paperFree = false ∧
    (condOf (statusFrame 0)).bandRoom ≤ (owedStatus .idle 3).engine.handed ∧
    (owedStatus .idle 0).panel.lineOwed = true := by decide +kernel

theorem test_jam_witness : (∀ m ∈ [0, 16, 128], (statusFrame m).passes = true ∧ (statusFrame m).kind = 8 ∧
      (condOf (statusFrame m)).jam = decide (m = 16) ∧ (condOf (statusFrame m)).notReadySeen = decide (m = 128)) ∧
    (∀ e ∈ [EngineState.idle, .feeding, .offline], (polled 3 e).regs.resetBusy = false ∧ (polled 3 e).Composed ∧
      (polled 3 e).refusalWaits = false ∧ (polled 3 e).engine.answerTimer ≠ none ∧ (polled 3 e).engine.state = e) ∧
    (eng (part true) .idle).engine.answerTimer = none ∧ (eng (part true) .idle).Composed := by
  simp only [composed_iff]; decide +kernel

/-- The STATUS answers a poll, and a message it does not accept was sent too late for a refusal, or was refused
before. -/
theorem test_notReadyAnswer_witness : ∀ e ∈ [EngineState.idle, .feeding], ∀ r : Bool,
    let s := polled 0 e
    let t := { s with engine := { s.engine with
      sent := [⟨8, 3, some 0, true, 0, 64, ⟨true, false, false⟩, none, if r then 0 else 1, r, false⟩], pollAt := 20 } }
    t.regs.resetBusy = false ∧ t.Composed ∧ t.engine.state = e ∧ t.engine.answerTimer ≠ none ∧
      (∀ m ∈ t.engine.sent, m.refused = true ∨ t.engine.pollAt < m.sentAt + 20) ∧
      seqAtOrBefore 8 (condOf (statusFrame 128)).lastAccepted = false := by
  simp only [composed_iff]; decide +kernel

/-- An EXIT of page sequence number 3, and one of a number no slot holds. -/
def exitOf (q : Nat) : RxFrame := RxFrame.make 9 255 [BitVec.ofNat 32 q]

/-- Slot 0 is SENT with number 3, a MARK of tag 9 and one strike; stream 0 is the owner. -/
def sentPage : State :=
  let s := withSlot (eng (owned []) .feeding) 0 { page .sent with
    pageSeq := some 3, markTag := some 9, releaseOff := 48, strikes := [strike 1], jobEnds := [⟨5, .done⟩] }
  { s with store := { s.store with imaging := [0], poolUsed := 1 } }

theorem test_exit_witness : (∀ q ∈ [3, 4], (exitOf q).passes = true ∧ (exitOf q).kind = 9 ∧
      BitVec.ofNat 8 (payloadWord (exitOf q).payload 0).toNat = BitVec.ofNat 8 q) ∧ sentPage.regs.resetBusy = false ∧
    sentPage.engine.state ≠ .offline ∧ sentPage.Composed ∧ sentPage.store.imaging = 0 :: [] ∧
    (sentPage.slot 0).state = .sent ∧ (sentPage.slot 0).pageSeq = some 3 ∧ sentPage.owner ≠ none ∧
    (∀ i, (sentPage.slot i).state = .sent → (sentPage.slot i).pageSeq ≠ some 4) := by
  simp only [composed_iff]; decide +kernel

/-- The exits that do more: of a page that a discard has passed, of the last page of a job whose report is owed, and
of a page with an older one before it. -/
def exitHeld : State := sentPage.modStream 0 fun r => { r with heldExits := 2, release := 56 }
def exitReport : State := sentPage.modStream 0 fun r => { r with reports := [⟨5, .done, false, 6⟩] }
def exitTwo : State :=
  let s := withSlot sentPage 2 { page .sent with pageSeq := some 2, releaseOff := 40, strikes := [strike 2] }
  { s with store := { s.store with imaging := [2, 0], poolUsed := 2 } }

/-- The Composer waits for a slot, in a turn or at a JOB; every slot is taken, and slot 0 is SENT with number 3. -/
def waitingSlot (rest : RecordRest) (b : List Byte) : State :=
  let s := full (withSlot (eng (owned b) .feeding) 0 { page .sent with pageSeq := some 3 })
  { s with
    store := { s.store with imaging := [0] }
    form := .loaded (form 6)
    comp := { s.comp with
      state := .waitSlot, cursor := some 2, job := some ⟨5, 0, 7, decide (rest = .nothing)⟩
      waiting := some ⟨2, 0, 8, rest⟩ } }

/-- The Composer waits for a strike entry on line 2 of slot 1; slot 0, SENT with number 3, holds one. -/
def waitingStrike : State :=
  let s := withSlot (withSlot (eng (owned lineBytes) .feeding) 0 { page .sent with
    pageSeq := some 3, strikes := [strike 1] }) 1 { page .composing with mark := true }
  { s with
    store := { s.store with imaging := [0], poolUsed := 1024 }
    form := .loaded (form 6)
    comp := { s.comp with state := .waitStrike, cursor := some 2, job := some ⟨5, 0, 7, true⟩ } }

/-- The same with an earlier report on its way, and a descriptor write waiting that carries none. -/
def exitRoom : State :=
  { exitReport with writer := { exitReport.writer with
      issued := some ⟨.descriptor 0, true, true, false⟩, waiting := [⟨.descriptor 0, false, false, false⟩] } }

theorem test_exitRoom_witness : exitRoom.writer.reporting 0 = true ∧ exitRoom.writer.roomForReport 0 = true ∧
    (exitRoom.stream 0).reports = ⟨5, .done, false, 6⟩ :: [] ∧ exitRoom.comp.waits = false ∧
    exitRoom.sc.readFailed = false ∧ exitRoom.form.noCheck = true := by decide +kernel

theorem test_exitMore_witness : (exitHeld.stream 0).heldExits ≠ 0 ∧ (sentPage.stream 0).heldExits = 0 ∧
    (exitReport.stream 0).reports = ⟨5, .done, false, 6⟩ :: [] ∧ (exitReport.slot 0).jobEnds = [⟨5, .done⟩] ∧
    exitReport.writer.reporting 0 = false ∧ exitTwo.store.imaging = 2 :: 0 :: [] ∧
    (exitTwo.slot 2).pageSeq ≠ some 3 ∧ (exitTwo.slot 2).state = .sent ∧ (exitTwo.slot 0).pageSeq = some 3 ∧
    (exitTwo.slot 0).state = .sent ∧ exitTwo.owner ≠ none ∧ exitTwo.comp.waits = false := by decide +kernel

theorem test_exitWaits_witness : (∀ s ∈ [waitingSlot .nothing (headerOf 1 0 8 0 0x40 0 0),
      waitingSlot .openJob (jobAt 0).sc.buffer, waitingStrike], s.regs.resetBusy = false ∧ s.engine.state ≠ .offline ∧
      s.sc.readFailed = false ∧ s.form.noCheck = true ∧ s.owner = some 0 ∧ s.refusalWaits = false ∧
      s.store.imaging = 0 :: [] ∧ (s.slot 0).state = .sent ∧ (s.slot 0).pageSeq = some 3) ∧
    (∀ r, (waitingSlot r []).comp.state = .waitSlot ∧ (∀ k, ((waitingSlot r []).slot k).mark = false) ∧
      (waitingSlot r []).freeSlot = none) ∧ waitingStrike.comp.state = .waitStrike ∧
    waitingStrike.composing = some 1 ∧ waitingStrike.comp.cursor = some 2 ∧
    (recordHeader waitingStrike.sc.buffer).textCount ≠ 0 ∧
    (waitingStrike.slot 1).split ≤ (waitingStrike.slot 1).copy.top 2 ∧ (waitingStrike.slot 1).strikesOn 2 < 4 ∧
    carriageOf (recordHeader waitingStrike.sc.buffer).after = some (.stop 1) ∧
    waitingStrike.loadedForm.move 2 (.stop 1) = (0, 4) ∧
    waitingStrike.store.poolUsed - (waitingStrike.slot 0).strikes.length < 1024 := by
  refine ⟨?_, fun r => by cases r <;> decide +kernel, ?_⟩ <;> decide +kernel

/-- The same wait for a slot with `k` turns still to come, the record's text and movement after it still to be done. -/
def waitingTurns (k : Nat) : State :=
  let s := waitingSlot .nothing lineBytes
  { s with comp := { s.comp with waiting := some ⟨2, k, 999999, .strikeAndAfter⟩ } }

theorem test_exitTurns_witness : (∀ k ∈ [0, 1], (waitingTurns k).comp.state = .waitSlot ∧
      (waitingTurns k).comp.waiting = some ⟨2, k, 999999, .strikeAndAfter⟩ ∧ (waitingTurns k).owner = some 0 ∧
      (waitingTurns k).comp.job = some ⟨5, 0, 7, true⟩ ∧ (waitingTurns k).refusalWaits = false ∧
      (∀ j, ((waitingTurns k).slot j).mark = false) ∧ (waitingTurns k).freeSlot = none ∧
      (waitingTurns k).store.imaging = 0 :: [] ∧ ((waitingTurns k).slot 0).state = .sent ∧
      ((waitingTurns k).slot 0).pageSeq = some 3 ∧ (waitingTurns k).sc.readFailed = false ∧
      (waitingTurns k).form.noCheck = true ∧ (waitingTurns k).engine.state ≠ .offline) ∧
    (recordHeader (waitingTurns 0).sc.buffer).textCount ≠ 0 ∧
    carriageOf (recordHeader (waitingTurns 0).sc.buffer).after = some (.stop 1) ∧
    (waitingTurns 0).loadedForm.move 2 (.stop 1) = (0, 4) ∧ (waitingTurns 0).store.poolUsed < 1024 := by decide +kernel

/-- A REFUSED of band sequence number `q`, and the same frame with a wrong CRC. -/
def refusedOf (q : Nat) : RxFrame := RxFrame.make 10 0 [BitVec.ofNat 32 q]
def damaged (q : Nat) : RxFrame := { refusedOf q with crc := (refusedOf q).crc ^^^ 1 }

/-- Message 7 was sent once: a BAND or a SLEW, refused before or not, with room or none. -/
def refusing (band refused : Bool) (room : Nat) : State :=
  let s := imaging { inkedPage with state := .imaging, pageSeq := some 3 }
  { s with engine := { s.engine with
      sent := [⟨7, 3, some 0, band, 0, 64, ⟨true, false, false⟩, none, 0, refused, false⟩], bandRoom := room } }

/-- The Builder waits for a fill, in an ordinary band or in the rebuild of message 8, and message 7, a BAND, was sent; a
flush is owed or not. -/
def refusingWait (r : Option Rebuild) (flush : FlushPhase) : State :=
  let s := filling (refusing true false 1) true
  { s with
    cache := { s.cache with flush := flush }
    builder := { s.builder with
      state := .fillWait, slot := some 0, nextRow := 64
      work := some ⟨0, 64, 128, [], [⟨0, 0, 0, 1⟩], r⟩ } }

theorem test_refusedWait_witness : ∀ r ∈ [none, some ⟨8, ⟨false, false, false⟩⟩], ∀ f ∈ [FlushPhase.none, .owed],
    (refusingWait r f).regs.resetBusy = false ∧ (refusingWait r f).Composed ∧ (refusingWait r f).engine.state ≠ .offline ∧
    (∀ e ∈ (refusingWait r f).engine.sent, e.seq = 7 ∧ e.refused = false ∧ e.isBand = true ∧ e.slot = some 0 ∧
      ((refusingWait r f).slot 0).state ≠ .free ∧ ((refusingWait r f).slot 0).pageSeq = some e.pageSeq) ∧
    (refusingWait r f).engine.sent ≠ [] ∧ (refusingWait r f).cache.flush = f ∧
    (refusingWait r f).builder.state = .fillWait ∧ (refusingWait r f).builder.work.isSome ∧
    (refusingWait r f).cache.fill.isSome := by
  simp only [composed_iff]; decide +kernel

/-- The same at a band boundary with a flush at any of its steps. -/
theorem test_refusedFlush_witness : ∀ f ∈ [FlushPhase.owed, .waitFill, .reading],
    let s := setAside (refusing true false 1) f
    s.regs.resetBusy = false ∧ s.Composed ∧ s.refusalWaits = false ∧ s.engine.state ≠ .offline ∧ s.atBoundary = true ∧
      s.cache.flush = f := by
  simp only [composed_iff]; decide +kernel

theorem test_refused_witness : (∀ q ∈ [7, 8], (refusedOf q).passes = true ∧ (refusedOf q).kind = 10 ∧
      (damaged q).passes = false ∧ BitVec.ofNat 16 (payloadWord (refusedOf q).payload 0).toNat = BitVec.ofNat 16 q) ∧
    (∀ b r, (refusing b r 1).regs.resetBusy = false ∧ (refusing b r 1).Composed ∧ (refusing b r 1).refusalWaits = false ∧
      (refusing b r 1).engine.state ≠ .offline ∧ 1 ≤ (refusing b r 1).engine.bandRoom ∧
      (∀ e ∈ (refusing b r 1).engine.sent, e.seq ≠ 8) ∧
      (∀ e ∈ (refusing b r 1).engine.sent, e.seq = 7 ∧ e.refused = r ∧ e.isBand = b ∧ e.slot = some 0) ∧
      (refusing b r 1).cache.flush = .none ∧
      ((refusing b r 1).slot 0).state ≠ .free ∧ ((refusing b r 1).slot 0).pageSeq = some 3 ∧
      (∀ e ∈ (refusing b r 1).engine.sent, e.pageSeq = 3)) ∧
    ((withSlot (refusing true false 1) 0 Slot.free).slot 0).state = .free ∧
    ((withSlot (refusing true false 1) 0 { inkedPage with pageSeq := some 4 }).slot 0).pageSeq ≠ some 3 := by
  simp only [composed_iff]; decide +kernel

/-! ## The operator panel -/

/-- The engine reports ready or not, in state `e`, with slot 0 closed and waiting. -/
def panelAt (e : EngineState) (ready : Bool) : State :=
  let s := withSlot (eng (part true) e) 0 blankPage
  { s with
    engine := { s.engine with cond := { s.engine.cond with ready := ready }, bandRoom := 1, mountedPitch := some 8 }
    store := { s.store with imaging := [0] } }

theorem test_startStop_witness :
    (∀ s ∈ [panelAt .formsWait true, panelAt (.held .operatorStop) true, panelAt .jammed true,
        panelAt (.held .notReady) false, panelAt .feeding true, building .feeding, panelAt .offline true,
        panelAt (.held .hostPause) true, panelAt .formsWait false, panelAt .jammed false, eng (part true) .idle],
      s.regs.resetBusy = false ∧ s.Composed ∧ s.refusalWaits = false ∧ s.engine.holdOwed = .none ∧
      s.panel.buttons.start.down = false ∧ s.panel.buttons.stop.down = false ∧ s.regs.run = true ∧
      s.engine.halting = false) ∧ (panelAt .formsWait true).head = some 0 ∧
    (panelAt .formsWait true).engine.cond.ready = true ∧ (panelAt (.held .notReady) false).engine.cond.ready = false ∧
    (panelAt .feeding true).atBoundary = true ∧ (building .feeding).atBoundary = false ∧
    (building .feeding).gate = .feeding := by
  simp only [composed_iff]; decide +kernel

/-- The image gate: the head's key mounted, another key with a slot on the engine and without, and no head. -/
theorem test_gate_witness : ((imaging blankPage).store.imaging = [0] ∧ ((imaging blankPage).slot 0).entry ≠ none ∧
      ((imaging blankPage).slot 0).copy.stock = (imaging blankPage).engine.mountedStock ∧
      ((imaging blankPage).slot 0).copy.length = (imaging blankPage).engine.mountedLength) ∧
    (((panelAt .formsWait true).slot 0).copy.stock ≠ (panelAt .formsWait true).engine.mountedStock ∧
      ((panelAt .formsWait true).slot 0).entry ≠ none ∧
      (∀ k, ((panelAt .formsWait true).slot k).state ≠ .imaging ∧ ((panelAt .formsWait true).slot k).state ≠ .sent)) ∧
    ((building .feeding).store.imaging = [0] ∧ ((building .feeding).slot 0).state = .imaging ∧
      ((building .feeding).slot 0).entry ≠ none) ∧
    ((∀ i ∈ (polled 0 .feeding).store.imaging, ((polled 0 .feeding).slot i).entry = none) ∧
      ((polled 0 .feeding).slot 0).state = .sent) ∧
    ((part true).store.imaging = [] ∧
      ∀ i, ((part true).slot i).state ≠ .imaging ∧ ((part true).slot i).state ≠ .sent) := by decide +kernel

/-- START with RUN 0, out of FORMS_WAIT, JAMMED and HELD, with the head's stock mounted or not. -/
theorem test_startPaused_witness : ∀ e ∈ [EngineState.formsWait, .jammed, .held .operatorStop], ∀ m ∈ [0, 1],
    let s := panelAt e true
    let t := { s with
      regs := { s.regs with run := false }
      engine := { s.engine with mountedStock := m, mountedLength := 600 } }
    t.regs.resetBusy = false ∧ t.Composed ∧ t.refusalWaits = false ∧ t.engine.holdOwed = .none ∧
      t.panel.buttons.start.down = false ∧ t.engine.cond.ready = true ∧ t.engine.state = e ∧ t.head = some 0 ∧
      t.gate = (if m = 1 then .feeding else .formsWait) := by
  simp only [composed_iff]; decide +kernel

/-- Nothing changes: the gate gives the state the engine is in. -/
theorem test_startIgnored_witness : (panelAt .formsWait false).gate = .formsWait ∧
    (eng (part true) .idle).gate = .idle ∧ (building .feeding).gate = .feeding ∧
    (panelAt (.held .hostPause) true).engine.cond.ready = true := by decide +kernel

/-- LINE is held and armed, and its repeat runs. -/
def repeating (e : EngineState) (room : Nat) : State :=
  let s := panelAt e true
  { s with
    panel := { s.panel with
      buttons := { s.panel.buttons with line := ⟨true, true⟩ }, repeatTimer := some 500, repeatPhase := .delay }
    engine := { s.engine with bandRoom := room } }

theorem test_paper_witness : (panelAt .idle true).regs.resetBusy = false ∧
    (panelAt .idle true).panel.buttons.topOfForm.down = false ∧ (panelAt .idle true).panel.buttons.line.down = false ∧
    (panelAt .idle true).panel.lineOwed = false ∧ (panelAt .idle true).paperFree = true ∧
    1 ≤ (panelAt .idle true).engine.bandRoom ∧ (panelAt .idle true).engine.sent.length < 4 ∧
    (panelAt .feeding true).paperFree = false ∧ (State.reset.panel.buttons.line.down = false) ∧
    (∀ r ∈ [0, 1], (repeating .idle r).regs.resetBusy = false ∧ (repeating .idle r).panel.repeatTimer = some 500 ∧
      (repeating .idle r).panel.lineOwed = false ∧ (repeating .idle r).panel.buttons.line = ⟨true, true⟩ ∧
      (repeating .idle r).paperFree = true ∧ (repeating .idle r).engine.bandRoom = r) ∧
    (repeating .feeding 1).paperFree = false := by decide +kernel

/-- The same with an advance owed. -/
def owing (s : State) : State := { s with panel := { s.panel with lineOwed := true } }

theorem test_owed_witness : (owing (panelAt .idle true)).panel.lineOwed = true ∧
    (owing (panelAt .idle true)).panel.buttons.line.down = false ∧
    (owing (repeating .idle 0)).panel.repeatTimer = some 500 ∧ (owing (repeating .idle 0)).panel.lineOwed = true ∧
    (owing (repeating .idle 0)).panel.buttons.line = ⟨true, true⟩ ∧ (owing (repeating .idle 0)).paperFree = true := by
  decide +kernel

theorem test_lamps_witness : State.reset.regs.resetBusy = false ∧ State.reset.panel.buttons.lampTest.down = false ∧
    ((repeating .idle 1).panel.buttons.get .line).down = true ∧ ticking.panel.linger = some 5000 ∧
    ticking.panel.linger ≠ none := by decide +kernel

/-! ## Values written out from the manual -/

/-- R186: an advance is floor(300 / L) rows: 37 at L 8, 50 at L 6, 25 at L 12, 50 with no pitch mounted. -/
theorem test_advance_rows : ([some 8, some 6, some 12, none].map fun l =>
    EngineController.advanceRows { EngineController.initial with mountedPitch := l }) = [37, 50, 25, 50] := by decide

/-- R192 by hand: from all ones, a bit of 1 cancels the top bit and only shifts; a bit of 0 also brings in 0x1021. -/
theorem test_crc_bits : crcOf [true] = 0xFFFE ∧ crcOf [false] = 0xFFFE ^^^ 0x1021 := by decide

/-- A POLL numbered 1 on the line: preamble, start pair, kind 6, sequence 1, length 0, and 16 bits of CRC (R165,
R192). -/
theorem test_poll_line : ((TxFrame.mk 1 .poll).line.take 45).drop 16 =
      [false, true] ++ [false, true, true, false] ++ [true, false, false, false, false, false, false, false] ++
        List.replicate 15 false ∧ (TxFrame.mk 1 .poll).line.length = 61 := by decide +kernel

/-- The step at reset: the queue is empty, and one millisecond passes. -/
theorem test_idle : ∃ t, step State.reset = .next t ∧ t.now = 1 ∧ t.pending = [] := ⟨_, rfl, rfl, rfl⟩

/-- R8: triggers during a scan are merged into one owed scan. -/
theorem test_attention_merges : ∃ t u, exec (.attention (word 0)) (part true) = .next t ∧ t.sc.scan = .scanning ∧
    exec (.attention (word 0)) t = .next u ∧ u.sc.scan = .scanningOwed := ⟨_, _, rfl, by decide +kernel, rfl, by decide +kernel⟩

/-- R14: unmasking a bit already 1 asserts the line. -/
theorem test_unmask : ∃ t, exec (.eventMaskWrite (word 0x400)) ((part true).raise memfaultBit) = .next t ∧
    ((part true).raise memfaultBit).interrupt = false ∧ t.interrupt = true := ⟨_, rfl, by decide, by decide⟩

/-- R1: a byte of a register that the host does not write is taken as 0. -/
theorem test_lanes : (HostWrite.mk 0x12345678 5).word = 0x00340078 := by decide

/-- R192: a BAND of one row with density 3 in column 17 has it in bits 3 and 2 of word 1 of the row. -/
theorem test_band_words : (TxBody.band 0xFFFF 2 ⟨some 0, 64, 1, .band [(64 * 4096 + 17, 3)], ⟨true, false, true⟩,
      some ⟨1, 2, 3, 16⟩⟩).payload.take 4 = [0x0102FFFF, 0x05403081, 0, 12] := by decide +kernel

/-- R85: the top row of line n is the margin and floor(300 (n - 1) / L) rows. -/
theorem test_topRow : ([1, 2, 3].map (topRow 10 8)) = [10, 47, 85] := by decide

end Sys2Proof.Tests
end

section
/-! SUPPORT. The Register Window: what a write to each register does, said once, and the statements about power-on, the
device reset and AREA_BASE. -/

namespace Sys2Proof.Machine

/-! ## Request places (R153) -/

/-- A place reads back what was put there, and the others stay. -/
theorem place_setPlace (m : TransferUnit) (p : Place) (q r : Requester) :
    (m.setPlace p q).place r = if q = r then p else m.place r := by
  cases q <;> cases r <;> rfl

/-- A place is told by the four places alone. -/
theorem place_withTransfer (m : TransferUnit) (t : Option Transfer) (l : Option Nat) (q : Requester) :
    ({ m with inFlight := t, limit := l } : TransferUnit).place q = m.place q := by
  cases q <;> rfl

@[simp] theorem setPlace_keeps (m : TransferUnit) (p : Place) (q : Requester) :
    (m.setPlace p q).inFlight = m.inFlight ∧ (m.setPlace p q).limit = m.limit ∧
      (m.setPlace p q).pointer = m.pointer := by
  cases q <;> exact ⟨rfl, rfl, rfl⟩

@[simp] theorem place_initial (q : Requester) : TransferUnit.initial.place q = .empty := by
  cases q <;> rfl

/-! ## The writes of CONTROL (R2) -/

/-- Each of the five CONTROL rows writes the whole word. -/
theorem exec_controlWrite {w : HostWrite} {c : Instr} (h : isControlWrite w c) (s : State) :
    exec c s = .next (s.writeControl w.word) := by
  obtain rfl | rfl | rfl | rfl | rfl := h <;> rfl

theorem writeControl_busy {s : State} (h : s.regs.resetBusy = true) (v : Word32) : s.writeControl v = s := by
  rw [State.writeControl, if_pos h]

theorem writeControl_reset {s : State} {v : Word32} (h : s.regs.resetBusy = false) (hv : v.getLsbD 1 = true) :
    s.writeControl v = s.beginReset (intervalField v) := by
  rw [State.writeControl, if_neg (by simp [h]), if_pos hv]

theorem writeControl_plain {s : State} {v : Word32} (h : s.regs.resetBusy = false) (hv : v.getLsbD 1 = false) :
    s.writeControl v = State.settle s (s.plainControl v) := by
  rw [State.writeControl, if_neg (by simp [h]), if_neg (by rw [hv]; simp)]

/-- A CONTROL write with DEVICE_RESET begins a device reset (R15). -/
theorem exec_controlReset {w : HostWrite} {c : Instr} {s : State} (hc : isControlWrite w c)
    (h : s.regs.resetBusy = false) (hv : w.word.getLsbD 1 = true) :
    exec c s = .next (s.beginReset (intervalField w.word)) := by
  rw [exec_controlWrite hc, writeControl_reset h hv]

/-- Any other CONTROL write is followed by a settlement. -/
theorem exec_controlPlain {w : HostWrite} {c : Instr} {s : State} (hc : isControlWrite w c)
    (h : s.regs.resetBusy = false) (hv : w.word.getLsbD 1 = false) :
    exec c s = .next (State.settle s (s.plainControl w.word)) := by
  rw [exec_controlWrite hc, writeControl_plain h hv]

/-! ## Device reset (R15, R16) -/

@[simp] theorem beginReset_regs (s : State) (k : BitVec 8) : (s.beginReset k).regs = { s.regs with
    run := false
    resetBusy := true
    sweepInterval := k
    events := 0
    rstimg := s.regs.rstimg || s.anyBegun
    sweepTimer := none } := rfl

/-- With EVENTS clear the interrupt line is released (R14). -/
theorem interrupt_of_noEvents {s : State} (h : s.regs.events = 0) : s.interrupt = false := by
  simp [State.interrupt, h]

theorem stream_beginReset (s : State) (k : BitVec 8) (n : Fin 8) :
    (s.beginReset k).stream n = (s.stream n).deviceReset := by
  simp [State.stream, State.beginReset, State.resetBlocks]

/-- Every slot of a Page Store after power-on is FREE (R97). -/
theorem slot_initial {s : State} (h : s.store = PageStore.initial) (i : Fin 4) : s.slot i = Slot.free := by
  simp [State.slot, h, PageStore.initial]

theorem slot_begun_iff (sl : Slot) : sl.begun = true ↔
    sl.state = .imaging ∨ sl.state = .sent ∨ (sl.state = .composing ∧ 0 < sl.split) := by
  simp [Slot.begun]

theorem any_allSlots (p : Fin 4 → Bool) : allSlots.any p = true ↔ ∃ i, p i = true := by
  simp only [allSlots, List.any_eq_true]
  exact ⟨fun ⟨i, _, h⟩ => ⟨i, h⟩, fun ⟨i, h⟩ => ⟨i, by fin_cases i <;> simp, h⟩⟩

/-- Paper has been begun exactly when some slot has rows on the engine (R16). -/
theorem anyBegun_iff (s : State) : s.anyBegun = true ↔ ∃ i, (s.slot i).state = .imaging ∨ (s.slot i).state = .sent ∨
    ((s.slot i).state = .composing ∧ 0 < (s.slot i).split) := by
  simp only [State.anyBegun, any_allSlots, slot_begun_iff]

theorem place_deviceReset (m : TransferUnit) (q : Requester) (r : Request) : m.deviceReset.place q ≠ .pending r := by
  unfold TransferUnit.deviceReset
  split
  · rw [place_withTransfer, place_setPlace]
    split
    · exact Place.noConfusion
    · simp
  · simp

theorem inFlight_deviceReset {m : TransferUnit} {x : Transfer} (h : m.deviceReset.inFlight = some x) :
    x.wanted = false := by
  unfold TransferUnit.deviceReset at h
  split at h
  · obtain rfl := Option.some.inj h
    rfl
  · simp [TransferUnit.initial] at h

theorem pointer_deviceReset (m : TransferUnit) : m.deviceReset.pointer = .streamReader := by
  unfold TransferUnit.deviceReset
  split <;> simp [TransferUnit.initial]

/-- A device reset disarms every button and reads it anew (R183). -/
theorem buttons_deviceReset (p : PanelController) (b : Button) :
    (p.deviceReset.buttons.get b).armed = false ∧ (p.deviceReset.buttons.get b).down = (p.buttons.get b).down := by
  cases b <;> exact ⟨rfl, rfl⟩

/-- Settles O16. -/
theorem deviceResetStopsEveryBlock : Obligations.DeviceResetStopsEveryBlock := by
  refine ⟨anyBegun_iff, fun w s hb hw => ⟨_, exec_controlReset (.inr (.inr (.inl rfl))) hb hw, ?_⟩⟩
  have hs : ∀ n, (s.beginReset (intervalField w.word)).stream n = (s.stream n).deviceReset := stream_beginReset s _
  simp only [hs]
  refine ⟨rfl, rfl, rfl, rfl, rfl, rfl, rfl, rfl, interrupt_of_noEvents rfl, fun n => ?_, rfl, rfl, rfl, rfl, rfl,
    rfl, rfl, slot_initial rfl, rfl, rfl, rfl, rfl, rfl, place_deviceReset s.mtu, pointer_deviceReset s.mtu,
    fun x => inFlight_deviceReset, rfl, rfl, rfl, rfl, rfl, rfl, rfl, rfl, rfl, rfl, rfl, rfl, rfl, rfl, rfl, rfl,
    rfl, rfl, buttons_deviceReset s.panel, rfl, rfl, rfl, rfl, ?_, rfl⟩
  · simp [StreamRec.deviceReset]
  · simp [State.beginReset, State.sendHalt, State.sendPoll, State.send, State.resetBlocks, EngineController.initial]

/-! ## Power-on (R17) -/

/-- Settles O10. -/
theorem resetMeetsTheInvariants : Obligations.ResetMeetsTheInvariants := by
  have closed : ∀ n, (State.reset.stream n).state = .closed := by decide
  have free : ∀ i, State.reset.slot i = Slot.free := slot_initial rfl
  refine ⟨rfl, fun m n h => ?_, ⟨List.nodup_nil, by simp [State.reset, StreamController.initial], fun n h => ?_⟩,
    ⟨fun i => ?_, by decide, by decide, fun i line => ?_⟩, by decide, by decide, by decide⟩
  · simp [closed] at h
  · simp [closed] at h
  · rw [free]; exact fun _ => ⟨rfl, rfl⟩
  · simp [free, Slot.strikesOn, Slot.free]

/-- Settles O11. -/
theorem powerOnPutsEveryBlockInItsResetState : Obligations.PowerOnPutsEveryBlockInItsResetState := by
  refine fun s => ⟨s.powerUp, rfl, ⟨rfl, rfl, rfl, rfl, rfl, rfl, rfl, rfl⟩, fun n => ?_, rfl, rfl, rfl, rfl, rfl, rfl,
    rfl, rfl, rfl, rfl, rfl, rfl, rfl, rfl, rfl, slot_initial rfl, rfl, rfl, rfl, rfl, rfl, rfl, rfl, rfl, rfl, rfl, rfl,
    fun k => ?_, rfl, fun q => ?_, rfl, rfl, rfl, rfl, buttons_deviceReset s.panel, rfl, rfl, rfl, rfl, rfl, rfl, rfl,
    rfl, interrupt_of_noEvents rfl, rfl, rfl, rfl, rfl⟩
  · simp [State.stream, State.powerUp, State.reset, StreamController.initial, StreamRec.initial]
  · simp [State.powerUp, State.reset, GlyphCache.initial, CacheSet.empty, CacheEntry.empty]
  · cases q <;> rfl

/-- Settles O17. -/
theorem deviceResetEndsWhenTheBusIsFree : Obligations.DeviceResetEndsWhenTheBusIsFree := by
  refine fun s hb => ⟨fun w c hc => ?_, fun w hr => ?_, fun hf => ⟨_, rfl, ?_⟩, fun hf => ?_⟩
  · rw [exec_controlWrite hc, writeControl_busy hb]
  · simp [exec, execAttention, State.writeRegister, State.trigger, hr, State.settleBus, hb]
  · simp [hb, hf]
  · simp [exec, execDeviceResetDone, hf]

/-! ## AREA_BASE (R5) -/

theorem moveArea_area (s : State) (v : Word32) : (s.moveArea v).regs.areaBase = v ∧
    (s.moveArea v).regs.run = s.regs.run ∧ (s.moveArea v).regs.events = s.regs.events ∧
    ((s.moveArea v).hasArea = false → (s.moveArea v).regs.sweepTimer = none) ∧
    (s.moveArea v).sc = { s.sc with dirOwed := true, moved := decide (s.sc.phase = .directory) } := by
  unfold State.moveArea
  dsimp only
  split
  · rename_i h
    exact ⟨rfl, rfl, rfl, by simp [h], rfl⟩
  · exact ⟨rfl, rfl, rfl, fun _ => rfl, rfl⟩

/-- The part has an area exactly when AREA_BASE is a multiple of 4,096 other than 0 (R5). -/
theorem hasArea_iff (s : State) : s.hasArea = true ↔ s.regs.areaBase.toNat ≠ 0 ∧ s.regs.areaBase.toNat % 4096 = 0 := by
  have : s.regs.areaBase ≠ 0 ↔ s.regs.areaBase.toNat ≠ 0 := not_congr BitVec.toNat_inj.symm
  rw [State.hasArea, decide_eq_true_iff, this]

/-! ## What serving the bus leaves -/

/-- The Stream Reader's asking changes the two fields that say whose turn it is. -/
theorem askReader_sc (s : State) : ∃ a b, s.askReader.sc = { s.sc with lastWasScan := a, lastStream := b } := by
  unfold State.askReader
  dsimp only
  (repeat' split) <;> exact ⟨_, _, rfl⟩

theorem askNext_sc (s : State) (q : Requester) :
    ∃ a b, (s.askNext q).sc = { s.sc with lastWasScan := a, lastStream := b } := by
  unfold State.askNext
  split
  · cases q
    · exact askReader_sc s
    all_goals exact ⟨s.sc.lastWasScan, s.sc.lastStream, by simp⟩
  · exact ⟨_, _, rfl⟩

/-- Serving the bus changes no more of the Stream Controller than whose turn it is (R29). -/
theorem serveBus_sc (s : State) : ∃ a b, s.serveBus.sc = { s.sc with lastWasScan := a, lastStream := b } := by
  unfold State.serveBus
  obtain ⟨a, b, h1⟩ := askNext_sc s.arbitrate .streamReader
  obtain ⟨a2, b2, h2⟩ := askNext_sc (s.arbitrate.askNext .streamReader) .formLoader
  obtain ⟨a3, b3, h3⟩ := askNext_sc ((s.arbitrate.askNext .streamReader).askNext .formLoader) .glyphFiller
  obtain ⟨a4, b4, h4⟩ :=
    askNext_sc (((s.arbitrate.askNext .streamReader).askNext .formLoader).askNext .glyphFiller) .statusWriter
  exact ⟨a4, b4, by simp [h4, h3, h2, h1]⟩

theorem settleBus_sc (s : State) : ∃ a b, s.settleBus.sc = { s.sc with lastWasScan := a, lastStream := b } := by
  unfold State.settleBus
  split
  · exact ⟨_, _, rfl⟩
  · exact serveBus_sc s

theorem issue_inFlight (s : State) (q : Requester) (r : Request) : (s.issue q r).mtu.inFlight = s.mtu.inFlight := by
  simp [State.issue]

/-- Asking for a transfer leaves the bus as it is. -/
@[simp] theorem askNext_inFlight (s : State) (q : Requester) : (s.askNext q).mtu.inFlight = s.mtu.inFlight := by
  unfold State.askNext
  split
  · cases q
    · simp only [State.askReader]; (repeat' split) <;> simp [issue_inFlight]
    · simp only [State.askLoader]; (repeat' split) <;> simp [issue_inFlight]
    · simp only [State.askFiller]; (repeat' split) <;> simp [issue_inFlight]
    · simp only [State.askWriter]; (repeat' split) <;> simp [issue_inFlight]
  · rfl

theorem arbitrate_busy {s : State} (h : s.mtu.inFlight ≠ none) : s.arbitrate = s := by
  rw [State.arbitrate, if_pos (Option.isSome_iff_ne_none.mpr h)]

/-- No transfer on the bus is disturbed by what is asked for (R155). -/
theorem serveBus_inFlight {s : State} {x : Transfer} (h : s.mtu.inFlight = some x) :
    s.serveBus.mtu.inFlight = some x := by
  have hs : s.arbitrate = s := arbitrate_busy (by simp [h])
  unfold State.serveBus
  rw [hs, arbitrate_busy (by simp [h])]
  simp [h]

theorem settleBus_inFlight {s : State} {x : Transfer} (h : s.mtu.inFlight = some x) :
    s.settleBus.mtu.inFlight = some x := by
  unfold State.settleBus
  split
  · exact h
  · exact serveBus_inFlight h

/-- An AREA_BASE write with another value is taken while RUN is 0 (R5). -/
theorem exec_areaBaseWrite_taken {w : HostWrite} {s : State} (hr : s.regs.run = false)
    (hv : w.word ≠ s.regs.areaBase) : exec (.areaBaseWrite w) s = .next (s.moveArea w.word).settleBus := by
  have : ¬(s.regs.run = true ∨ s.regs.areaBase = w.word) := by simp [hr, hv.symm]
  change Host.Outcome.next (s.writeArea w.word) = _
  rw [State.writeArea, if_neg this]

/-- Settles O22. -/
theorem areaBaseIsTakenWhileRunIsZero : Obligations.AreaBaseIsTakenWhileRunIsZero := by
  refine ⟨fun w s hr hv => ⟨_, exec_areaBaseWrite_taken hr hv, ?_⟩, fun w s h => ?_, fun w s offset ho => ?_⟩
  · obtain ⟨hbase, hrun, hevents, htimer, hsc⟩ := moveArea_area s w.word
    obtain ⟨a, b, hc⟩ := settleBus_sc (s.moveArea w.word)
    have harea : (s.moveArea w.word).settleBus.hasArea = (s.moveArea w.word).hasArea := by simp [State.hasArea]
    simp only [harea, hc, hsc, State.settleBus_keeps, State.moveArea_keeps, decide_eq_true_eq, true_and]
    refine ⟨hbase, ?_, htimer, hrun.trans hr, hevents, fun x hx => settleBus_inFlight (by simpa using hx)⟩
    simp [State.readRegister, hbase]
  · have h' : s.regs.run = true ∨ s.regs.areaBase = w.word := h.imp id Eq.symm
    change Host.Outcome.next (s.writeArea w.word) = _
    rw [State.writeArea, if_pos h']
  · simp only [List.mem_cons, List.not_mem_nil, or_false, not_or] at ho
    simp [exec, execRegisterWriteIgnored, State.writeRegister, ho]

end Sys2Proof.Machine
end

section
/-! SUPPORT. What no block of the part disturbs: the host's settings, the events already raised, the buttons. -/

namespace Sys2Proof.Machine

/-! ## The relation -/

/-- EVENTS of `b` follow from those of `a` by raises: none is cleared, and during a device reset none is raised. -/
structure RegisterWindow.Raises (a b : RegisterWindow) : Prop where
  resetBusy : b.resetBusy = a.resetBusy
  events : ∀ k : Nat, a.events.getLsbD k = true → b.events.getLsbD k = true
  stopped : a.resetBusy = true → b.events = a.events

theorem RegisterWindow.Raises.of_eq {a b : RegisterWindow} (h : b.resetBusy = a.resetBusy) (k : b.events = a.events) :
    a.Raises b :=
  ⟨h, fun _ hk => by rw [k]; exact hk, fun _ => k⟩

theorem RegisterWindow.Raises.trans {a b c : RegisterWindow} (h : a.Raises b) (k : b.Raises c) : a.Raises c :=
  ⟨k.resetBusy.trans h.resetBusy, fun i hi => k.events i (h.events i hi),
    fun hb => (k.stopped (h.resetBusy.trans hb)).trans (h.stopped hb)⟩

/-- What a block leaves as the host and the operator made it: the settings, the events raised before, the buttons. -/
structure State.Undisturbed (s t : State) : Prop where
  setting : t.regs.SameSetting s.regs
  raises : s.regs.Raises t.regs
  buttons : t.panel.buttons = s.panel.buttons

namespace State.Undisturbed

theorem of_regs {s t : State} (h : t.regs = s.regs) (k : t.panel.buttons = s.panel.buttons) : s.Undisturbed t :=
  ⟨h ▸ .refl _, .of_eq (by rw [h]) (by rw [h]), k⟩

theorem of_eq {s t : State} (h : t.regs = s.regs) (k : t.panel = s.panel) : s.Undisturbed t :=
  of_regs h (by rw [k])

theorem refl (s : State) : s.Undisturbed s := .of_eq rfl rfl

theorem trans {s t u : State} (h : s.Undisturbed t) (k : t.Undisturbed u) : s.Undisturbed u :=
  ⟨k.setting.trans h.setting, h.raises.trans k.raises, k.buttons.trans h.buttons⟩

/-- Updates outside the registers and the panel do not matter. -/
theorem right {s t u : State} (h : s.Undisturbed t) (e : u.regs = t.regs) (k : u.panel.buttons = t.panel.buttons) :
    s.Undisturbed u :=
  h.trans (.of_regs e k)

theorem left {s t u : State} (h : t.Undisturbed u) (e : t.regs = s.regs) (k : t.panel.buttons = s.panel.buttons) :
    s.Undisturbed u :=
  trans (of_regs e k) h

end State.Undisturbed

/-! ## The operations that raise an event or touch the panel -/

theorem raise_undisturbed (s : State) (b : BitVec 11) : s.Undisturbed (s.raise b) := by
  obtain ⟨h1, h2, h3, h4, h5, h6, -⟩ := State.raise_setting s b
  refine ⟨⟨h1, h2, h3, h4, h5, h6⟩, ⟨h2, fun k hk => ?_, fun hb => ?_⟩, by simp⟩
  · unfold State.raise
    split
    · exact hk
    · simp [hk]
  · simp [State.raise, hb]

theorem enterHeld_undisturbed (s : State) (r : HoldReason) : s.Undisturbed (s.enterHeld r) := by
  unfold State.enterHeld
  dsimp only
  split
  · exact .of_eq rfl rfl
  · exact .left (raise_undisturbed _ _) rfl rfl

theorem moveGate_undisturbed (s : State) : s.Undisturbed s.moveGate := by
  unfold State.moveGate
  dsimp only
  split
  · exact .left (raise_undisturbed _ _) rfl rfl
  · exact .of_eq rfl rfl

theorem enterGate_undisturbed (s : State) : s.Undisturbed s.enterGate := by
  unfold State.enterGate
  split
  · exact moveGate_undisturbed s
  · exact enterHeld_undisturbed s _

theorem holdAtBoundary_undisturbed (s : State) : s.Undisturbed s.holdAtBoundary := by
  rcases holdAtBoundary_cases s with h | ⟨-, -, ⟨-, h⟩ | ⟨-, h⟩⟩ <;> rw [h]
  · exact .refl s
  · exact enterHeld_undisturbed s _
  · exact enterHeld_undisturbed s _

theorem lookAtGate_undisturbed (s : State) : s.Undisturbed s.lookAtGate := by
  unfold State.lookAtGate
  split
  · exact .refl s
  · split
    · exact moveGate_undisturbed s
    · exact enterGate_undisturbed s

theorem takeJam_undisturbed (s : State) : s.Undisturbed s.takeJam := by
  unfold State.takeJam
  dsimp only
  exact State.Undisturbed.left (t := { s with engine := { s.engine with state := .jammed } })
    ((raise_undisturbed _ operatorBit).right (by simp) (by simp)) rfl rfl

theorem enterOffline_undisturbed (s : State) : s.Undisturbed s.enterOffline := by
  unfold State.enterOffline
  dsimp only
  exact State.Undisturbed.left (t := { s with engine := { s.engine with state := .offline } })
    ((raise_undisturbed _ offlineBit).right (by simp) (by simp)) rfl rfl

theorem linger_buttons (s : State) : s.linger.panel.buttons = s.panel.buttons := rfl

theorem resend_undisturbed (s : State) (o : SentMsg) (m : Message) : s.Undisturbed (s.resend o m) := by
  refine .of_regs (by simp) ?_
  unfold State.resend
  dsimp only
  split
  · rw [linger_buttons]; simp
  · simp

theorem resendSlews_undisturbed (k : Nat) (s : State) : s.Undisturbed (s.resendSlews k) := by
  induction k generalizing s with
  | zero => exact .refl s
  | succ k ih =>
    simp only [State.resendSlews]
    split
    · split
      · exact (resend_undisturbed s _ _).trans (ih _)
      · exact .refl s
    · exact .refl s

theorem takeRebuilt_undisturbed (s : State) (r : RebuiltOffer) : s.Undisturbed (s.takeRebuilt r) := by
  unfold State.takeRebuilt
  dsimp only
  split
  · exact (resend_undisturbed s _ _).right rfl rfl
  · exact .of_eq rfl rfl

theorem takeMessage_undisturbed (s : State) (m : Message) (i : Fin 4) (rest : List Message) :
    s.Undisturbed (s.takeMessage m i rest) := by
  refine .of_regs (by simp) ?_
  simp [State.takeMessage, linger_buttons]

theorem handOver_undisturbed (s : State) : s.Undisturbed s.handOver := by
  unfold State.handOver
  (repeat' split)
  all_goals first
    | exact .refl s
    | exact takeRebuilt_undisturbed s _
    | exact takeMessage_undisturbed s _ _ _

theorem lineAdvance_undisturbed (s : State) : s.Undisturbed s.lineAdvance := by
  unfold State.lineAdvance
  (repeat' split)
  · exact .refl s
  · exact .of_eq (by simp) (by simp)
  · exact .of_regs rfl rfl

theorem owedAdvance_undisturbed (s : State) : s.Undisturbed s.owedAdvance := by
  unfold State.owedAdvance
  dsimp only
  (repeat' split)
  · exact .of_regs (by simp) (by simp)
  · exact .of_regs rfl rfl
  · exact .refl s

theorem takeRefusal_undisturbed (s : State) (q : BitVec 16) : s.Undisturbed (s.takeRefusal q) := by
  unfold State.takeRefusal
  dsimp only
  (repeat' split)
  · exact .of_eq rfl rfl
  · exact .left (t := { s with counts := { s.counts with refusals := satAdd s.counts.refusals 1 } })
      ((takeJam_undisturbed _).right (by simp) (by simp)) rfl rfl
  · exact .of_eq (by simp) (by simp)
  · exact .of_eq (by simp) (by simp)
  · exact .of_eq (by simp) (by simp)

theorem statusJam_undisturbed (s : State) (c : Condition) : s.Undisturbed (s.statusJam c) := by
  unfold State.statusJam
  split
  · exact takeJam_undisturbed s
  · exact .refl s

theorem statusNotReady_undisturbed (s : State) (c : Condition) : s.Undisturbed (s.statusNotReady c) := by
  unfold State.statusNotReady
  split
  · exact enterHeld_undisturbed s _
  · exact .refl s

theorem lostRefusal_undisturbed (s : State) (a : Bool) : s.Undisturbed (s.lostRefusal a) := by
  unfold State.lostRefusal
  split
  · split
    · exact takeRefusal_undisturbed s _
    · exact .refl s
  · exact .refl s

theorem engineReturn_undisturbed (s : State) (c : Condition) : s.Undisturbed (s.engineReturn c) := by
  have h : s.Undisturbed (((s.takeCondition c).enterHeld .returned).raise offlineBit) :=
    ((enterHeld_undisturbed (s.takeCondition c) .returned).left (by simp) (by simp)).trans (raise_undisturbed _ _)
  exact h.right rfl rfl

theorem takeStatus_undisturbed (s : State) (c : Condition) : s.Undisturbed (s.takeStatus c) := by
  unfold State.takeStatus
  dsimp only
  have h1 : s.Undisturbed s.answerPoll := .of_eq (by simp) (by simp)
  (repeat' split)
  · exact h1.trans (engineReturn_undisturbed _ c)
  · exact .refl s
  · have h2 : s.answerPoll.Undisturbed ((s.answerPoll.takeCondition c).takeAcceptance c.lastAccepted) :=
      .of_eq (by simp) (by simp)
    have h3 := (h1.trans h2).trans ((statusJam_undisturbed _ c).trans (statusNotReady_undisturbed _ c))
    have h4 := h3.trans (.left (lostRefusal_undisturbed _ s.engine.answerTimer.isSome) (State.statusExit_keeps _ c).1 (by simp))
    exact h4.trans (.left (owedAdvance_undisturbed _) (State.statusHalt_keeps _ c).1 (by simp))

theorem receive_undisturbed (s : State) (f : RxFrame) : s.Undisturbed (s.receive f) := by
  have h1 : s.Undisturbed (s.takeSequence f.seq) := .of_eq (by simp) (by simp)
  unfold State.receive
  dsimp only
  (repeat' split)
  · exact .refl s
  · exact .of_eq (by simp) (by simp)
  · exact h1.trans (takeStatus_undisturbed _ _)
  · exact h1
  · exact h1.right (by simp) (by simp)
  · exact h1.trans (takeRefusal_undisturbed _ _)

theorem mountHead_undisturbed (s : State) : s.Undisturbed s.mountHead := by
  unfold State.mountHead
  split
  · exact .left (enterGate_undisturbed _) rfl rfl
  · exact .refl s

theorem pressStart_undisturbed (s : State) : s.Undisturbed s.pressStart := by
  unfold State.pressStart
  (repeat' split)
  all_goals first
    | exact .refl s
    | exact enterGate_undisturbed s
    | exact mountHead_undisturbed s

theorem pressLine_undisturbed (s : State) : s.Undisturbed s.pressLine := by
  unfold State.pressLine
  split
  · exact (lineAdvance_undisturbed s).right rfl rfl
  · exact .refl s

theorem repeatLine_undisturbed (s : State) : s.Undisturbed s.repeatLine := by
  unfold State.repeatLine
  split
  · exact (lineAdvance_undisturbed s).right rfl rfl
  · exact .of_regs rfl rfl

theorem missPoll_undisturbed (s : State) : s.Undisturbed s.missPoll := by
  unfold State.missPoll
  dsimp only
  split
  · exact .left (enterOffline_undisturbed _) rfl rfl
  · exact .of_eq rfl rfl

theorem elapse_undisturbed (s : State) (d : Nat) : s.Undisturbed (s.elapse d) :=
  ⟨⟨rfl, rfl, rfl, rfl, rfl, rfl⟩, .of_eq rfl rfl, rfl⟩

/-! ## The operations of a scan, which touch the sweep timer -/

/-- The sweep timer is no setting of the host. -/
theorem sweepTimer_undisturbed (s : State) (t : Option Nat) :
    s.Undisturbed { s with regs := { s.regs with sweepTimer := t } } :=
  ⟨⟨rfl, rfl, rfl, rfl, rfl, rfl⟩, .of_eq rfl rfl, rfl⟩

theorem beginScan_undisturbed (s : State) : s.Undisturbed s.beginScan :=
  (sweepTimer_undisturbed s none).right rfl rfl

theorem trigger_undisturbed (s : State) : s.Undisturbed s.trigger := by
  unfold State.trigger
  (repeat' split)
  · exact beginScan_undisturbed s
  · exact .of_eq rfl rfl
  · exact .refl s
  · exact .refl s

theorem finishScan_undisturbed (s : State) : s.Undisturbed s.finishScan := by
  unfold State.finishScan
  dsimp only
  split
  · exact .left (beginScan_undisturbed _) rfl rfl
  · exact .left (sweepTimer_undisturbed _ _) rfl rfl

theorem endScan_undisturbed (s : State) : s.Undisturbed s.endScan := by
  unfold State.endScan
  dsimp only
  split
  · exact .left (finishScan_undisturbed _) rfl rfl
  · exact finishScan_undisturbed s

theorem scanTail_undisturbed (s : State) : s.Undisturbed s.scanTail := by
  unfold State.scanTail
  split
  · exact .of_eq rfl rfl
  · exact endScan_undisturbed s

theorem scanAfter_undisturbed (s : State) (n : Fin 8) : s.Undisturbed (s.scanAfter n) := by
  unfold State.scanAfter
  (repeat' split)
  · exact finishScan_undisturbed s
  · exact .of_eq rfl rfl
  · exact scanTail_undisturbed s
  · exact scanTail_undisturbed s

theorem takeHeader_undisturbed (s : State) (b : List Byte) : s.Undisturbed (s.takeHeader b) := by
  have h : s.Undisturbed (s.storeHeader b) := .of_regs rfl rfl
  unfold State.takeHeader State.afterHeader
  split
  · exact h.trans (finishScan_undisturbed _)
  · exact h.right rfl rfl

theorem takeFields_undisturbed (s : State) (n : Fin 8) (x : Taken) : s.Undisturbed (s.takeFields n x) :=
  .of_eq (by simp) (by simp)

theorem takeDescriptor_undisturbed (s : State) (n : Fin 8) (b : List Byte) :
    s.Undisturbed (s.takeDescriptor n b) := by
  unfold State.takeDescriptor
  dsimp only
  (repeat' split)
  · exact .of_eq rfl rfl
  · exact (takeFields_undisturbed s n _).trans (scanAfter_undisturbed _ n)
  · exact .of_eq rfl rfl
  · exact .of_eq rfl rfl

theorem actionEnds_undisturbed (s : State) : s.Undisturbed s.actionEnds := by
  unfold State.actionEnds
  split
  · exact (takeFields_undisturbed s _ _).trans (scanAfter_undisturbed _ _)
  · exact .refl s

theorem takeDirectory_undisturbed (s : State) (b : List Byte) : s.Undisturbed (s.takeDirectory b) := by
  unfold State.takeDirectory
  exact .left (endScan_undisturbed _) rfl rfl

theorem descriptorWritten_undisturbed (s : State) (n : Fin 8) : s.Undisturbed (s.descriptorWritten n) := by
  have hw : s.Undisturbed s.endWrite := .of_eq rfl rfl
  unfold State.descriptorWritten
  dsimp only
  split
  · exact .refl s
  · rename_i o _
    have he : s.Undisturbed (if o.event then s.endWrite.raise (streamBit n) else s.endWrite) := by
      split
      · exact hw.trans (raise_undisturbed _ _)
      · exact hw
    split
    · exact he.right rfl rfl
    · exact he

theorem requestFieldWritten_undisturbed (s : State) (n : Fin 8) (c : Bool) :
    s.Undisturbed (s.requestFieldWritten n c) := by
  have hw : s.Undisturbed s.endWrite := .of_eq rfl rfl
  unfold State.requestFieldWritten
  exact (hw.trans (raise_undisturbed _ (streamBit n))).trans ((actionEnds_undisturbed _).left rfl rfl)

/-- No requester's action on a failure disturbs them (R158). -/
theorem failureOf_undisturbed (k : TransferKind) (s : State) : s.Undisturbed (failureOf k s) := by
  have hm : s.Undisturbed (s.raise memfaultBit) := raise_undisturbed s _
  cases k with
  | areaHeader => exact hm.trans (finishScan_undisturbed _)
  | descriptor n => exact hm.trans (scanAfter_undisturbed _ n)
  | openRead n => exact hm.trans (scanAfter_undisturbed _ n)
  | ring n => exact .of_eq rfl rfl
  | discardRing n => exact .of_eq (by simp [failureOf]) (by simp [failureOf])
  | fontDirectory => exact hm.trans (endScan_undisturbed _)
  | formRecord => exact .of_eq (by simp [failureOf]) (by simp [failureOf])
  | vft => exact .of_eq (by simp [failureOf]) (by simp [failureOf])
  | translate => exact .of_eq (by simp [failureOf]) (by simp [failureOf])
  | subBlock => exact .of_eq (by simp [failureOf]) (by simp [failureOf])
  | flushDirectory => exact hm.right rfl rfl
  | descriptorWrite n => exact hm.trans (descriptorWritten_undisturbed _ n)
  | requestField n => exact hm.trans (requestFieldWritten_undisturbed _ n true)
  | deviceRecord => exact hm.right rfl rfl
  | deviceRecordHigh => exact hm.right rfl rfl

/-! ## Transfers that end, and what follows a command -/

theorem completed_undisturbed (s : State) (p : TransferKind → Bool) (data : List Byte)
    {act : TransferKind → State → State} (h : ∀ k u, State.Undisturbed u (act k u)) :
    s.Undisturbed (s.completed p data act) := by
  rcases completed_cases s p data act with e | ⟨x, -, -, -, u, hu, ⟨-, -, e⟩ | ⟨-, e⟩⟩ <;> rw [e]
  · exact .refl s
  all_goals have hs : s.Undisturbed u := hu ▸ .of_eq (by simp) (by simp)
  · exact hs.trans (h _ u)
  · exact hs

theorem failed_undisturbed (s : State) {act : TransferKind → State → State}
    (h : ∀ k u, State.Undisturbed u (act k u)) : s.Undisturbed (s.failed act) := by
  rcases failed_cases s act with ⟨-, e⟩ | ⟨x, -, u, hu, ⟨-, e⟩ | ⟨-, -, e⟩ | ⟨-, -, e⟩⟩ <;> rw [e]
  · exact .refl s
  all_goals have hs : s.Undisturbed u := hu ▸ .of_eq (by simp) (by simp)
  · exact hs
  · exact (hs.right (t := u) (u := u.countFailure x) (by simp) (by simp)).trans (h _ _)
  · exact hs.right (by simp) (by simp)

theorem settle_undisturbed (old s : State) : s.Undisturbed (State.settle old s) := by
  unfold State.settle
  split
  · exact .refl s
  · have h1 : s.Undisturbed s.settleImaging.settleComposer := .of_eq (by simp) (by simp)
    have h2 : s.settleImaging.settleComposer.Undisturbed s.settleImaging.settleComposer.settleEngine :=
      ((holdAtBoundary_undisturbed _).trans (lookAtGate_undisturbed _)).trans (resendSlews_undisturbed _ _)
    exact (h1.trans h2).right (by simp) (by simp)

theorem State.Undisturbed.settle {s t : State} (h : s.Undisturbed t) (old : State) :
    s.Undisturbed (State.settle old t) :=
  h.trans (settle_undisturbed old t)

theorem State.Undisturbed.answered {s t : State} (h : s.Undisturbed t) (late : Bool) :
    s.Undisturbed (s.answered late t) := by
  cases late
  · exact h.settle s
  · exact .refl s

theorem press_follows (s : State) (b : Button) {act : State → State} (h : ∀ u : State, u.Undisturbed (act u)) :
    (s.press b act).regs.SameSetting s.regs ∧ s.regs.Raises (s.press b act).regs := by
  rcases press_cases s b act with ⟨-, e⟩ | ⟨-, -, e⟩ | ⟨-, -, e⟩ <;> rw [e]
  · exact ⟨.refl _, .of_eq rfl rfl⟩
  · exact ⟨.refl _, .of_eq rfl rfl⟩
  · exact ⟨(h (s.setButton b ⟨true, true⟩)).setting, (h (s.setButton b ⟨true, true⟩)).raises⟩

theorem settleBus_undisturbed (s : State) : s.Undisturbed s.settleBus := .of_eq (by simp) (by simp)

/-! ## The commands -/

/-- Every command but the register commands and the panel's presses and releases leaves the settings, the events raised
and the buttons as they were. -/
theorem exec_undisturbed {c : Instr} {s t : State} (hr : isRegisterCommand c = false)
    (hb : isButtonCommand c = false) (h : exec c s = .next t) : s.Undisturbed t := by
  have bus : ∀ (late : Bool) {p : TransferKind → Bool} {data : List Byte} {act : TransferKind → State → State},
      (∀ k u, State.Undisturbed u (act k u)) → s.Undisturbed (s.answered late (s.completed p data act)) :=
    fun late p data act k => (completed_undisturbed s p data k).answered late
  have quiet : ∀ {u : State}, u.regs = s.regs → u.panel = s.panel → s.Undisturbed (State.settle s u) :=
    fun e k => (State.Undisturbed.of_eq e k).settle s
  have request : ∀ (k : RequestCode) (act : Fin 8 → Taken → State),
      (∀ n x, (act n x).regs = s.regs ∧ (act n x).panel = s.panel) →
      s.Undisturbed (State.settle s (s.onRequest k act)) := by
    intro k act ha
    rcases onRequest_cases s k act with e | ⟨n, x, _, _, _, _, e⟩ <;> rw [e]
    · exact settle_undisturbed s s
    · exact quiet (ha n x).1 (ha n x).2
  have record : ∀ (k : RecordKind) (act : Fin 8 → RecordHeader → State),
      (∀ n x, (act n x).regs = s.regs ∧ (act n x).panel = s.panel) →
      s.Undisturbed (State.settle s (s.takeRecord k act)) := by
    intro k act ha
    rcases takeRecord_cases s k act with e | ⟨n, _, _, _, ⟨_, _, _, e⟩ | ⟨x, _, _, e⟩⟩ <;> rw [e]
    · exact settle_undisturbed s s
    · exact quiet (by simp) (by simp)
    · exact quiet (ha n x).1 (ha n x).2
  cases c with
  | powerOn | runSet w | runClear w | deviceReset w | glyphFlush w | sweepInterval w | attention w | eventsWrite w
  | eventMaskWrite w | areaBaseWrite w | registerWriteIgnored k w | deviceResetDone => cases hr
  | startButton | stopButton | topOfForm | lineButton | lampTest | buttonRelease b => cases hb
  | sweepTimerExpiry =>
    simp only [exec, execSweepTimerExpiry] at h
    split at h <;> cases h
    · exact (elapse_undisturbed s _).trans
        (((sweepTimer_undisturbed _ none).trans (trigger_undisturbed _)).trans (settleBus_undisturbed _))
    · exact .refl s
  | areaHeaderRead data late => cases h; exact bus late fun _ u => takeHeader_undisturbed u data
  | descriptorRead data late =>
    cases h
    refine bus late fun k u => ?_
    unfold State.takeDescriptorRead
    split
    · exact takeDescriptor_undisturbed u _ data
    · exact .of_eq (by simp) (by simp)
    · exact .refl u
  | openRequest =>
    simp only [exec, execOpen] at h
    repeat' split at h
    all_goals cases h
    · exact quiet (by simp) (by simp)
    · exact .refl s
    · exact .refl s
  | closeRequest => cases h; exact request .close _ fun n x => by simp
  | cancelRequest => cases h; exact request .cancel _ fun n x => by simp
  | rushRequest => cases h; exact request .rush _ fun n x => by simp
  | resetRequest => cases h; exact request .reset _ fun n x => by simp
  | badRequest => cases h; exact request .unknown _ fun n x => by simp
  | fontDirectoryRead data late => cases h; exact bus late fun _ u => takeDirectory_undisturbed u data
  | ringRead data late =>
    cases h
    refine bus late fun k u => ?_
    unfold State.takeRingRead
    split <;> exact .of_eq (by simp) (by simp)
  | lineRecord => cases h; exact record .line _ fun n x => by simp
  | jobRecord => cases h; exact record .job _ fun n x => by simp
  | endRecord => cases h; exact record .endJob _ fun n x => by simp
  | markRecord => cases h; exact record .mark _ fun n x => by simp
  | wrapRecord => cases h; exact record .wrap _ fun n x => by simp
  | discardRecord => cases h; exact quiet (by simp) (by simp)
  | formTransfer data late => cases h; exact bus late fun _ u => .of_eq (by simp) (by simp)
  | flushTimerExpiry =>
    simp only [exec, execFlushTimerExpiry] at h
    split at h <;> cases h
    · exact ((elapse_undisturbed s _).right (State.flushExpired_keeps _).1 (by simp)).settle s
    · exact .refl s
  | descriptorWrite late =>
    cases h
    refine bus late fun k u => ?_
    unfold State.takeDescriptorWrite
    split
    · exact descriptorWritten_undisturbed u _
    · exact .refl u
  | requestFieldWrite late =>
    cases h
    refine bus late fun k u => ?_
    unfold State.takeRequestField
    split
    · exact requestFieldWritten_undisturbed u _ false
    · exact .refl u
  | deviceRecordWrite late => cases h; exact bus late fun _ u => .of_eq (by simp) (by simp)
  | busError late => cases h; exact (failed_undisturbed s failureOf_undisturbed).answered late
  | limitTimerExpiry =>
    simp only [exec, execLimitTimerExpiry] at h
    split at h <;> cases h
    · exact ((elapse_undisturbed s _).trans (failed_undisturbed _ failureOf_undisturbed)).settle s
    · exact .refl s
  | bandBegin =>
    simp only [exec, execBandBegin] at h
    split at h <;> cases h
    · exact quiet (by simp) (by simp)
    · exact .refl s
  | subBlockRead data late => cases h; exact bus late fun _ u => .of_eq (by simp) (by simp)
  | flushDirectoryRead data late => cases h; exact bus late fun _ u => .of_eq (by simp) (by simp)
  | messageHandover =>
    simp only [exec, execMessageHandover] at h
    split at h <;> cases h
    · exact .refl s
    · exact (handOver_undisturbed s).settle s
  | pollTimerExpiry =>
    simp only [exec, execPollTimerExpiry] at h
    repeat' split at h
    all_goals cases h
    · exact .refl s
    · exact (elapse_undisturbed s _).right (State.sendPoll_keeps _).1 rfl
    · exact .refl s
  | answerTimerExpiry =>
    simp only [exec, execAnswerTimerExpiry] at h
    repeat' split at h
    all_goals cases h
    · exact .refl s
    · exact ((elapse_undisturbed s _).trans (missPoll_undisturbed _)).settle s
    · exact .refl s
  | status f | exitFrame f | refusedFrame f | badFrame f => cases h; exact (receive_undisturbed s f).settle s
  | repeatTimerExpiry =>
    simp only [exec, execRepeatTimerExpiry] at h
    split at h <;> cases h
    · exact (elapse_undisturbed s _).trans (repeatLine_undisturbed _)
    · exact .refl s
  | lingerTimerExpiry =>
    simp only [exec, execLingerTimerExpiry] at h
    split at h <;> cases h
    · exact (elapse_undisturbed s _).right rfl rfl
    · exact .refl s
  | blinkHalf => cases h; exact (elapse_undisturbed s _).right rfl rfl

/-- A press or a release touches the buttons, and leaves the settings and the events raised. -/
theorem exec_press_regs {c : Instr} {s t : State} (hr : isRegisterCommand c = false) (hb : isButtonCommand c = true)
    (h : exec c s = .next t) : t.regs.SameSetting s.regs ∧ s.regs.Raises t.regs := by
  have settled : ∀ {u : State}, u.regs.SameSetting s.regs ∧ s.regs.Raises u.regs →
      (State.settle s u).regs.SameSetting s.regs ∧ s.regs.Raises (State.settle s u).regs :=
    fun {u} k => ⟨(settle_undisturbed s u).setting.trans k.1, k.2.trans (settle_undisturbed s u).raises⟩
  cases c with
  | startButton => cases h; exact settled (press_follows s .start pressStart_undisturbed)
  | stopButton => cases h; exact settled (press_follows s .stop fun u => .of_eq (by simp) (by simp))
  | topOfForm => cases h; exact press_follows s .topOfForm fun u => .of_eq (by simp) (by simp)
  | lineButton => cases h; exact press_follows s .line pressLine_undisturbed
  | lampTest => cases h; exact press_follows s .lampTest .refl
  | buttonRelease b =>
    cases h
    split
    · exact ⟨by simpa using .refl _, .of_eq (by simp) (by simp)⟩
    · exact ⟨.refl _, .of_eq rfl rfl⟩
  | _ => simp [isRegisterCommand, isButtonCommand] at hr hb

/-- What a command that is no register command leaves of the registers. -/
theorem exec_regs {c : Instr} {s t : State} (hr : isRegisterCommand c = false) (h : exec c s = .next t) :
    t.regs.SameSetting s.regs ∧ s.regs.Raises t.regs := by
  cases hb : isButtonCommand c
  · have k := exec_undisturbed hr hb h
    exact ⟨k.setting, k.raises⟩
  · exact exec_press_regs hr hb h

/-- A register write that is no CONTROL write touches no button. -/
theorem exec_register_buttons {c : Instr} {s t : State} (hr : isRegisterCommand c = true)
    (hb : isButtonCommand c = false) (h : exec c s = .next t) : t.panel.buttons = s.panel.buttons := by
  cases c with
  | attention w | areaBaseWrite w => cases h; simp [State.writeRegister]
  | eventsWrite w | eventMaskWrite w => cases h; rfl
  | deviceResetDone => cases h; split <;> rfl
  | _ => simp [isRegisterCommand, isButtonCommand] at hr hb

/-- Settles O3. -/
theorem onlyTheirCommandsChangeSettingsAndButtons : Obligations.OnlyTheirCommandsChangeSettingsAndButtons := by
  refine fun c s t h => ⟨fun hr => ?_, fun hb => ?_⟩
  · obtain ⟨k, -⟩ := exec_regs hr h
    exact ⟨k.run, k.resetBusy, k.sweepInterval, k.eventMask, k.areaBase, k.rstimg⟩
  · cases hr : isRegisterCommand c
    · exact (exec_undisturbed hr hb h).buttons
    · exact exec_register_buttons hr hb h

end Sys2Proof.Machine
end

section
/-! SUPPORT. RUN and the plain CONTROL write, field by field, and the statements about EVENTS, the interrupt line and
RSTIMG. -/

namespace Sys2Proof.Machine

/-! ## RUN (R3, R4) -/

/-- RUN 1 cancels an owed HOST_PAUSE (R4). -/
def State.dropPause (s : State) : State :=
  if s.engine.holdOwed = .hostPause then { s with engine := { s.engine with holdOwed := .none } } else s

theorem engineRun_eq (s : State) :
    s.engineRun = if s.dropPause.engine.state = .held .hostPause then s.dropPause.enterGate else s.dropPause := rfl

theorem dropPause_undisturbed (s : State) : s.Undisturbed s.dropPause := by
  unfold State.dropPause
  split
  · exact .of_eq rfl rfl
  · exact .refl s

theorem engineRun_undisturbed (s : State) : s.Undisturbed s.engineRun := by
  rw [engineRun_eq]
  split
  · exact (dropPause_undisturbed s).trans (enterGate_undisturbed _)
  · exact dropPause_undisturbed s

theorem enginePause_undisturbed (s : State) : s.Undisturbed s.enginePause := by
  unfold State.enginePause
  split
  · split
    · exact .refl s
    · exact .of_eq rfl rfl
  · exact enterHeld_undisturbed s _
  · exact .refl s

theorem cutScan_undisturbed (s : State) : s.Undisturbed s.cutScan := by
  unfold State.cutScan
  (repeat' split) <;> exact (sweepTimer_undisturbed s none).right rfl rfl

/-- RUN set: the registers with RUN 1, a paused flush timer resumed. -/
def State.started (s : State) : State :=
  { s with regs := { s.regs with run := true }, comp := { s.comp with flush := s.comp.flush.resume } }

/-- RUN cleared: the registers with RUN 0, a running flush timer paused. -/
def State.stopped (s : State) : State :=
  { s with regs := { s.regs with run := false }, comp := { s.comp with flush := s.comp.flush.pause } }

theorem runOn_taken {s : State} (hr : s.regs.run = false) (ha : s.hasArea = true) :
    s.runOn = s.started.trigger.engineRun := if_pos ⟨hr, ha⟩

theorem runOn_ignored {s : State} (h : s.regs.run = true ∨ s.hasArea = false) : s.runOn = s := by
  refine if_neg fun k => ?_
  rcases h with h | h <;> simp [h] at k

theorem runOff_taken {s : State} (h : s.regs.run = true) : s.runOff = s.stopped.cutScan.enginePause := if_pos h

theorem runOff_ignored {s : State} (h : s.regs.run = false) : s.runOff = s := if_neg (by simp [h])

/-- What a CONTROL write leaves of the registers: RUN and the interval are its own, and the sweep timer. -/
structure RegisterWindow.KeptByControl (a b : RegisterWindow) : Prop where
  eventMask : b.eventMask = a.eventMask
  areaBase : b.areaBase = a.areaBase
  rstimg : b.rstimg = a.rstimg
  raises : a.Raises b

theorem RegisterWindow.KeptByControl.refl (a : RegisterWindow) : a.KeptByControl a := ⟨rfl, rfl, rfl, .of_eq rfl rfl⟩

theorem RegisterWindow.KeptByControl.trans {a b c : RegisterWindow} (h : a.KeptByControl b) (k : b.KeptByControl c) :
    a.KeptByControl c :=
  ⟨k.1.trans h.1, k.2.trans h.2, k.3.trans h.3, h.4.trans k.4⟩

theorem State.Undisturbed.keptByControl {s t : State} (h : s.Undisturbed t) : s.regs.KeptByControl t.regs :=
  ⟨h.setting.eventMask, h.setting.areaBase, h.setting.rstimg, h.raises⟩

theorem runOn_kept (s : State) : s.regs.KeptByControl s.runOn.regs := by
  have h : s.regs.KeptByControl s.started.regs := ⟨rfl, rfl, rfl, .of_eq rfl rfl⟩
  unfold State.runOn
  split
  · exact h.trans ((trigger_undisturbed _).trans (engineRun_undisturbed _)).keptByControl
  · exact .refl _

theorem runOff_kept (s : State) : s.regs.KeptByControl s.runOff.regs := by
  have h : s.regs.KeptByControl s.stopped.regs := ⟨rfl, rfl, rfl, .of_eq rfl rfl⟩
  unfold State.runOff
  split
  · exact h.trans ((cutScan_undisturbed _).trans (enginePause_undisturbed _)).keptByControl
  · exact .refl _

theorem plainControl_kept (s : State) (v : Word32) : s.regs.KeptByControl (s.plainControl v).regs := by
  have h1 : s.regs.KeptByControl (s.storeInterval (intervalField v)).regs := ⟨rfl, rfl, rfl, .of_eq rfl rfl⟩
  have h2 : s.regs.KeptByControl (if v.getLsbD 2 then (s.storeInterval (intervalField v)).askFlush
      else s.storeInterval (intervalField v)).regs := by
    split
    · simpa using h1
    · exact h1
  unfold State.plainControl
  dsimp only
  split
  · exact h2.trans (runOn_kept _)
  · exact h2.trans (runOff_kept _)

/-- A CONTROL write is ignored during a device reset, begins one, or is a plain one. -/
theorem writeControl_cases (s : State) (v : Word32) :
    (s.regs.resetBusy = true ∧ s.writeControl v = s) ∨
      (s.regs.resetBusy = false ∧ v.getLsbD 1 = true ∧ s.writeControl v = s.beginReset (intervalField v)) ∨
      (v.getLsbD 1 = false ∧ s.regs.KeptByControl (s.writeControl v).regs) := by
  cases hb : s.regs.resetBusy
  · cases hv : v.getLsbD 1
    · refine .inr (.inr ⟨rfl, ?_⟩)
      rw [writeControl_plain hb hv]
      exact (plainControl_kept s v).trans (settle_undisturbed s _).keptByControl
    · exact .inr (.inl ⟨rfl, rfl, writeControl_reset hb hv⟩)
  · exact .inl ⟨rfl, writeControl_busy hb v⟩

/-- A write outside CONTROL and EVENTS raises at most, and keeps RSTIMG. -/
theorem writeRegister_other (s : State) {offset : Nat} (h0 : offset ≠ 0x00) (h8 : offset ≠ 0x08) (v : Word32) :
    s.regs.Raises (s.writeRegister offset v).regs ∧ (s.writeRegister offset v).regs.rstimg = s.regs.rstimg := by
  unfold State.writeRegister
  rw [if_neg h0, if_neg h8]
  split
  · have h := (trigger_undisturbed s).trans (settleBus_undisturbed _)
    exact ⟨h.raises, h.setting.rstimg⟩
  · split
    · exact ⟨.of_eq rfl rfl, rfl⟩
    · split
      · unfold State.writeArea
        split
        · exact ⟨.of_eq rfl rfl, rfl⟩
        · have h : s.regs.KeptByControl { (s.moveArea v).regs with areaBase := s.regs.areaBase } := by
            unfold State.moveArea
            dsimp only
            split <;> exact ⟨rfl, rfl, rfl, .of_eq rfl rfl⟩
          exact ⟨.of_eq (by simpa using h.raises.resetBusy) (by simpa using (moveArea_area s v).2.2.1),
            by simpa using h.rstimg⟩
      · exact ⟨.of_eq rfl rfl, rfl⟩

/-! ## EVENTS (R11) -/

/-- Every register command but power-on and the writes of EVENTS leaves EVENTS, or begins a device reset. -/
theorem exec_register_raises {c : Instr} {s t : State} (hr : isRegisterCommand c = true) (hp : c ≠ .powerOn)
    (he : ∀ w, c ≠ .eventsWrite w) (hc : ∀ w, isControlWrite w c → w.word.getLsbD 1 = false)
    (hi : ∀ w, c ≠ .registerWriteIgnored 0 w ∧ c ≠ .registerWriteIgnored 8 w) (h : exec c s = .next t) :
    ∀ k : Nat, s.regs.events.getLsbD k = true → t.regs.events.getLsbD k = true := by
  have control : ∀ w, isControlWrite w c → ∀ k : Nat, s.regs.events.getLsbD k = true → t.regs.events.getLsbD k = true := by
    intro w hw
    rw [exec_controlWrite hw] at h
    cases h
    rcases writeControl_cases s w.word with ⟨-, e⟩ | ⟨-, h1, -⟩ | ⟨-, hk⟩
    · rw [e]; exact fun _ => id
    · rw [hc w hw] at h1; cases h1
    · exact hk.raises.events
  cases c with
  | powerOn => exact absurd rfl hp
  | runSet w => exact control w (.inl rfl)
  | runClear w => exact control w (.inr (.inl rfl))
  | deviceReset w => exact control w (.inr (.inr (.inl rfl)))
  | glyphFlush w => exact control w (.inr (.inr (.inr (.inl rfl))))
  | sweepInterval w => exact control w (.inr (.inr (.inr (.inr rfl))))
  | attention w => cases h; exact (writeRegister_other s (offset := 0x04) (by decide) (by decide) w.word).1.events
  | eventsWrite w => exact absurd rfl (he w)
  | eventMaskWrite w => cases h; exact fun _ => id
  | areaBaseWrite w => cases h; exact (writeRegister_other s (offset := 0x10) (by decide) (by decide) w.word).1.events
  | registerWriteIgnored offset w =>
    cases h
    exact (writeRegister_other s (fun e => (hi w).1 (e ▸ rfl)) (fun e => (hi w).2 (e ▸ rfl)) w.word).1.events
  | deviceResetDone => cases h; split <;> exact fun _ => id
  | _ => cases hr

theorem writeEvents_noEvents {s : State} (h : s.regs.events = 0) (v : Word32) : (s.writeEvents v).regs.events = 0 := by
  simp [State.writeEvents, h]

theorem writeRegister_stopped {s : State} (hb : s.regs.resetBusy = true) (h : s.regs.events = 0) (offset : Nat)
    (v : Word32) : (s.writeRegister offset v).regs.events = 0 := by
  by_cases h0 : offset = 0x00
  · rw [State.writeRegister, if_pos h0, writeControl_busy hb, h]
  · by_cases h8 : offset = 0x08
    · rw [State.writeRegister, if_neg h0, if_neg (by omega), if_pos h8, writeEvents_noEvents h]
    · rw [(writeRegister_other s h0 h8 v).1.stopped hb, h]

/-- During a device reset no register command raises an event. -/
theorem exec_register_stopped {c : Instr} {s t : State} (hr : isRegisterCommand c = true)
    (hb : s.regs.resetBusy = true) (he : s.regs.events = 0) (h : exec c s = .next t) : t.regs.events = 0 := by
  cases c with
  | powerOn => cases h; rfl
  | runSet w | runClear w | deviceReset w | glyphFlush w | sweepInterval w =>
    cases h; rw [writeControl_busy hb]; exact he
  | attention w | eventsWrite w | eventMaskWrite w | areaBaseWrite w | registerWriteIgnored _ w =>
    cases h; exact writeRegister_stopped hb he _ w.word
  | deviceResetDone => cases h; split <;> exact he
  | _ => cases hr

/-- The register's eleven bits are the low bits of the word written. -/
theorem getLsbD_lowBits (v : Word32) {k : Nat} (hk : k < 11) : (BitVec.ofNat 11 v.toNat).getLsbD k = v.getLsbD k := by
  rw [BitVec.getLsbD_ofNat, decide_eq_true hk, Bool.true_and]
  rfl

theorem writeEvents_events (s : State) (v : Word32) {k : Nat} (hk : k < 11) :
    (s.writeEvents v).regs.events.getLsbD k = (s.regs.events.getLsbD k && !v.getLsbD k) := by
  have h : (s.writeEvents v).regs.events = s.regs.events &&& ~~~(BitVec.ofNat 11 v.toNat) := rfl
  rw [h, BitVec.getLsbD_and, BitVec.getLsbD_not, getLsbD_lowBits v hk, decide_eq_true hk, Bool.true_and]

theorem readRegister_mask (s : State) {k : Nat} (hk : k < 11) :
    (s.readRegister 0x0C).getLsbD k = s.regs.eventMask.getLsbD k := by
  have h : s.readRegister 0x0C = BitVec.ofNat 32 s.regs.eventMask.toNat := rfl
  rw [h, BitVec.getLsbD_ofNat, decide_eq_true (by omega : k < 32), Bool.true_and]
  rfl

/-- Settles O19. -/
theorem eventsAreClearedByTheHostAlone : Obligations.EventsAreClearedByTheHostAlone := by
  refine ⟨fun s b hb => by simp [State.raise, hb], fun w s => ⟨_, rfl, fun k hk => writeEvents_events s w.word hk, rfl⟩,
    fun s => ⟨_, rfl, rfl⟩, fun w c s hc hb hv => ⟨_, exec_controlReset hc hb hv, rfl⟩, fun c s t hp he hc hi h => ?_, fun c s t hb he h => ?_⟩
  · cases hr : isRegisterCommand c
    · exact (exec_regs hr h).2.events
    · exact exec_register_raises hr hp he hc hi h
  · cases hr : isRegisterCommand c
    · exact ((exec_regs hr h).2.stopped hb).trans he
    · exact exec_register_stopped hr hb he h

/-! ## The interrupt line (R14) -/

/-- The line is asserted exactly while some event is both raised and enabled. -/
theorem interrupt_iff (s : State) : s.interrupt = true ↔
    ∃ k, k < 11 ∧ s.regs.events.getLsbD k = true ∧ s.regs.eventMask.getLsbD k = true := by
  have zero_iff : s.regs.events &&& s.regs.eventMask = 0 ↔
      ∀ k, k < 11 → (s.regs.events.getLsbD k && s.regs.eventMask.getLsbD k) = false := by
    simp only [BitVec.eq_of_getLsbD_eq_iff, BitVec.getLsbD_and, BitVec.ofNat_eq_ofNat, BitVec.getLsbD_zero]
  simp only [State.interrupt, decide_eq_true_eq, ne_eq, zero_iff, not_forall, Bool.not_eq_false, Bool.and_eq_true,
    exists_prop]

/-- Settles O20. -/
theorem interruptLineFollowsEventsAndMask : Obligations.InterruptLineFollowsEventsAndMask := by
  have taken : ∀ (w : HostWrite) (s : State) (k : Nat), k < 11 →
      (s.writeMask w.word).regs.eventMask.getLsbD k = w.word.getLsbD k := fun w s k hk => getLsbD_lowBits w.word hk
  exact ⟨interrupt_iff,
    fun w s => ⟨_, rfl, taken w s, fun k hk => (readRegister_mask _ hk).trans (taken w s k hk), rfl⟩,
    fun s => ⟨_, rfl, rfl, interrupt_of_noEvents rfl⟩,
    fun w c s hc hb hv => ⟨_, exec_controlReset hc hb hv, rfl, interrupt_of_noEvents rfl⟩⟩

/-! ## RSTIMG (R16) -/

theorem writeControl_rstimg {s : State} (h : s.regs.rstimg = true) (v : Word32) :
    (s.writeControl v).regs.rstimg = true := by
  rcases writeControl_cases s v with ⟨-, e⟩ | ⟨-, -, e⟩ | ⟨-, hk⟩
  · rw [e, h]
  · rw [e, beginReset_regs]; simp [h]
  · rw [hk.rstimg, h]

theorem writeRegister_rstimg {s : State} (h : s.regs.rstimg = true) (offset : Nat) (v : Word32) :
    (s.writeRegister offset v).regs.rstimg = true := by
  by_cases h0 : offset = 0x00
  · rw [State.writeRegister, if_pos h0]; exact writeControl_rstimg h v
  · by_cases h8 : offset = 0x08
    · rw [State.writeRegister, if_neg h0, if_neg (by omega), if_pos h8]; exact h
    · rw [(writeRegister_other s h0 h8 v).2, h]

/-- No register command but power-on clears RSTIMG. -/
theorem exec_register_rstimg {c : Instr} {s t : State} (hr : isRegisterCommand c = true) (hp : c ≠ .powerOn)
    (h : exec c s = .next t) (hs : s.regs.rstimg = true) : t.regs.rstimg = true := by
  cases c with
  | powerOn => exact absurd rfl hp
  | runSet w | runClear w | deviceReset w | glyphFlush w | sweepInterval w => cases h; exact writeControl_rstimg hs w.word
  | attention w | eventsWrite w | eventMaskWrite w | areaBaseWrite w | registerWriteIgnored _ w =>
    cases h; exact writeRegister_rstimg hs _ w.word
  | deviceResetDone => cases h; split <;> exact hs
  | _ => cases hr

/-- IDENT holds the part code, the revision and RSTIMG (R1, R16). -/
theorem readRegister_ident (s : State) : (s.readRegister 0x14).toNat % 65536 = 0x4160 ∧
    (s.readRegister 0x14).toNat / 65536 % 32768 = 2 ∧ (s.readRegister 0x14).getLsbD 31 = s.regs.rstimg := by
  have h : s.readRegister 0x14 = BitVec.ofNat 32 (0x4160 + 65536 * 2 + 2147483648 * s.regs.rstimg.toNat) := rfl
  rw [h]
  cases s.regs.rstimg <;> decide

/-- Settles O21. -/
theorem rstimgRecordsPaperInMotion : Obligations.RstimgRecordsPaperInMotion := by
  refine ⟨fun w c s hc hb hv => ⟨_, exec_controlReset hc hb hv, fun h => ?_, fun h => ?_⟩, fun s => ⟨_, rfl, rfl⟩,
    fun w s => rfl, fun c s t hp h hs => ?_, readRegister_ident⟩
  · rw [beginReset_regs]
    simp [(anyBegun_iff s).mpr h]
  · have hn : s.anyBegun = false := by
      rw [← Bool.not_eq_true, anyBegun_iff]
      rintro ⟨i, hi⟩
      obtain ⟨h1, h2, h3⟩ := h i
      rcases hi with hi | hi | ⟨hi, hk⟩
      · exact h1 hi
      · exact h2 hi
      · exact absurd (h3 hi) (by omega)
    rw [beginReset_regs]
    simp [hn]
  · cases hr : isRegisterCommand c
    · rw [(exec_regs hr h).1.rstimg, hs]
    · exact exec_register_rstimg hr hp h hs

end Sys2Proof.Machine
end

section
/-! SUPPORT. Scan triggers, RUN and the plain CONTROL writes: what each leaves of the scan and of the engine, and the
statements about them. -/

namespace Sys2Proof.Machine

/-! ## A scan begins or is owed (R8) -/

/-- A trigger moves the scan and nothing else of the Stream Controller. -/
theorem trigger_sc (s : State) :
    ∃ a b c d, s.trigger.sc = { s.sc with scan := a, phase := b, cut := c, moved := d } := by
  unfold State.trigger
  (repeat' split) <;> exact ⟨_, _, _, _, rfl⟩

theorem trigger_begins {s : State} (hr : s.regs.run = true) (ha : s.hasArea = true) (h : s.sc.scan = .noScan) :
    s.trigger = s.beginScan := by
  simp [State.trigger, hr, ha, h]

theorem trigger_owes {s : State} (hr : s.regs.run = true) (ha : s.hasArea = true) (h : s.sc.scan ≠ .noScan) :
    s.trigger = { s with sc := { s.sc with scan := .scanningOwed } } := by
  unfold State.trigger
  rw [if_pos ⟨hr, ha⟩]
  cases hs : s.sc.scan with
  | noScan => exact absurd hs h
  | scanning => rfl
  | scanningOwed => simp [← hs]

theorem trigger_ignored {s : State} (h : s.regs.run = false ∨ s.hasArea = false) : s.trigger = s := by
  refine if_neg fun k => ?_
  rcases h with h | h <;> simp [h] at k

/-- The registers but for the sweep timer, as a trigger leaves them. -/
theorem trigger_events (s : State) : s.trigger.regs.run = s.regs.run ∧ s.trigger.regs.events = s.regs.events := by
  unfold State.trigger
  (repeat' split) <;> exact ⟨rfl, rfl⟩

/-- The sweep timer has run out: its time has passed, and it is stopped. -/
def State.sweptOut (s : State) (r : Nat) : State :=
  { s.elapse r with regs := { (s.elapse r).regs with sweepTimer := none } }

theorem exec_sweepTimerExpiry {s : State} {r : Nat} (h : s.regs.sweepTimer = some r) :
    exec .sweepTimerExpiry s = .next (s.sweptOut r).trigger.settleBus := by
  simp [exec, execSweepTimerExpiry, h, State.sweptOut]

theorem exec_attention (w : HostWrite) (s : State) : exec (.attention w) s = .next s.trigger.settleBus := rfl

/-- What a trigger on `u` shows once the bus has been served. -/
theorem trigger_outcome {u : State} (hr : u.regs.run = true) (ha : u.hasArea = true) :
    (u.sc.scan = .noScan → u.trigger.settleBus.sc.scan = .scanning ∧ u.trigger.settleBus.sc.phase = .header ∧
        u.trigger.settleBus.regs.sweepTimer = none) ∧
      (u.sc.scan ≠ .noScan → u.trigger.settleBus.sc.scan = .scanningOwed ∧
        u.trigger.settleBus.sc.phase = u.sc.phase) := by
  obtain ⟨a, b, hc⟩ := settleBus_sc u.trigger
  rw [hc]
  refine ⟨fun h => ?_, fun h => ?_⟩
  · rw [trigger_begins hr ha h]
    exact ⟨rfl, rfl, by simp [State.beginScan]⟩
  · rw [trigger_owes hr ha h]
    exact ⟨rfl, rfl⟩

/-- A trigger and the bus leave the rest of the part. -/
theorem trigger_frame (u : State) :
    u.trigger.settleBus.regs.run = u.regs.run ∧ u.trigger.settleBus.regs.events = u.regs.events ∧
      u.trigger.settleBus.sc.streams = u.sc.streams ∧ u.trigger.settleBus.sc.queue = u.sc.queue ∧
      u.trigger.settleBus.comp = u.comp ∧ u.trigger.settleBus.store = u.store ∧
      u.trigger.settleBus.form = u.form ∧ u.trigger.settleBus.builder = u.builder ∧
      u.trigger.settleBus.cache = u.cache ∧ u.trigger.settleBus.linkOut = u.linkOut ∧
      u.trigger.settleBus.hostMem = u.hostMem ∧ u.trigger.settleBus.engine = u.engine := by
  obtain ⟨a, b, hc⟩ := settleBus_sc u.trigger
  obtain ⟨_, _, _, _, ht⟩ := trigger_sc u
  simp [hc, ht, trigger_events]

/-- Settles O18. -/
theorem triggersBeginOneScanAndOweOne : Obligations.TriggersBeginOneScanAndOweOne := by
  refine ⟨fun w s h => ⟨_, exec_attention w s, ?_⟩, fun w c s hb hc hr ha => ?_⟩
  · rw [trigger_ignored h]
    obtain ⟨a, b, hsc⟩ := settleBus_sc s
    simp [hsc]
  · rcases hc with rfl | ⟨rfl, ht⟩
    · obtain ⟨hbegin, howe⟩ := trigger_outcome hr ha
      obtain ⟨h1, h2, h3, h4, h5, h6, h7, h8, h9, h10, h11, h12⟩ := trigger_frame s
      exact ⟨_, exec_attention w s, hbegin, howe, h1, h2, h3, h4, by rw [h5], h6, h7, h8, h9, h10, h11, by rw [h12]⟩
    · obtain ⟨r, hr'⟩ := Option.ne_none_iff_exists'.mp ht
      have ha' : (s.sweptOut r).hasArea = true := ha
      obtain ⟨hbegin, howe⟩ := trigger_outcome (u := s.sweptOut r) hr ha'
      obtain ⟨h1, h2, h3, h4, h5, h6, h7, h8, h9, h10, h11, h12⟩ := trigger_frame (s.sweptOut r)
      exact ⟨_, exec_sweepTimerExpiry hr', hbegin, howe, h1, h2, h3, h4, by rw [h5]; rfl, h6, h7, h8, h9, h10, h11,
        by rw [h12]; rfl⟩

/-! ## The plain CONTROL write -/

/-- The fields of a CONTROL word that are taken before RUN: the interval, and GLYPH_FLUSH (R2). -/
def State.controlFields (s : State) (v : Word32) : State :=
  if v.getLsbD 2 then (s.storeInterval (intervalField v)).askFlush else s.storeInterval (intervalField v)

theorem plainControl_eq (s : State) (v : Word32) : s.plainControl v =
    if v.getLsbD 0 then (s.controlFields v).runOn else (s.controlFields v).runOff := rfl

@[simp] theorem controlFields_keeps (s : State) (v : Word32) :
    (s.controlFields v).sc = s.sc ∧ (s.controlFields v).comp = s.comp ∧ (s.controlFields v).form = s.form ∧
      (s.controlFields v).store = s.store ∧ (s.controlFields v).builder = s.builder ∧
      (s.controlFields v).mtu = s.mtu ∧ (s.controlFields v).writer = s.writer ∧
      (s.controlFields v).engine = s.engine ∧ (s.controlFields v).panel = s.panel ∧
      (s.controlFields v).hostMem = s.hostMem ∧ (s.controlFields v).linkOut = s.linkOut ∧
      (s.controlFields v).regs = (s.storeInterval (intervalField v)).regs := by
  unfold State.controlFields
  split <;> simp

@[simp] theorem storeInterval_regs (s : State) (k : BitVec 8) : (s.storeInterval k).regs.run = s.regs.run ∧
    (s.storeInterval k).regs.resetBusy = s.regs.resetBusy ∧ (s.storeInterval k).regs.sweepInterval = k ∧
    (s.storeInterval k).regs.eventMask = s.regs.eventMask ∧ (s.storeInterval k).regs.areaBase = s.regs.areaBase ∧
    (s.storeInterval k).regs.rstimg = s.regs.rstimg ∧ (s.storeInterval k).regs.events = s.regs.events := by
  exact ⟨rfl, rfl, rfl, rfl, rfl, rfl, rfl⟩

theorem hasArea_congr {s t : State} (h : s.regs.areaBase = t.regs.areaBase) : s.hasArea = t.hasArea := by
  simp [State.hasArea, h]

theorem owner_streams {s t : State} (h : s.sc.streams = t.sc.streams) : s.owner = t.owner := by
  have e : s.stream = t.stream := funext fun n => by simp [State.stream, h]
  unfold State.owner
  rw [e]

theorem stream_streams {s t : State} (h : s.sc.streams = t.sc.streams) (n : Fin 8) : s.stream n = t.stream n := by
  simp [State.stream, h]

/-! ### What the image gate looks at -/

/-- The gate looks at the mounted key and the Page Store alone (R172). -/
theorem gate_mounted {s t : State} (h1 : s.engine.mountedStock = t.engine.mountedStock)
    (h2 : s.engine.mountedLength = t.engine.mountedLength) (h3 : s.store = t.store) : s.gate = t.gate := by
  have head : s.head = t.head := by simp only [State.head, State.slot, h3]
  have key : ∀ i, s.keyMatches i = t.keyMatches i := fun i => by
    simp only [State.keyMatches, State.slot_congr h3, h1, h2]
  have some_on : s.anyOnEngine = t.anyOnEngine := by simp only [State.anyOnEngine, State.slot, h3]
  simp only [State.gate, head, key, some_on]

@[simp] theorem moveGate_engine (s : State) : s.moveGate.engine = { s.engine with state := s.gate } := by
  unfold State.moveGate
  dsimp only
  split <;> simp

@[simp] theorem enterHeld_engine (s : State) (r : HoldReason) :
    (s.enterHeld r).engine = { s.engine with state := .held r, holdOwed := .none } := by
  unfold State.enterHeld
  dsimp only
  split <;> simp

/-- An engine outside the states of the gate stands through a settlement. -/
theorem engine_stands_ungated {u : State} (h : u.engine.state.gated = false) : u.holdAtBoundary.lookAtGate = u := by
  have hb : u.holdAtBoundary = u := if_neg (by simp [h])
  rw [hb]
  exact if_pos (.inl h)

/-- Entering HELD from another state raises OPERATOR (R13). -/
theorem enterHeld_raises {s : State} (hb : s.regs.resetBusy = false) (h : ∀ r, s.engine.state ≠ .held r)
    (r : HoldReason) : (s.enterHeld r).regs.events.getLsbD 8 = true := by
  unfold State.enterHeld
  dsimp only
  split
  · rename_i k e
    exact absurd e (h k)
  · simp [State.raise, hb, operatorBit, eventBit]

/-! ### RUN and the engine, the scan -/

theorem engineRun_engine (s : State) : s.engineRun.engine.sent = s.engine.sent ∧
    s.engineRun.regs.sweepTimer = s.regs.sweepTimer := by
  rw [engineRun_eq]
  have h : s.dropPause.engine.sent = s.engine.sent ∧ s.dropPause.regs = s.regs := by
    unfold State.dropPause
    split <;> exact ⟨rfl, rfl⟩
  split <;> simp [h]

theorem enginePause_sent (s : State) : s.enginePause.engine.sent = s.engine.sent ∧
    s.enginePause.regs.sweepTimer = s.regs.sweepTimer := by
  unfold State.enginePause
  (repeat' split) <;> simp

/-- RUN 0 moves the scan and nothing else of the Stream Controller (R4). -/
theorem cutScan_sc (s : State) :
    (∃ a b c, s.cutScan.sc = { s.sc with scan := a, phase := b, cut := c }) ∧ s.cutScan.regs.sweepTimer = none ∧
      s.cutScan.mtu = s.mtu := by
  unfold State.cutScan
  dsimp only
  (repeat' split) <;> exact ⟨⟨_, _, _, rfl⟩, rfl, rfl⟩

/-- What a plain CONTROL write changes of the blocks behind the registers: the scan, the flush timer, the flush that is
asked for, the engine's state and hold. -/
structure State.ControlFrame (s t : State) : Prop where
  streams : t.sc.streams = s.sc.streams
  queue : t.sc.queue = s.sc.queue
  readFailed : t.sc.readFailed = s.sc.readFailed
  compState : t.comp.state = s.comp.state
  sent : t.engine.sent = s.engine.sent
  form : t.form = s.form
  store : t.store = s.store
  builder : t.builder = s.builder
  mtu : t.mtu = s.mtu
  panel : t.panel = s.panel
  hostMem : t.hostMem = s.hostMem
  linkOut : t.linkOut = s.linkOut

theorem State.ControlFrame.trans {s t u : State} (h : s.ControlFrame t) (k : t.ControlFrame u) : s.ControlFrame u :=
  ⟨k.1.trans h.1, k.2.trans h.2, k.3.trans h.3, k.4.trans h.4, k.5.trans h.5, k.6.trans h.6, k.7.trans h.7,
    k.8.trans h.8, k.9.trans h.9, k.10.trans h.10, k.11.trans h.11, k.12.trans h.12⟩

theorem State.ControlFrame.refl (s : State) : s.ControlFrame s :=
  ⟨rfl, rfl, rfl, rfl, rfl, rfl, rfl, rfl, rfl, rfl, rfl, rfl⟩

theorem controlFields_frame (s : State) (v : Word32) : s.ControlFrame (s.controlFields v) := by
  constructor <;> simp

@[simp] theorem started_keeps (s : State) :
    s.started.sc = s.sc ∧ s.started.comp.state = s.comp.state ∧ s.started.engine = s.engine ∧
      s.started.form = s.form ∧ s.started.store = s.store ∧ s.started.builder = s.builder ∧
      s.started.cache = s.cache ∧ s.started.mtu = s.mtu ∧ s.started.panel = s.panel ∧
      s.started.hostMem = s.hostMem ∧ s.started.linkOut = s.linkOut ∧ s.started.writer = s.writer :=
  ⟨rfl, rfl, rfl, rfl, rfl, rfl, rfl, rfl, rfl, rfl, rfl, rfl⟩

@[simp] theorem stopped_keeps (s : State) :
    s.stopped.sc = s.sc ∧ s.stopped.comp.state = s.comp.state ∧ s.stopped.engine = s.engine ∧
      s.stopped.form = s.form ∧ s.stopped.store = s.store ∧ s.stopped.builder = s.builder ∧
      s.stopped.cache = s.cache ∧ s.stopped.mtu = s.mtu ∧ s.stopped.panel = s.panel ∧
      s.stopped.hostMem = s.hostMem ∧ s.stopped.linkOut = s.linkOut ∧ s.stopped.writer = s.writer :=
  ⟨rfl, rfl, rfl, rfl, rfl, rfl, rfl, rfl, rfl, rfl, rfl, rfl⟩

theorem runOn_frame (s : State) : s.ControlFrame s.runOn := by
  by_cases h : s.regs.run = false ∧ s.hasArea = true
  · rw [runOn_taken h.1 h.2]
    obtain ⟨_, _, _, _, hsc⟩ := trigger_sc s.started
    constructor <;> simp [hsc, engineRun_engine]
  · have e : s.runOn = s := if_neg h
    rw [e]
    exact .refl s

theorem runOff_frame (s : State) : s.ControlFrame s.runOff := by
  cases h : s.regs.run
  · rw [runOff_ignored h]
    exact .refl s
  · rw [runOff_taken h]
    obtain ⟨⟨_, _, _, hsc⟩, -, hmtu⟩ := cutScan_sc s.stopped
    constructor <;> simp [hsc, hmtu, enginePause_sent]

theorem plainControl_frame (s : State) (v : Word32) : s.ControlFrame (s.plainControl v) := by
  rw [plainControl_eq]
  split
  · exact (controlFields_frame s v).trans (runOn_frame _)
  · exact (controlFields_frame s v).trans (runOff_frame _)

theorem State.ControlFrame.composed {s t : State} (h : s.ControlFrame t) (k : s.Composed) : t.Composed :=
  ⟨by simpa [Composer.waits, h.compState] using k.waits, h.readFailed.trans k.readFailed, by rw [h.form]; exact k.noCheck⟩

theorem State.ControlFrame.calm {s t : State} (h : s.ControlFrame t) (k : s.refusalWaits = false) :
    t.refusalWaits = false := by
  rw [← k]
  simp [State.refusalWaits, h.sent]

end Sys2Proof.Machine
end

section
/-! SUPPORT. The statements about the CONTROL writes RUN_SET, RUN_CLEAR, SWEEP_INTERVAL and GLYPH_FLUSH. -/

namespace Sys2Proof.Machine

/-! ## The bits of a register word (R1) -/

/-- A low byte and what stands above it. -/
theorem testBit_byte_add {a : Nat} (ha : a < 256) (x k : Nat) :
    (a + 256 * x).testBit k = if k < 8 then a.testBit k else x.testBit (k - 8) := by
  rw [Nat.add_comm, show 256 * x = 2 ^ 8 * x from rfl, Nat.testBit_two_pow_mul_add x (by simpa using ha)]

theorem lane_lt (w : HostWrite) (i : Nat) : w.lane i < 256 := by
  unfold HostWrite.lane
  split <;> omega

/-- A lane shows the byte of the value when it is written, and 0 else. -/
theorem testBit_lane (w : HostWrite) (i : Nat) {k : Nat} (hk : k < 8) :
    (w.lane i).testBit k = (w.lanes.getLsbD i && w.value.getLsbD (8 * i + k)) := by
  unfold HostWrite.lane
  cases w.lanes.getLsbD i
  · simp
  · rw [if_pos rfl, Bool.true_and, show (256 : Nat) ^ i = 2 ^ (8 * i) by rw [Nat.pow_mul], show (256 : Nat) = 2 ^ 8 from rfl,
      Nat.testBit_mod_two_pow, decide_eq_true hk, Bool.true_and, Nat.testBit_div_two_pow, Nat.add_comm]
    rfl

theorem getLsbD_word (w : HostWrite) {k : Nat} (hk : k < 32) :
    w.word.getLsbD k = (w.lanes.getLsbD (k / 8) && w.value.getLsbD k) := by
  have lane : ∀ i, k / 8 = i → (w.lane i).testBit (k - 8 * i) = (w.lanes.getLsbD (k / 8) && w.value.getLsbD k) := by
    intro i hi
    rw [testBit_lane w i (by omega), hi, show 8 * i + (k - 8 * i) = k by omega]
  have sum : w.lane 0 + 256 * w.lane 1 + 65536 * w.lane 2 + 16777216 * w.lane 3 =
      w.lane 0 + 256 * (w.lane 1 + 256 * (w.lane 2 + 256 * w.lane 3)) := by ring
  rw [HostWrite.word, BitVec.getLsbD_ofNat, decide_eq_true hk, Bool.true_and, sum, testBit_byte_add (lane_lt w 0)]
  split
  · exact lane 0 (by omega)
  · rw [testBit_byte_add (lane_lt w 1)]
    split
    · rw [← lane 1 (by omega)]
    · rw [testBit_byte_add (lane_lt w 2)]
      split
      · rw [← lane 2 (by omega), Nat.sub_sub]
      · rw [← lane 3 (by omega), Nat.sub_sub, Nat.sub_sub]

theorem getLsbD_intervalField (v : Word32) {k : Nat} (hk : k < 8) : (intervalField v).getLsbD k = v.getLsbD (8 + k) := by
  rw [intervalField, BitVec.getLsbD_ofNat, decide_eq_true hk, Bool.true_and, show (256 : Nat) = 2 ^ 8 from rfl,
    Nat.testBit_div_two_pow, Nat.add_comm]
  rfl

/-! ## A plain CONTROL write and what follows it -/

/-- What every plain CONTROL write shows, with the Composer still and no refusal waiting: `u` is the state it made. -/
theorem settle_control {s u : State} (old : State) (f : s.ControlFrame u) (k : s.regs.KeptByControl u.regs)
    (hb : s.regs.resetBusy = false) (hc : s.Composed) (hr : s.refusalWaits = false) :
    (State.settle old u).store = s.store ∧ (State.settle old u).form = s.form ∧
      (State.settle old u).builder = s.builder ∧ (State.settle old u).regs.eventMask = s.regs.eventMask ∧
      (State.settle old u).regs.areaBase = s.regs.areaBase ∧ (State.settle old u).regs.rstimg = s.regs.rstimg ∧
      (State.settle old u).hostMem = s.hostMem ∧ (State.settle old u).linkOut = s.linkOut ∧
      (State.settle old u).panel = s.panel := by
  have hb' : u.regs.resetBusy = false := k.raises.resetBusy.trans hb
  obtain ⟨h1, h2, -, -⟩ := State.settle_composed old hb' (f.composed hc)
  obtain ⟨c1, c2, c3, -⟩ := State.settle_calm old hb' (f.composed hc) (f.calm hr)
  refine ⟨h1.trans f.store, h2.trans f.form, c2.trans f.builder, ?_, ?_, ?_, ?_, c1.trans f.linkOut, c3.trans f.panel⟩
  · simpa using k.eventMask
  · simpa using k.areaBase
  · simpa using k.rstimg
  · simpa using f.hostMem

/-- Where the RUN field is the value RUN has, or the part has no area for RUN 1, nothing but the fields before it is
taken (R3, R5). -/
theorem plainControl_fields {s : State} {v : Word32}
    (h : v.getLsbD 0 = s.regs.run ∨ (v.getLsbD 0 = true ∧ s.hasArea = false)) :
    s.plainControl v = s.controlFields v := by
  rw [plainControl_eq]
  have hrun : (s.controlFields v).regs.run = s.regs.run := by simp
  have harea : (s.controlFields v).hasArea = s.hasArea := hasArea_congr (by simp)
  rcases h with h | ⟨h, ha⟩
  · cases hv : v.getLsbD 0
    · rw [if_neg (by simp)]; exact runOff_ignored (by rw [hrun, ← h, hv])
    · rw [if_pos rfl]; exact runOn_ignored (.inl (by rw [hrun, ← h, hv]))
  · rw [if_pos h]; exact runOn_ignored (.inr (harea.trans ha))

theorem controlFields_quiet {s : State} {v : Word32} (h : v.getLsbD 2 = false) :
    s.controlFields v = s.storeInterval (intervalField v) := if_neg (by rw [h]; simp)

theorem putInForce_flush (c : GlyphCache) : c.putInForce.flush = c.flush := by
  unfold GlyphCache.putInForce
  split <;> rfl

/-- With no flush asked for a band boundary begins none. -/
theorem cacheBoundary_noFlush {s : State} (h : s.cache.flush = .none) : s.cacheBoundary.cache.flush = .none := by
  unfold State.cacheBoundary
  split
  · simp [GlyphCache.atBoundary, h, putInForce_flush]
  · exact h

/-- Settles O13. -/
theorem controlStoresTheInterval : Obligations.ControlStoresTheInterval := by
  refine ⟨fun w => ⟨fun k hk => getLsbD_word w hk, fun k hk => getLsbD_intervalField w.word hk⟩, hasArea_iff,
    fun w c s hc hb hv1 hv2 hrun hcomp hr => ⟨_, exec_controlPlain hc hb hv1, ?_⟩⟩
  have hu : s.plainControl w.word = s.storeInterval (intervalField w.word) := by
    rw [plainControl_fields hrun, controlFields_quiet hv2]
  have f := plainControl_frame s w.word
  have k := plainControl_kept s w.word
  obtain ⟨e1, e2, e3, e4, e5, e6, e7, e8, e9⟩ := settle_control s f k hb hcomp hr
  rw [hu] at f k e1 e2 e3 e4 e5 e6 e7 e8 e9 ⊢
  obtain ⟨-, -, -, ccache, -, cengine, -⟩ :=
    State.settle_calm s (u := s.storeInterval (intervalField w.word)) (by simpa using hb) (f.composed hcomp) (f.calm hr)
  refine ⟨by simp, by simp, ?_, by simp, fun hf => ?_, e1, e2, e3, e4, e5, e6, e7, e8, e9, fun ho hg => ?_⟩
  · simp only [State.settle_keeps]
    rfl
  · rw [ccache]
    exact cacheBoundary_noFlush (by simpa using hf)
  · have hgate : (s.storeInterval (intervalField w.word)).gate = s.gate := gate_mounted rfl rfl rfl
    rw [cengine, State.engineStands (by simpa using ho) (by simpa [hgate] using hg)]
    simp

/-! ## GLYPH_FLUSH (R148) -/

/-- Bit 2 of CONTROL reads the flush indication (R2, R148). -/
theorem readRegister_flushBusy (s : State) : (s.readRegister 0x00).getLsbD 2 = s.flushBusy := by
  have h : s.readRegister 0x00 = BitVec.ofNat 32 (s.regs.run.toNat + 2 * s.regs.resetBusy.toNat +
    4 * s.flushBusy.toNat + 256 * s.regs.sweepInterval.toNat) := rfl
  have hi : s.regs.sweepInterval.toNat < 256 := s.regs.sweepInterval.isLt
  rw [h, BitVec.getLsbD_ofNat, Nat.testBit_eq_decide_div_mod_eq]
  cases s.regs.run <;> cases s.regs.resetBusy <;> cases s.flushBusy <;> simp <;> omega

@[simp] theorem putInForce_keeps (c : GlyphCache) : c.putInForce.fill = c.fill ∧ c.putInForce.hits = c.hits ∧
    c.putInForce.misses = c.misses ∧ c.putInForce.faults = c.faults ∧ c.putInForce.flush = c.flush ∧
    c.putInForce.aside = none := by
  unfold GlyphCache.putInForce
  split
  · exact ⟨rfl, rfl, rfl, rfl, rfl, rfl⟩
  · rename_i h
    exact ⟨rfl, rfl, rfl, rfl, rfl, h⟩

theorem putInForce_none {c : GlyphCache} (h : c.aside = none) : c.putInForce = c := by
  simp [GlyphCache.putInForce, h]

/-- A directory put in force empties the cache (R141). -/
theorem putInForce_some {c : GlyphCache} {d : Directory} (h : c.aside = some d) :
    c.putInForce.inForce = some d ∧ ∀ k : Fin 32, c.putInForce.sets[k] = CacheSet.empty := by
  simp [GlyphCache.putInForce, h, GlyphCache.emptied]

theorem beginFlush_filling {c : GlyphCache} (h : c.fill ≠ none) : c.beginFlush = { c with flush := .waitFill } := by
  obtain ⟨f, hf⟩ := Option.ne_none_iff_exists'.mp h
  simp [GlyphCache.beginFlush, hf]

theorem beginFlush_idle {c : GlyphCache} (h : c.fill = none) : c.beginFlush = { c.emptied with flush := .reading } := by
  simp [GlyphCache.beginFlush, h]

theorem emptied_sets (c : GlyphCache) (k : Fin 32) : c.emptied.sets[k] = CacheSet.empty := by
  simp [GlyphCache.emptied]

/-- Beginning a flush keeps the fill, the counts and the directories. -/
@[simp] theorem beginFlush_keeps (c : GlyphCache) : c.beginFlush.fill = c.fill ∧ c.beginFlush.hits = c.hits ∧
    c.beginFlush.misses = c.misses ∧ c.beginFlush.faults = c.faults ∧ c.beginFlush.inForce = c.inForce ∧
    c.beginFlush.aside = c.aside := by
  cases h : c.fill with
  | none => rw [beginFlush_idle h]; exact ⟨h, rfl, rfl, rfl, rfl, rfl⟩
  | some f => rw [beginFlush_filling (by simp [h])]; exact ⟨h, rfl, rfl, rfl, rfl, rfl⟩

theorem beginFlush_busy (c : GlyphCache) : c.beginFlush.flush ≠ .none := by
  cases h : c.fill with
  | none => rw [beginFlush_idle h]; exact FlushPhase.noConfusion
  | some f => rw [beginFlush_filling (by simp [h])]; exact FlushPhase.noConfusion

/-- The cache just after a flush has been asked for. -/
def GlyphCache.asked (c : GlyphCache) : GlyphCache := { c with flush := .owed }

@[simp] theorem asked_keeps (c : GlyphCache) : c.asked.fill = c.fill ∧ c.asked.aside = c.aside ∧
    c.asked.inForce = c.inForce ∧ c.asked.hits = c.hits ∧ c.asked.misses = c.misses ∧ c.asked.faults = c.faults ∧
    c.asked.flush = .owed :=
  ⟨rfl, rfl, rfl, rfl, rfl, rfl, rfl⟩

/-- At a band boundary an asked flush goes on, behind a directory set aside (R141, R148). -/
theorem cacheBoundary_asked {s : State} {c : GlyphCache} (h : s.cache = c.asked) : s.cacheBoundary.cache =
    if s.atBoundary then c.asked.putInForce.beginFlush else c.asked := by
  unfold State.cacheBoundary
  split <;> simp [h, GlyphCache.atBoundary, GlyphCache.asked]

/-- Settles O15. -/
theorem glyphFlushIsAskedFor : Obligations.GlyphFlushIsAskedFor := by
  intro w s hb hv1 hv2 hv0 hflush hcomp hr
  refine ⟨_, exec_controlPlain (.inr (.inr (.inr (.inl rfl)))) hb hv1, ?_⟩
  have f := plainControl_frame s w.word
  obtain ⟨e1, e2, e3, -, -, -, e7, e8, e9⟩ := settle_control s f (plainControl_kept s w.word) hb hcomp hr
  obtain ⟨-, -, -, ccache, -⟩ := State.settle_calm s
    ((plainControl_kept s w.word).raises.resetBusy.trans hb) (f.composed hcomp) (f.calm hr)
  have hu : s.plainControl w.word = s.controlFields w.word := plainControl_fields (.inl hv0)
  have hcache : (s.controlFields w.word).cache = s.cache.asked := by
    unfold State.controlFields
    rw [if_pos hv2]
    simp [State.askFlush, hflush, GlyphCache.asked]
  have hbound : (s.controlFields w.word).atBoundary = s.atBoundary := by simp [State.atBoundary]
  rw [hu] at e1 e2 e3 e7 e8 e9 ccache ⊢
  rw [cacheBoundary_asked hcache, hbound] at ccache
  refine ⟨?_, fun ha => ?_, fun ha hf => ?_, fun ha hf => ?_, fun d ha hd => ?_, ?_, ?_, ?_, ?_, by simp, by simp, e1,
    e2, e3, e7, e8, e9⟩
  · rw [readRegister_flushBusy, State.flushBusy, ccache, decide_eq_true_iff]
    split
    · exact beginFlush_busy _
    · exact FlushPhase.noConfusion
  · rw [ccache, if_neg (by rw [ha]; simp)]
    rfl
  · rw [ccache, if_pos ha, beginFlush_filling (by simpa using hf)]
    exact ⟨rfl, fun hn => by rw [putInForce_none (c := s.cache.asked) hn]; rfl⟩
  · rw [ccache, if_pos ha, beginFlush_idle (by simpa using hf)]
    exact ⟨rfl, emptied_sets s.cache.asked.putInForce, fun hn => by rw [putInForce_none (c := s.cache.asked) hn]; rfl⟩
  · obtain ⟨hin, hsets⟩ := putInForce_some (c := s.cache.asked) hd
    rw [ccache, if_pos ha]
    refine ⟨by simpa using hin, by simp, fun k => ?_⟩
    cases hf : s.cache.fill with
    | none => rw [beginFlush_idle (by simpa using hf)]; exact emptied_sets s.cache.asked.putInForce k
    | some g => rw [beginFlush_filling (by simp [hf])]; exact hsets k
  all_goals
    rw [ccache]
    split <;> simp

end Sys2Proof.Machine
end

section
/-! SUPPORT. What the requesters ask for and what the MTU grants (R153 to R156), and the statements about RUN. -/

namespace Sys2Proof.Machine

/-! ## Grants (R155, R156) -/

theorem grantBus_pending {s : State} {q : Requester} {r : Request} (h : s.mtu.place q = .pending r) (p : Requester) :
    (s.grantBus q p).mtu.inFlight = some ⟨q, r, true⟩ ∧ (s.grantBus q p).mtu.limit = some 1 ∧
      (s.grantBus q p).mtu.pointer = p ∧
      ∀ q', (s.grantBus q p).mtu.place q' = if q = q' then .granted else s.mtu.place q' := by
  have e : (s.grantBus q p).mtu = { s.mtu.setPlace .granted q with
      inFlight := some ⟨q, r, true⟩, limit := some Config.limitMs, pointer := p } := by
    simp [State.grantBus, h]
  rw [e]
  refine ⟨rfl, rfl, rfl, fun q' => ?_⟩
  rw [← place_setPlace]
  cases q' <;> rfl

theorem isPending_iff (p : Place) : p.isPending = true ↔ ∃ r, p = .pending r := by
  cases p <;> simp [Place.isPending]

/-- The urgency condition (R156). -/
theorem urgent_iff (s : State) : s.urgent = true ↔ s.engine.state = .feeding ∧ s.engine.cond.inMotion = true ∧
    s.engine.bandRoom = 2 ∧ ∃ f, s.cache.fill = some f ∧ f.wanted = true := by
  unfold State.urgent
  cases s.cache.fill <;> simp [and_assoc]

/-- Every requester is in the round. -/
theorem mem_round (p q : Requester) : q ∈ p.round := by
  cases p <;> cases q <;> decide

/-- The first element of a list that satisfies `f`, when nothing before it does. -/
theorem find?_takeWhile {α : Type} [DecidableEq α] {f : α → Bool} {a : α} :
    ∀ {l : List α}, a ∈ l → f a = true → (∀ b ∈ l.takeWhile (· ≠ a), f b = false) → l.find? f = some a
  | b :: l, hm, ha, h => by
    by_cases e : b = a
    · subst e; simp [ha]
    · have hb : f b = false := h b (by simp [e])
      have hm' : a ∈ l := by simpa [Ne.symm e] using hm
      simp only [List.find?_cons, hb]
      exact find?_takeWhile hm' ha fun c hc => h c (by simp [e] at hc ⊢; exact .inr hc)

/-- The MTU grants the first pending place from its pointer on, when nothing is urgent (R155). -/
theorem arbitrate_grants {s : State} {q : Requester} {r : Request} (hf : s.mtu.inFlight = none)
    (hq : s.mtu.place q = .pending r) (hu : ¬(s.urgent = true ∧ s.mtu.filler.isPending = true))
    (hfirst : ∀ p ∈ s.mtu.pointer.round.takeWhile (· ≠ q), ∀ r', s.mtu.place p ≠ .pending r') :
    s.arbitrate = s.grantBus q q.next := by
  have hfind : s.mtu.pointer.round.find? (fun p => (s.mtu.place p).isPending) = some q := by
    refine find?_takeWhile (mem_round _ q) (by simp [hq, Place.isPending]) fun p hp => ?_
    rw [← Bool.not_eq_true, isPending_iff]
    rintro ⟨r', hr'⟩
    exact hfirst p hp r' hr'
  have hu' : (s.urgent && s.mtu.filler.isPending) = false := by
    rw [← Bool.not_eq_true, Bool.and_eq_true]
    exact hu
  unfold State.arbitrate
  rw [if_neg (by simp [hf]), if_neg (by simp [hu']), hfind]

/-- With no place PENDING the MTU grants nothing. -/
theorem arbitrate_quiet {s : State} (h : ∀ q r, s.mtu.place q ≠ .pending r) : s.arbitrate = s := by
  have none_pending : ∀ q, (s.mtu.place q).isPending = false := fun q => by
    rw [← Bool.not_eq_true, isPending_iff]
    rintro ⟨r, hr⟩
    exact h q r hr
  have hfiller : s.mtu.filler.isPending = false := none_pending .glyphFiller
  have hfind : s.mtu.pointer.round.find? (fun p => (s.mtu.place p).isPending) = none := by
    rw [List.find?_eq_none]
    intro q _
    simp [none_pending]
  unfold State.arbitrate
  rw [hfind, hfiller]
  simp

/-! ## Requests (R153, R154) -/

/-- The requester's place alone may become PENDING when it asks. -/
def State.AsksAt (s : State) (q : Requester) (u : State) : Prop :=
  u.mtu = s.mtu ∨ ∃ r, u.mtu = s.mtu.setPlace (.pending r) q

theorem askReader_asksAt (s : State) : s.AsksAt .streamReader s.askReader := by
  unfold State.askReader
  dsimp only
  split
  · exact .inr ⟨_, rfl⟩
  · exact .inr ⟨_, rfl⟩
  · split <;> exact .inr ⟨_, rfl⟩
  · exact .inl rfl

theorem askLoader_asksAt (s : State) : s.AsksAt .formLoader s.askLoader := by
  unfold State.askLoader
  split
  · split
    · exact .inr ⟨_, rfl⟩
    · exact .inl rfl
  · exact .inl rfl

theorem askFiller_asksAt (s : State) : s.AsksAt .glyphFiller s.askFiller := by
  unfold State.askFiller
  split
  · split
    · exact .inr ⟨_, rfl⟩
    · exact .inl rfl
  · split
    · exact .inr ⟨_, rfl⟩
    · exact .inl rfl

theorem askWriter_asksAt (s : State) : s.AsksAt .statusWriter s.askWriter := by
  unfold State.askWriter
  split
  · split
    · split
      · exact .inr ⟨_, rfl⟩
      · exact .inl rfl
    · exact .inr ⟨_, (State.showCounts_keeps _ _).2.2.2.2.2.2.2.1⟩
    · exact .inl rfl
  · exact .inl rfl

theorem askNext_asksAt (s : State) (q : Requester) : s.AsksAt q (s.askNext q) := by
  unfold State.askNext
  split
  · cases q with
    | streamReader => exact askReader_asksAt s
    | formLoader => exact askLoader_asksAt s
    | glyphFiller => exact askFiller_asksAt s
    | statusWriter => exact askWriter_asksAt s
  · exact .inl rfl

/-- A requester asks for its own place only, and asking moves no pointer. -/
theorem askNext_place (s : State) (q : Requester) :
    (∀ p, p ≠ q → (s.askNext q).mtu.place p = s.mtu.place p) ∧ (s.askNext q).mtu.pointer = s.mtu.pointer := by
  rcases askNext_asksAt s q with e | ⟨r, e⟩ <;> rw [e]
  · exact ⟨fun _ _ => rfl, rfl⟩
  · exact ⟨fun p hp => by rw [place_setPlace, if_neg hp.symm], by simp⟩

/-- A stream that is CLOSED has no ring read to ask for. -/
theorem ringReadOf_closed {s : State} {n : Fin 8} (h : (s.stream n).state = .closed) : s.ringReadOf n = none := by
  simp [State.ringReadOf, State.discarding, h]

theorem recordRead_none {s : State} (h : ∀ n, s.ringReadOf n = none) : s.recordRead = none := by
  simp [State.recordRead, h]

/-- With no record read to ask for, the Stream Reader asks for the scan's read (R29). -/
theorem askNext_scanRead {s : State} {r : Request} (hp : s.mtu.reader = .empty) (hs : s.scanRead = some r)
    (hr : s.recordRead = none) : (s.askNext .streamReader).mtu.reader = .pending r := by
  simp [State.askNext, TransferUnit.place, hp, Place.isEmpty, State.askReader, hs, hr, State.issue, TransferUnit.setPlace]

/-- With the bus and its places free, and no record read, the scan's read is granted at once (R155). -/
theorem serveBus_scanRead {s : State} {r : Request} (hm : s.mtu = TransferUnit.initial) (hf : s.cache.fill = none)
    (hs : s.scanRead = some r) (hr : s.recordRead = none) :
    s.serveBus.mtu.inFlight = some ⟨.streamReader, r, true⟩ ∧ s.serveBus.mtu.limit = some 1 ∧
      s.serveBus.mtu.pointer = .formLoader := by
  have h0 : s.arbitrate = s := arbitrate_quiet (by simp [hm])
  have hread : (s.askNext .streamReader).mtu.place .streamReader = .pending r :=
    askNext_scanRead (by rw [hm]; rfl) hs hr
  unfold State.serveBus
  rw [h0]
  set u := (((s.askNext .streamReader).askNext .formLoader).askNext .glyphFiller).askNext .statusWriter with hu
  have hplace : u.mtu.place .streamReader = .pending r := by
    rw [hu, (askNext_place _ .statusWriter).1 _ (by decide), (askNext_place _ .glyphFiller).1 _ (by decide),
      (askNext_place _ .formLoader).1 _ (by decide), hread]
  have hpointer : u.mtu.pointer = .streamReader := by
    rw [hu, (askNext_place _ _).2, (askNext_place _ _).2, (askNext_place _ _).2, (askNext_place _ _).2, hm]
    rfl
  have hfree : u.mtu.inFlight = none := by simp [hu, hm, TransferUnit.initial]
  have hcalm : u.urgent = false := by
    rw [← Bool.not_eq_true, urgent_iff]
    rintro ⟨-, -, -, f, h, -⟩
    simp [hu, hf] at h
  rw [arbitrate_grants hfree hplace (by simp [hcalm]) (by simp [hpointer, Requester.round])]
  obtain ⟨h1, h2, h3, -⟩ := grantBus_pending hplace Requester.formLoader
  exact ⟨h1, h2, h3⟩

/-! ## The bus through a settlement -/

/-- The settlement serves the bus last, for a state with the requests of `u` and the streams after the grant. -/
theorem settle_serves (old : State) {u : State} (hb : u.regs.resetBusy = false) (h : u.Composed) :
    ∃ v : State, State.settle old u = v.serveBus ∧ v.mtu = u.mtu ∧ v.SameStreams u.grant ∧
      v.regs.areaBase = u.regs.areaBase ∧ (u.refusalWaits = false → v.cache = u.cacheBoundary.cache) := by
  obtain ⟨i1, i2, i3, i4, i5, i6⟩ := State.settleImaging_composed h
  have hd : u.settleImaging.Composed :=
    ⟨by rw [i2]; exact h.waits, by rw [i1]; exact h.readFailed, by rw [i3]; exact h.noCheck⟩
  have hg := State.grant_congr (s := u.settleImaging) (t := u) i1 (by simp)
  have same : u.settleImaging.grant.settleEngine.sc = u.grant.sc := by
    rw [(State.settleEngine_keeps _).1, hg.1]
  have hregs := (settle_undisturbed old u).setting.areaBase
  refine ⟨State.settleStatus old u.settleImaging.grant.settleEngine, ?_, by simp [i5],
    (State.settleStatus_same _ _).trans (.of_eq same), ?_, fun hr => ?_⟩
  · simp [State.settle, hb, State.settleComposer_composed hd]
  · simpa [State.settle, hb, State.settleComposer_composed hd] using hregs
  · have hi : u.settleImaging = u.cacheBoundary := by
      have e : u.settleImaging = (u.startRebuild Config.sentMax).cacheBoundary :=
        State.checkForm_composed (by simpa using h.noCheck)
      rw [e, State.startRebuild_calm hr]
    simp [hi]

/-- A settlement disturbs no transfer on the bus (R155). -/
theorem settle_inFlight (old : State) {u : State} {x : Transfer} (hb : u.regs.resetBusy = false) (h : u.Composed)
    (hx : u.mtu.inFlight = some x) : (State.settle old u).mtu.inFlight = some x := by
  obtain ⟨v, e, hm, -⟩ := settle_serves old hb h
  rw [e]
  exact serveBus_inFlight (by rw [hm, hx])

theorem cacheBoundary_fill (s : State) : s.cacheBoundary.cache.fill = s.cache.fill := by
  unfold State.cacheBoundary
  split
  · rcases atBoundary_cases s.cache with ⟨-, e⟩ | ⟨-, e⟩ | ⟨-, e⟩ <;> simp [e]
  · rfl

theorem controlFields_fill (s : State) (v : Word32) : (s.controlFields v).cache.fill = s.cache.fill := by
  unfold State.controlFields State.askFlush
  (repeat' split) <;> rfl

/-! ## RUN set (R3) -/

/-- The engine's side of RUN 1 ends a hold with HOST_PAUSE in the state of the gate (R4, R173). -/
theorem engineRun_paused {s : State} (hr : s.regs.run = true) (ho : s.engine.holdOwed = .none)
    (h : s.engine.state = .held .hostPause) : s.engineRun.engine = { s.engine with state := s.gate } := by
  have hd : s.dropPause = s := if_neg (by simp [ho])
  rw [engineRun_eq, hd, if_pos h, State.enterGate, if_pos (.inr hr), moveGate_engine]

theorem engineRun_held {s : State} {r : HoldReason} (h : s.engine.state = .held r) (hr : r ≠ .hostPause) :
    s.engineRun.engine.state = .held r := by
  have hd : s.dropPause.engine.state = .held r := by
    unfold State.dropPause
    split <;> exact h
  rw [engineRun_eq, if_neg (by rw [hd]; simp [hr]), hd]

/-- A RUN_SET that is taken: RUN is 1 and a scan has begun, the engine's side comes last. -/
theorem plainControl_runs {s : State} {v : Word32} (hv : v.getLsbD 0 = true) (hr : s.regs.run = false)
    (ha : s.hasArea = true) (hs : s.sc.scan = .noScan) :
    s.plainControl v = (s.controlFields v).started.beginScan.engineRun := by
  have harea : (s.controlFields v).hasArea = true := by rw [← ha]; exact hasArea_congr (by simp)
  rw [plainControl_eq, if_pos hv, runOn_taken (by simpa using hr) harea,
    trigger_begins rfl (by simpa [State.hasArea, State.started] using harea) (by simpa using hs)]

/-- Settles O12. -/
theorem runSetStartsAScan : Obligations.RunSetStartsAScan := by
  intro w s hb hv1 hv0 hrun harea hscan hcomp hr
  refine ⟨_, exec_controlPlain (.inl rfl) hb hv1, ?_⟩
  have f := plainControl_frame s w.word
  have k := plainControl_kept s w.word
  have hb' : (s.plainControl w.word).regs.resetBusy = false := k.raises.resetBusy.trans hb
  obtain ⟨e1, e2, e3, e4, e5, e6, e7, e8, e9⟩ := settle_control s f k hb hcomp hr
  obtain ⟨-, -, ccomp, cstreams⟩ := State.settle_composed s hb' (f.composed hcomp)
  obtain ⟨-, -, -, -, -, cengine, -⟩ := State.settle_calm s hb' (f.composed hcomp) (f.calm hr)
  obtain ⟨v, hv, vmtu, vstreams, varea, vcache⟩ := settle_serves s hb' (f.composed hcomp)
  have hu := plainControl_runs hv0 hrun harea hscan
  set begun := (s.controlFields w.word).started.beginScan with hbegun
  have setting := (engineRun_undisturbed begun).setting
  have husc : (s.plainControl w.word).sc = begun.sc := by rw [hu]; simp
  have hview : (State.settle s (s.plainControl w.word)).sc.view = begun.sc.view := by rw [State.settle_view, husc]
  have hgate : begun.gate = s.gate := gate_mounted (by simp [hbegun]) (by simp [hbegun]) (by simp [hbegun])
  have hengine : begun.engine = s.engine := by simp [hbegun]
  refine ⟨?_, ?_, congrArg ScanView.scan hview, congrArg ScanView.phase hview, ?_, fun ms hms hown => ?_,
    fun hst hho => ?_, fun r hst hne => ?_, fun hm hfill hq hclosed => ?_, e1, e2, e3, e4, e5, e6, e7, e8, e9⟩
  · simp only [State.settle_keeps, hu, setting.run]
    rfl
  · simp only [State.settle_keeps, hu, setting.sweepInterval]
    simp [hbegun, State.started, State.beginScan]
  · simp only [State.settle_keeps, hu, engineRun_engine]
    rfl
  · have hown' : (s.plainControl w.word).owner ≠ none := by rwa [owner_streams f.streams]
    rw [ccomp, State.grant_none (.inl hown'), hu]
    simp [hbegun, State.started, hms, FlushTimer.resume]
  · have hrun' : begun.regs.run = true := rfl
    have he : (s.plainControl w.word).engine = { s.engine with state := s.gate } := by
      rw [hu, engineRun_paused hrun' (by rw [hengine, hho]) (by rw [hengine, hst]), hengine, hgate]
    have hg : (s.plainControl w.word).gate = s.gate := gate_mounted (by rw [he]) (by rw [he]) f.store
    rw [cengine, State.engineStands (by rw [he]; exact hho) (.inl (by rw [hg, he])), he]
  · have he : (s.plainControl w.word).engine.state = .held r := by
      rw [hu]; exact engineRun_held (by rw [hengine, hst]) hne
    rw [cengine, engine_stands_ungated (by rw [he]; rfl), he]
  · have hgrant : (s.plainControl w.word).grant = s.plainControl w.word :=
      State.grant_none (.inr (.inr (f.queue.trans hq)))
    rw [hgrant] at vstreams
    have closed : ∀ n, (v.stream n).state = .closed := fun n => by
      have hcore := congrArg StreamRec.state (vstreams.core n)
      rw [stream_streams f.streams] at hcore
      exact hcore.trans (hclosed n)
    have hphase : v.sc.phase = .header := by
      have h := congrArg ScanView.phase vstreams.view
      exact h.trans (by rw [husc]; rfl)
    have hbase : v.regs.areaBase = s.regs.areaBase := varea.trans k.areaBase
    have hread : v.scanRead = some ⟨.areaHeader, s.regs.areaBase, 64, []⟩ := by
      have ha : v.hasArea = true := (hasArea_congr hbase).trans harea
      simp [State.scanRead, ha, hphase, readOf, State.areaAt, addrAt, hbase]
    rw [hv]
    refine serveBus_scanRead (vmtu.trans (f.mtu.trans hm)) ?_ hread
      (recordRead_none fun n => ringReadOf_closed (closed n))
    rw [vcache (f.calm hr), cacheBoundary_fill, hu]
    simp [hbegun, hfill, controlFields_fill]

/-! ## RUN cleared (R4) -/

theorem atBoundary_iff (s : State) : s.atBoundary = true ↔ s.builder.state = .still ∨ s.builder.state = .offering := by
  simp [State.atBoundary]

theorem isScan_iff (k : TransferKind) : k.isScan = true ↔
    k = .areaHeader ∨ k = .fontDirectory ∨ ∃ n, k = .descriptor n ∨ k = .openRead n := by
  cases k <;> simp [TransferKind.isScan]

/-- A read of the scan is PENDING or on the bus. -/
theorem scanIssued_iff (s : State) : s.scanIssued = true ↔ ∃ r : Request,
    (s.mtu.reader = .pending r ∨ ∃ t, s.mtu.inFlight = some t ∧ t.wanted = true ∧ t.request = r) ∧
      (r.kind = .areaHeader ∨ r.kind = .fontDirectory ∨ ∃ n, r.kind = .descriptor n ∨ r.kind = .openRead n) := by
  simp only [← isScan_iff, State.scanIssued, Bool.or_eq_true]
  constructor
  · rintro (h | h)
    · split at h
      · rename_i r hr
        exact ⟨r, .inl hr, h⟩
      · cases h
    · split at h
      · rename_i t ht
        obtain ⟨hw, hk⟩ := Bool.and_eq_true_iff.mp h
        exact ⟨t.request, .inr ⟨t, ht, hw, rfl⟩, hk⟩
      · cases h
  · rintro ⟨r, hr | ⟨t, ht, hw, rfl⟩, hk⟩
    · exact .inl (by simp [hr, hk])
    · exact .inr (by simp [ht, hw, hk])

/-- The scan stands at a read. -/
def ScanPhase.reading : ScanPhase → Bool
  | .header | .descriptor _ | .directory => true
  | _ => false

/-- The scan stands at a request, or at the second read of an OPEN. -/
def ScanPhase.underRequest : ScanPhase → Bool
  | .openRead _ _ | .request _ _ _ _ | .acting _ _ => true
  | _ => false

/-- A scan whose next read has not been asked for ends at once (log 12). -/
theorem cutScan_ends {s : State} (h : s.sc.phase.reading = true) (hi : s.scanIssued = false) :
    s.cutScan.sc = { s.sc with scan := .noScan, phase := .none, cut := false } := by
  cases e : s.sc.phase with
  | none | openRead | request | acting => rw [e] at h; cases h
  | header | descriptor | directory => simp [State.cutScan, e, hi]

/-- A scan whose read has been asked for is cut after it (log 12). -/
theorem cutScan_afterRead {s : State} (h : s.sc.phase.reading = true) (hi : s.scanIssued = true) :
    s.cutScan.sc = { s.sc with scan := .scanning, cut := true } := by
  cases e : s.sc.phase with
  | none | openRead | request | acting => rw [e] at h; cases h
  | header | descriptor | directory => simp [State.cutScan, e, hi]

/-- A scan that acts on a request, or is at an OPEN's second read, is cut after it (log 12). -/
theorem cutScan_afterRequest {s : State} (h : s.sc.phase.underRequest = true) :
    s.cutScan.sc = { s.sc with scan := .scanning, cut := true } := by
  cases e : s.sc.phase with
  | none | header | descriptor | directory => rw [e] at h; cases h
  | openRead | request | acting => simp [State.cutScan, e]

theorem enginePause_idle {s : State} (h : s.engine.state = .idle) : s.enginePause = s.enterHeld .hostPause := by
  simp [State.enginePause, h]

theorem enginePause_feeding {s : State} (h : s.engine.state = .feeding) (ho : s.engine.holdOwed = .none) :
    s.enginePause = { s with engine := { s.engine with holdOwed := .hostPause } } := by
  simp [State.enginePause, h, ho]

theorem enginePause_other {s : State} (h1 : s.engine.state ≠ .idle) (h2 : s.engine.state ≠ .feeding) :
    s.enginePause = s := by
  unfold State.enginePause
  split
  · rename_i e; exact absurd e h2
  · rename_i e; exact absurd e h1
  · rfl

/-- A RUN_CLEAR that is taken: RUN is 0 and the scan is cut, the engine's side comes last. -/
theorem plainControl_pauses {s : State} {v : Word32} (hv : v.getLsbD 0 = false) (hr : s.regs.run = true) :
    s.plainControl v = (s.controlFields v).stopped.cutScan.enginePause := by
  rw [plainControl_eq, if_neg (by rw [hv]; simp), runOff_taken (by simpa using hr)]

/-- A hold that is owed is entered at a band boundary, and raises OPERATOR (R13, R173). -/
theorem holdAtBoundary_pause {s : State} (hg : s.engine.state.gated = true) (hb : s.atBoundary = true)
    (ho : s.engine.holdOwed = .hostPause) : s.holdAtBoundary = s.enterHeld .hostPause := by
  unfold State.holdAtBoundary
  rw [if_pos ⟨hg, hb⟩, ho]

/-- Off a band boundary an owed hold waits. -/
theorem holdAtBoundary_waits {s : State} (h : s.atBoundary = false) : s.holdAtBoundary = s := if_neg (by simp [h])

theorem lookAtGate_agrees {s : State} (h : s.gate = s.engine.state) : s.lookAtGate = s := if_pos (.inr (.inr h))

theorem lookAtGate_ungated {s : State} (h : s.engine.state.gated = false) : s.lookAtGate = s := if_pos (.inl h)

/-- What RUN 0 does to the engine that `c` holds, the scan cut (R4, R173). -/
theorem pausedEngine {c t : State} (hb : c.regs.resetBusy = false)
    (he : t.engine = c.enginePause.holdAtBoundary.lookAtGate.engine)
    (hr : t.regs = c.enginePause.holdAtBoundary.lookAtGate.regs) :
    (c.engine.state = .idle → t.engine.state = .held .hostPause ∧ t.regs.events.getLsbD 8 = true) ∧
      (c.engine.state = .feeding → c.engine.holdOwed = .none → c.atBoundary = true →
        t.engine.state = .held .hostPause ∧ t.regs.events.getLsbD 8 = true) ∧
      (c.engine.state = .feeding → c.engine.holdOwed = .none → c.atBoundary = false → c.gate = .feeding →
        t.engine.state = .feeding ∧ t.engine.holdOwed = .hostPause) ∧
      (c.engine.state = .offline ∨ c.engine.state = .jammed ∨ (∃ r, c.engine.state = .held r) →
        t.engine.state = c.engine.state) ∧
      (c.engine.state = .formsWait → c.engine.holdOwed = .none → c.gate = .formsWait →
        t.engine.state = .formsWait) := by
  rw [he, hr]
  refine ⟨fun h => ?_, fun h ho ha => ?_, fun h ho ha hg => ?_, fun h => ?_, fun h ho hg => ?_⟩
  · have hs : (c.enterHeld .hostPause).engine.state = .held .hostPause := by simp
    rw [enginePause_idle h, engine_stands_ungated (by rw [hs]; rfl)]
    exact ⟨hs, enterHeld_raises hb (by simp [h]) _⟩
  · rw [enginePause_feeding h ho]
    rw [holdAtBoundary_pause (by simp [h, EngineState.gated]) (by simpa [State.atBoundary] using ha) rfl]
    rw [lookAtGate_ungated (by simp [EngineState.gated])]
    exact ⟨by simp, enterHeld_raises hb (by simp [h]) _⟩
  · have hg' : ({ c with engine := { c.engine with holdOwed := .hostPause } } : State).gate = .feeding := by
      rw [← hg]; exact gate_mounted rfl rfl rfl
    rw [enginePause_feeding h ho, holdAtBoundary_waits (by simpa [State.atBoundary] using ha),
      lookAtGate_agrees (by rw [hg', h])]
    exact ⟨h, rfl⟩
  · have hn : c.engine.state ≠ .idle ∧ c.engine.state ≠ .feeding ∧ c.engine.state.gated = false := by
      rcases h with h | h | ⟨r, h⟩ <;> simp [h, EngineState.gated]
    rw [enginePause_other hn.1 hn.2.1, engine_stands_ungated hn.2.2]
  · rw [enginePause_other (by simp [h]) (by simp [h]), State.engineStands ho (.inl (by rw [hg, h])), h]

/-- Settles O14. -/
theorem runClearPauses : Obligations.RunClearPauses := by
  refine ⟨fun s => ⟨atBoundary_iff s, scanIssued_iff s⟩, fun w s hb hv1 hv0 hrun hcomp hr =>
    ⟨_, exec_controlPlain (.inr (.inl rfl)) hb hv1, ?_⟩⟩
  have f := plainControl_frame s w.word
  have k := plainControl_kept s w.word
  have hb' : (s.plainControl w.word).regs.resetBusy = false := k.raises.resetBusy.trans hb
  obtain ⟨e1, e2, e3, e4, e5, e6, e7, e8, e9⟩ := settle_control s f k hb hcomp hr
  obtain ⟨-, -, ccomp, cstreams⟩ := State.settle_composed s hb' (f.composed hcomp)
  obtain ⟨-, -, -, -, -, cengine, cregs⟩ := State.settle_calm s hb' (f.composed hcomp) (f.calm hr)
  have hinflight : ∀ x, s.mtu.inFlight = some x → (State.settle s (s.plainControl w.word)).mtu.inFlight = some x :=
    fun x hx => settle_inFlight s hb' (f.composed hcomp) (by rw [f.mtu, hx])
  have hu := plainControl_pauses hv0 hrun
  set cut := (s.controlFields w.word).stopped.cutScan with hcut
  have hstop : (s.controlFields w.word).stopped.sc.phase = s.sc.phase := by simp
  have hissued : (s.controlFields w.word).stopped.scanIssued = s.scanIssued := by simp [State.scanIssued]
  have setting := (enginePause_undisturbed cut).setting
  have cutSetting := (cutScan_undisturbed (s.controlFields w.word).stopped).setting
  have hrun0 : (s.plainControl w.word).regs.run = false := by rw [hu, setting.run, cutSetting.run]; rfl
  have hgrant : (s.plainControl w.word).grant = s.plainControl w.word := State.grant_none (.inr (.inl hrun0))
  rw [hgrant] at ccomp cstreams
  have hview : (State.settle s (s.plainControl w.word)).sc.view = cut.sc.view := by rw [State.settle_view, hu]; simp
  have hscan := congrArg ScanView.scan hview
  have hphase := congrArg ScanView.phase hview
  have hcutFlag := congrArg ScanView.cut hview
  have hcomp' : (s.plainControl w.word).comp = (s.controlFields w.word).stopped.comp := by rw [hu]; simp [hcut]
  have engineFacts := pausedEngine (c := cut) (t := State.settle s (s.plainControl w.word))
    (by rw [cutSetting.resetBusy]; simpa [State.stopped] using hb) (by rw [cengine, hu]) (by rw [cregs, hu])
  have hgate : cut.gate = s.gate := gate_mounted (by simp [hcut]) (by simp [hcut]) (by simp [hcut])
  have hbound : cut.atBoundary = s.atBoundary := by simp [hcut, State.atBoundary]
  have hengine : cut.engine = s.engine := by simp [hcut]
  rw [hgate, hbound, hengine] at engineFacts
  obtain ⟨g1, g2, g3, g4, g5⟩ := engineFacts
  have ended : s.sc.phase.reading = true → s.scanIssued = false →
      (State.settle s (s.plainControl w.word)).sc.phase = .none ∧
        (State.settle s (s.plainControl w.word)).sc.scan = .noScan := fun hp hi => by
    have e := cutScan_ends (by rw [hstop, hp]) (by rw [hissued, hi])
    exact ⟨hphase.trans (by rw [hcut, e]; rfl), hscan.trans (by rw [hcut, e]; rfl)⟩
  have cutAfter : (s.sc.phase.reading = true ∧ s.scanIssued = true) ∨ s.sc.phase.underRequest = true →
      (State.settle s (s.plainControl w.word)).sc.phase = s.sc.phase ∧
        (State.settle s (s.plainControl w.word)).sc.scan = .scanning ∧
        (State.settle s (s.plainControl w.word)).sc.cut = true := fun h => by
    have e : cut.sc = { s.sc with scan := .scanning, cut := true } := by
      rw [hcut]
      rcases h with ⟨hp, hi⟩ | hp
      · rw [cutScan_afterRead (by rw [hstop, hp]) (by rw [hissued, hi])]; simp
      · rw [cutScan_afterRequest (by rw [hstop, hp])]; simp
    exact ⟨hphase.trans (by rw [e]; rfl), hscan.trans (by rw [e]; rfl), hcutFlag.trans (by rw [e]; rfl)⟩
  have reading : s.sc.phase = .header ∨ (∃ n, s.sc.phase = .descriptor n) ∨ s.sc.phase = .directory →
      s.sc.phase.reading = true := by
    rintro (h | ⟨n, h⟩ | h) <;> rw [h] <;> rfl
  refine ⟨by simpa using hrun0, ?_, fun ms hms => ?_, ?_, fun n => ?_, ?_, fun hp => ended (reading hp),
    fun hp hi => cutAfter (.inl ⟨reading hp, hi⟩), hinflight, fun n x b z hp => cutAfter (.inr (by rw [hp]; rfl)),
    fun n x hp => cutAfter (.inr (by rw [hp]; rfl)), g1, g2, g3, g4, g5,
    fun n x hp => cutAfter (.inr (by rw [hp]; rfl)), e1, e2, e3, e4, e5, e6, e7, e8, e9⟩
  · simp only [State.settle_keeps, hu, enginePause_sent]
    exact (cutScan_sc _).2.1
  · rw [ccomp, hcomp']
    simp [State.stopped, hms, FlushTimer.pause]
  · rw [ccomp]; exact f.compState
  · have hcore := congrArg StreamRec.state (cstreams.core n)
    rw [stream_streams f.streams] at hcore
    exact hcore
  · rw [cstreams.queue, f.queue]

end Sys2Proof.Machine
end

section
/-! SUPPORT. The image gate, the wait reasons after a settlement, and the statement about START and STOP. -/

namespace Sys2Proof.Machine

/-! ## The image gate (R172) -/

theorem anyOnEngine_iff (s : State) : s.anyOnEngine = true ↔ ∃ i, (s.slot i).state = .imaging ∨ (s.slot i).state = .sent := by
  simp only [State.anyOnEngine, any_allSlots, Slot.onEngine, decide_eq_true_eq]

/-- The head of imaging is the first slot of the imaging list that has an entry (R101). -/
theorem head_append {s : State} {front back : List (Fin 4)} {i : Fin 4} (h : s.store.imaging = front ++ i :: back)
    (hf : ∀ k ∈ front, (s.slot k).entry = none) (hi : (s.slot i).entry ≠ none) : s.head = some i := by
  rw [State.head, h, List.find?_append]
  have hnone : front.find? (fun k => (s.slot k).entry.isSome) = none := by
    rw [List.find?_eq_none]
    intro k hk
    simp [hf k hk]
  simp [hnone, Option.isSome_iff_ne_none.mpr hi]

theorem head_none {s : State} (h : ∀ i ∈ s.store.imaging, (s.slot i).entry = none) : s.head = none := by
  rw [State.head, List.find?_eq_none]
  intro i hi
  simp [h i hi]

theorem keyMatches_iff (s : State) (i : Fin 4) : s.keyMatches i = true ↔
    (s.slot i).copy.stock = s.engine.mountedStock ∧ (s.slot i).copy.length = s.engine.mountedLength := by
  simp [State.keyMatches]

theorem gate_onEngine {s : State} (h : ∃ i, (s.slot i).state = .imaging ∨ (s.slot i).state = .sent) :
    s.gate = .feeding := by
  have e := (anyOnEngine_iff s).mpr h
  unfold State.gate
  split <;> simp [e]

theorem gate_key {s : State} {i : Fin 4} (hh : s.head = some i)
    (h : (s.slot i).copy.stock = s.engine.mountedStock ∧ (s.slot i).copy.length = s.engine.mountedLength) :
    s.gate = .feeding := by
  simp [State.gate, hh, (keyMatches_iff s i).mpr h]

theorem anyOnEngine_false {s : State} (h : ∀ i, (s.slot i).state ≠ .imaging ∧ (s.slot i).state ≠ .sent) :
    s.anyOnEngine = false := by
  rw [← Bool.not_eq_true, anyOnEngine_iff]
  rintro ⟨i, hi⟩
  exact hi.elim (h i).1 (h i).2

/-- What the gate gives, by the head of imaging and the slots on the engine (R172). -/
theorem gate_facts (s : State) :
    ((∀ i ∈ s.store.imaging, (s.slot i).entry = none) →
      ((∃ i, (s.slot i).state = .imaging ∨ (s.slot i).state = .sent) → s.gate = .feeding) ∧
        ((∀ i, (s.slot i).state ≠ .imaging ∧ (s.slot i).state ≠ .sent) → s.gate = .idle)) ∧
    ∀ front i back, s.store.imaging = front ++ i :: back → (∀ k ∈ front, (s.slot k).entry = none) →
      (s.slot i).entry ≠ none → s.head = some i ∧
        (((s.slot i).copy.stock = s.engine.mountedStock ∧ (s.slot i).copy.length = s.engine.mountedLength) ∨
            (∃ k, (s.slot k).state = .imaging ∨ (s.slot k).state = .sent) → s.gate = .feeding) ∧
        ((s.slot i).copy.stock ≠ s.engine.mountedStock ∨ (s.slot i).copy.length ≠ s.engine.mountedLength →
          (∀ k, (s.slot k).state ≠ .imaging ∧ (s.slot k).state ≠ .sent) → s.gate = .formsWait) := by
  refine ⟨fun h => ⟨gate_onEngine, fun hn => ?_⟩, fun front i back h hf hi => ?_⟩
  · simp [State.gate, head_none h, anyOnEngine_false hn]
  · have hh := head_append h hf hi
    refine ⟨hh, fun k => k.elim (gate_key hh) gate_onEngine, fun hk hn => ?_⟩
    have hm : s.keyMatches i = false := by
      rw [← Bool.not_eq_true, keyMatches_iff]
      exact fun ⟨h1, h2⟩ => hk.elim (· h1) (· h2)
    simp [State.gate, hh, hm, anyOnEngine_false hn]

/-! ## The wait reasons (R20) -/

theorem makeReport_wait (old s : State) (n m : Fin 8) :
    ((State.makeReport old s n).stream m).wait = (s.stream m).wait ∧
      ((State.makeReport old s n).stream m).state = (s.stream m).state := by
  rcases makeReport_cases old s n with e | ⟨p, rest, -, -, -, e⟩
  · rw [e]; exact ⟨rfl, rfl⟩
  · rw [e, State.stream_ask, State.stream_modStream]
    split <;> exact ⟨rfl, rfl⟩

theorem foldl_makeReport_wait (old : State) (l : List (Fin 8)) (s : State) (m : Fin 8) :
    ((l.foldl (State.makeReport old) s).stream m).wait = (s.stream m).wait ∧
      ((l.foldl (State.makeReport old) s).stream m).state = (s.stream m).state := by
  induction l generalizing s with
  | nil => exact ⟨rfl, rfl⟩
  | cons n l ih =>
    obtain ⟨h1, h2⟩ := ih (State.makeReport old s n)
    obtain ⟨k1, k2⟩ := makeReport_wait old s n m
    exact ⟨h1.trans k1, h2.trans k2⟩

/-- The Status Writer's turn leaves every stream with the wait reason that its state and the engine's give. -/
theorem settleStatus_wait (old s : State) (n : Fin 8) : ((State.settleStatus old s).stream n).wait =
    if ((State.settleStatus old s).stream n).state = .active then s.activeWait else .none := by
  have hsync : (s.syncWaits.stream n).wait = if (s.syncWaits.stream n).state = .active then s.activeWait else .none := by
    simp [State.stream, State.syncWaits]
  have hsc : (State.settleStatus old s).sc =
      (allStreams.foldl (State.makeReport old) (State.askChanged old s.syncWaits)).sc := by simp [State.settleStatus]
  obtain ⟨h1, h2⟩ := foldl_makeReport_wait old allStreams (State.askChanged old s.syncWaits) n
  have hasked : (State.askChanged old s.syncWaits).stream n = s.syncWaits.stream n := State.stream_congr (by simp) n
  rw [State.stream_congr hsc, h1, h2, hasked, hsync]

theorem activeWait_congr {s t : State} (h1 : s.engine = t.engine) (h2 : s.comp = t.comp) : s.activeWait = t.activeWait := by
  simp only [State.activeWait, h1, h2]

theorem serveBus_streams (s : State) : s.serveBus.sc.streams = s.sc.streams := by
  obtain ⟨a, b, h⟩ := serveBus_sc s
  rw [h]

/-- After a settlement every stream shows its wait reason (R20). -/
theorem settle_wait (old : State) {u : State} (hb : u.regs.resetBusy = false) (n : Fin 8) :
    ((State.settle old u).stream n).wait = (State.settle old u).waitOf n := by
  have e : State.settle old u = (State.settleStatus old (u.settleImaging.settleComposer.settleEngine)).serveBus := by
    simp [State.settle, hb]
  set v := u.settleImaging.settleComposer.settleEngine
  have hs : (State.settle old u).stream n = (State.settleStatus old v).stream n := by
    rw [e]; exact stream_streams (serveBus_streams _) n
  have hw : (State.settle old u).activeWait = v.activeWait := by rw [e]; exact activeWait_congr (by simp) (by simp)
  rw [State.waitOf, hs, hw, settleStatus_wait]

/-- The wait reason of a stream, spelled out by the states of the engine and of the Composer (R20, R181). -/
theorem waitOf_cases (t : State) (n : Fin 8) : t.waitOf n =
    if (t.stream n).state ≠ .active then .none
    else match t.engine.state with
      | .formsWait => .forms
      | .jammed => .jam
      | .offline => .offline
      | .held .returned => .offline
      | .held .operatorStop => .operatorStop
      | .held .notReady => .notReady
      | .held .hostPause => .hostPause
      | .idle | .feeding =>
        if t.comp.state = .waitSlot ∨ t.comp.state = .waitStrike then .slotWait else .none := by
  by_cases ha : (t.stream n).state = .active
  · rw [State.waitOf, if_pos ha, if_neg (not_not_intro ha), State.activeWait]
    cases t.engine.state with
    | held r => cases r <;> rfl
    | _ => rfl
  · rw [State.waitOf, if_neg ha, if_pos ha]

/-! ## START and STOP (R173, R174, R178) -/

theorem press_acts {s : State} {b : Button} (h : (s.panel.buttons.get b).down = false) (hb : s.regs.resetBusy = false)
    (act : State → State) : s.press b act = act (s.setButton b ⟨true, true⟩) := by
  simp [State.press, h, hb]

/-- What the Engine Controller takes as it enters the gate (R4, R172). -/
theorem enterGate_engine (s : State) : s.enterGate.engine =
    if s.gate = .formsWait ∨ s.regs.run = true then { s.engine with state := s.gate }
    else { s.engine with state := .held .hostPause, holdOwed := .none } := by
  unfold State.enterGate
  split <;> simp

/-- Having entered the gate the engine stands through the settlement. -/
theorem enterGate_stands {s : State} (ho : s.engine.holdOwed = .none) :
    s.enterGate.holdAtBoundary.lookAtGate = s.enterGate := by
  have he := enterGate_engine s
  by_cases h : s.gate = .formsWait ∨ s.regs.run = true
  · rw [if_pos h] at he
    have hg : s.enterGate.gate = s.gate := gate_mounted (by rw [he]) (by rw [he]) (by simp)
    exact State.engineStands (by rw [he]; exact ho) (.inl (by rw [hg, he]))
  · rw [if_neg h] at he
    exact engine_stands_ungated (by rw [he]; rfl)

theorem pressStart_enters {s : State} (hr : s.engine.cond.ready = true)
    (h : s.engine.state = .jammed ∨ ∃ r, s.engine.state = .held r ∧ r ≠ .hostPause) : s.pressStart = s.enterGate := by
  rcases h with h | ⟨r, h, hne⟩
  · simp [State.pressStart, hr, h]
  · cases r <;> simp [State.pressStart, hr, h] at hne ⊢

/-- The head's stock mounted, with nothing known of the alignment (R174). -/
def State.mounted (s : State) (c : FormCopy) : State :=
  { s with engine := { s.engine with
      mountedStock := c.stock
      mountedLength := c.length
      mountedPitch := some c.pitch
      alignment := .unknown } }

theorem pressStart_mounts {s : State} {i : Fin 4} (hr : s.engine.cond.ready = true) (h : s.engine.state = .formsWait)
    (hh : s.head = some i) : s.pressStart = (s.mounted (s.slot i).copy).enterGate := by
  simp [State.pressStart, hr, h, State.mountHead, hh, State.mounted]

/-- With the head's stock mounted the gate gives FEEDING. -/
theorem gate_mountedHead {s : State} {i : Fin 4} (hh : s.head = some i) :
    (s.mounted (s.slot i).copy).gate = .feeding :=
  gate_key (s := s.mounted (s.slot i).copy) (i := i) hh ⟨rfl, rfl⟩

theorem pressStart_ignored {s : State} (h : s.engine.cond.ready = false ∨ s.engine.state = .held .hostPause ∨
    s.engine.state = .idle ∨ s.engine.state = .feeding ∨ s.engine.state = .offline) : s.pressStart = s := by
  unfold State.pressStart
  split
  · rename_i hr
    rcases h with h | h | h | h | h
    · rw [hr] at h; cases h
    all_goals rw [h]
  · rfl

theorem holdAtBoundary_stop {s : State} (hg : s.engine.state.gated = true) (hb : s.atBoundary = true)
    (ho : s.engine.holdOwed = .operatorStop) : s.holdAtBoundary = s.enterHeld .operatorStop := by
  unfold State.holdAtBoundary
  rw [if_pos ⟨hg, hb⟩, ho]

/-- From `s` to `u` only the engine's own registers, the events raised and the panel move. -/
structure State.EngineTurn (s u : State) : Prop where
  raises : s.regs.Raises u.regs
  sc : u.sc = s.sc
  comp : u.comp = s.comp
  form : u.form = s.form
  store : u.store = s.store
  builder : u.builder = s.builder
  hostMem : u.hostMem = s.hostMem
  linkOut : u.linkOut = s.linkOut
  sent : u.engine.sent = s.engine.sent

theorem State.EngineTurn.refl (s : State) : s.EngineTurn s := ⟨.of_eq rfl rfl, rfl, rfl, rfl, rfl, rfl, rfl, rfl, rfl⟩

theorem State.EngineTurn.trans {s t u : State} (h : s.EngineTurn t) (k : t.EngineTurn u) : s.EngineTurn u :=
  ⟨h.raises.trans k.raises, k.sc.trans h.sc, k.comp.trans h.comp, k.form.trans h.form, k.store.trans h.store,
    k.builder.trans h.builder, k.hostMem.trans h.hostMem, k.linkOut.trans h.linkOut, k.sent.trans h.sent⟩

theorem setButton_turn (s : State) (b : Button) (r : ButtonRec) : s.EngineTurn (s.setButton b r) :=
  ⟨.of_eq rfl rfl, rfl, rfl, rfl, rfl, rfl, rfl, rfl, rfl⟩

theorem mounted_turn (s : State) (c : FormCopy) : s.EngineTurn (s.mounted c) :=
  ⟨.of_eq rfl rfl, rfl, rfl, rfl, rfl, rfl, rfl, rfl, rfl⟩

theorem enterGate_turn (s : State) : s.EngineTurn s.enterGate := by
  have hr : s.regs.Raises s.enterGate.regs := (enterGate_undisturbed s).raises
  have hsent : s.enterGate.engine.sent = s.engine.sent := by
    rw [enterGate_engine]
    split <;> rfl
  unfold State.enterGate at hr hsent ⊢
  split <;> constructor <;> simp_all

theorem pressStart_turn (s : State) : s.EngineTurn s.pressStart := by
  have hmount : s.EngineTurn s.mountHead := by
    unfold State.mountHead
    split
    · exact (mounted_turn s _).trans (enterGate_turn _)
    · exact .refl s
  unfold State.pressStart
  split
  · split
    · exact .refl s
    · exact enterGate_turn s
    · exact enterGate_turn s
    · exact hmount
    · exact .refl s
  · exact .refl s

theorem pressStop_turn (s : State) : s.EngineTurn s.pressStop := by
  unfold State.pressStop
  split
  · exact ⟨.of_eq rfl rfl, rfl, rfl, rfl, rfl, rfl, rfl, rfl, rfl⟩
  · exact .refl s

/-- What the settlement after a press shows that moves the engine alone. -/
theorem settle_press {s u : State} (hb : s.regs.resetBusy = false) (hc : s.Composed) (hr : s.refusalWaits = false)
    (hu : s.EngineTurn u) :
    (State.settle s u).panel = u.panel ∧ (State.settle s u).engine = u.holdAtBoundary.lookAtGate.engine ∧
      (State.settle s u).regs = u.holdAtBoundary.lookAtGate.regs ∧
      (State.settle s u).store = s.store ∧ (State.settle s u).builder = s.builder ∧
      (State.settle s u).linkOut = s.linkOut ∧ (State.settle s u).hostMem = s.hostMem := by
  have hb' : u.regs.resetBusy = false := hu.raises.resetBusy.trans hb
  have hc' : u.Composed :=
    ⟨by rw [hu.comp]; exact hc.waits, by rw [hu.sc]; exact hc.readFailed, by rw [hu.form]; exact hc.noCheck⟩
  have hr' : u.refusalWaits = false := by rw [← hr, State.refusalWaits, State.refusalWaits, hu.sent]
  obtain ⟨h1, -⟩ := State.settle_composed s hb' hc'
  obtain ⟨c1, c2, c3, -, -, c6, c7⟩ := State.settle_calm s hb' hc' hr'
  exact ⟨c3, c6, c7, h1.trans hu.store, c2.trans hu.builder, c1.trans hu.linkOut, by simpa using hu.hostMem⟩

theorem exec_startButton {s : State} (h : s.panel.buttons.start.down = false) (hb : s.regs.resetBusy = false) :
    exec .startButton s = .next (State.settle s (s.setButton .start ⟨true, true⟩).pressStart) :=
  congrArg (fun u => Host.Outcome.next (State.settle s u)) (press_acts (b := .start) h hb State.pressStart)

theorem exec_stopButton {s : State} (h : s.panel.buttons.stop.down = false) (hb : s.regs.resetBusy = false) :
    exec .stopButton s = .next (State.settle s (s.setButton .stop ⟨true, true⟩).pressStop) :=
  congrArg (fun u => Host.Outcome.next (State.settle s u)) (press_acts (b := .stop) h hb State.pressStop)

theorem pressStart_panel (s : State) : s.pressStart.panel = s.panel := by
  have hgate (t : State) : t.enterGate.panel = t.panel := by unfold State.enterGate; split <;> simp
  unfold State.pressStart State.mountHead
  split
  · split
    · rfl
    · exact hgate s
    · exact hgate s
    · split
      · exact hgate _
      · rfl
    · rfl
  · rfl

theorem pressStop_panel (s : State) : s.pressStop.panel = s.panel := by
  unfold State.pressStop
  split <;> rfl

/-- With no hold owed, START out of HELD or JAMMED gives the engine the state of the gate (R173). -/
theorem pressStart_gate {u : State} (ho : u.engine.holdOwed = .none) (hr : u.engine.cond.ready = true)
    (h : u.engine.state = .jammed ∨ ∃ r, u.engine.state = .held r ∧ r ≠ .hostPause) :
    (u.regs.run = true → u.pressStart.holdAtBoundary.lookAtGate.engine.state = u.gate ∧
      u.pressStart.holdAtBoundary.lookAtGate.engine.mountedStock = u.engine.mountedStock) ∧
    (u.regs.run = false → u.pressStart.holdAtBoundary.lookAtGate.engine.state =
      if u.gate = .formsWait then .formsWait else .held .hostPause) := by
  rw [pressStart_enters hr h, enterGate_stands ho, enterGate_engine]
  constructor
  · intro hrun
    rw [if_pos (.inr hrun)]
    exact ⟨rfl, rfl⟩
  · intro hrun
    by_cases hg : u.gate = .formsWait
    · rw [if_pos (.inl hg), if_pos hg]
      exact hg
    · rw [if_neg (by simp [hg, hrun]), if_neg hg]

/-- With no hold owed, START in FORMS_WAIT mounts the head's stock and imaging goes on, or is held (R174). -/
theorem pressStart_mountsHead {u : State} {i : Fin 4} (hb : u.regs.resetBusy = false) (ho : u.engine.holdOwed = .none)
    (hr : u.engine.cond.ready = true) (hw : u.engine.state = .formsWait) (hh : u.head = some i) :
    (u.regs.run = true → u.pressStart.holdAtBoundary.lookAtGate.engine.state = .feeding) ∧
    (u.regs.run = false → u.pressStart.holdAtBoundary.lookAtGate.engine.state = .held .hostPause ∧
      u.pressStart.holdAtBoundary.lookAtGate.regs.events.getLsbD 8 = true) ∧
    u.pressStart.holdAtBoundary.lookAtGate.engine.mountedStock = (u.slot i).copy.stock ∧
    u.pressStart.holdAtBoundary.lookAtGate.engine.mountedLength = (u.slot i).copy.length ∧
    u.pressStart.holdAtBoundary.lookAtGate.engine.mountedPitch = some (u.slot i).copy.pitch ∧
    u.pressStart.holdAtBoundary.lookAtGate.engine.alignment = .unknown := by
  have hg : (u.mounted (u.slot i).copy).gate = .feeding := gate_mountedHead hh
  rw [pressStart_mounts hr hw hh, enterGate_stands (s := u.mounted (u.slot i).copy) ho, enterGate_engine, hg]
  by_cases hrun : u.regs.run = true
  · rw [if_pos (.inr hrun)]
    exact ⟨fun _ => rfl, fun h => by simp [hrun] at h, rfl, rfl, rfl, rfl⟩
  · have hheld : (u.mounted (u.slot i).copy).enterGate = (u.mounted (u.slot i).copy).enterHeld .hostPause :=
      if_neg (fun h => h.elim (fun e => by rw [hg] at e; cases e) hrun)
    rw [if_neg (fun h => h.elim nofun hrun), hheld]
    have hraised := enterHeld_raises (s := u.mounted (u.slot i).copy) hb (fun r e => by
      rw [State.mounted, hw] at e; cases e) .hostPause
    exact ⟨fun h => absurd h hrun, fun _ => ⟨rfl, hraised⟩, rfl, rfl, rfl, rfl⟩

/-- START where it is not acted on leaves the engine standing (R173, R174). -/
theorem pressStart_stands {u : State} (ho : u.engine.holdOwed = .none)
    (h : u.engine.cond.ready = false ∨ u.engine.state = .held .hostPause ∨ u.engine.state = .idle ∨
      u.engine.state = .feeding ∨ u.engine.state = .offline)
    (hg : u.gate = u.engine.state ∨ u.engine.halting = true ∨
      (u.engine.state ≠ .idle ∧ u.engine.state ≠ .feeding ∧ u.engine.state ≠ .formsWait)) :
    u.pressStart.holdAtBoundary.lookAtGate = u := by
  rw [pressStart_ignored h]
  exact State.engineStands ho hg

/-- STOP owes a hold in FEEDING, which takes hold at the band boundary (R173). -/
theorem pressStop_holds {u : State} (hb : u.regs.resetBusy = false) (hf : u.engine.state = .feeding) :
    (u.atBoundary = true → u.pressStop.holdAtBoundary.lookAtGate.engine.state = .held .operatorStop ∧
      u.pressStop.holdAtBoundary.lookAtGate.regs.events.getLsbD 8 = true) ∧
    (u.atBoundary = false → u.gate = .feeding → u.pressStop.holdAtBoundary.lookAtGate.engine.state = .feeding ∧
      u.pressStop.holdAtBoundary.lookAtGate.engine.holdOwed = .operatorStop) := by
  have hp : u.pressStop = { u with engine := { u.engine with holdOwed := .operatorStop } } := if_pos hf
  have hf' : u.pressStop.engine.state = .feeding := by rw [hp]; exact hf
  constructor
  · intro hat
    have hheld : u.pressStop.holdAtBoundary = u.pressStop.enterHeld .operatorStop :=
      holdAtBoundary_stop (by rw [hf']; rfl) (by rw [hp]; exact hat) (by rw [hp])
    rw [hheld, lookAtGate_ungated (by rw [enterHeld_engine]; rfl), enterHeld_engine]
    exact ⟨rfl, enterHeld_raises (by rw [hp]; exact hb) (fun r => by rw [hf']; exact nofun) .operatorStop⟩
  · intro hat hg
    have hgate : u.pressStop.gate = .feeding := by rw [hp]; exact hg
    rw [holdAtBoundary_waits (by rw [hp]; exact hat), lookAtGate_agrees (hgate.trans hf'.symm)]
    exact ⟨hf', by rw [hp]⟩

/-- Settles O58: what START and STOP do is read off the engine that the settlement looks at. -/
theorem startAndStopHoldAndResume : Obligations.StartAndStopHoldAndResume := by
  unfold Obligations.StartAndStopHoldAndResume
  refine ⟨gate_facts, fun c s hb hc => ?_, fun s hb hc hr ho => ⟨fun hd => ?_, fun hd => ?_⟩⟩
  · have shown (u : State) (hu : u.regs.resetBusy = false) (n : Fin 8) :=
      (settle_wait s hu n).trans (waitOf_cases (State.settle s u) n)
    rcases hc with rfl | rfl
    · exact ⟨_, rfl, shown _ ((press_follows s .start pressStart_undisturbed).1.resetBusy.trans hb)⟩
    · exact ⟨_, rfl, shown _ ((press_follows s .stop fun u => .of_eq (by simp) (by simp)).1.resetBusy.trans hb)⟩
  · obtain ⟨hp, he, hregs, hframe⟩ :=
      settle_press hb hc hr ((setButton_turn s .start ⟨true, true⟩).trans (pressStart_turn _))
    refine ⟨_, exec_startButton hd hb, ?_, ?_, ?_, ?_, ?_, ?_, ?_, hframe⟩
    · rw [hp, pressStart_panel]; rfl
    · intro i hready hw hh hrun _
      obtain ⟨h1, -, h3⟩ := pressStart_mountsHead (u := s.setButton .start ⟨true, true⟩) hb ho hready hw hh
      rw [he]
      exact ⟨h1 hrun, h3⟩
    · intro r hready hheld hne hrun
      rw [he]
      exact (pressStart_gate (u := s.setButton .start ⟨true, true⟩) ho hready (.inr ⟨r, hheld, hne⟩)).1 hrun
    · intro hready hj hrun
      rw [he]
      exact ((pressStart_gate (u := s.setButton .start ⟨true, true⟩) ho hready (.inl hj)).1 hrun).1
    · intro i hready hw hh hrun
      obtain ⟨-, h2, h3, h4, h5, h6⟩ :=
        pressStart_mountsHead (u := s.setButton .start ⟨true, true⟩) hb ho hready hw hh
      rw [he, hregs]
      exact ⟨(h2 hrun).1, h3, h4, h5, h6, (h2 hrun).2⟩
    · intro hready h hrun
      rw [he]
      exact (pressStart_gate (u := s.setButton .start ⟨true, true⟩) ho hready h).2 hrun
    · intro h hg
      rw [he, pressStart_stands (u := s.setButton .start ⟨true, true⟩) ho h hg]
      rfl
  · obtain ⟨hp, he, hregs, hframe⟩ :=
      settle_press hb hc hr ((setButton_turn s .stop ⟨true, true⟩).trans (pressStop_turn _))
    refine ⟨_, exec_stopButton hd hb, ?_, ?_, ?_, ?_, hframe⟩
    · rw [hp, pressStop_panel]; rfl
    · intro hf hat
      rw [he, hregs]
      exact (pressStop_holds (u := s.setButton .stop ⟨true, true⟩) hb hf).1 hat
    · intro hf hat hg
      rw [he]
      exact (pressStop_holds (u := s.setButton .stop ⟨true, true⟩) hb hf).2 hat hg
    · intro hf hg
      have hstay : (s.setButton .stop ⟨true, true⟩).pressStop = s.setButton .stop ⟨true, true⟩ := if_neg hf
      rw [he, hstay, State.engineStands (u := s.setButton .stop ⟨true, true⟩) ho
        (hg.imp id (Or.imp id fun h => ⟨h.1, hf, h.2⟩))]
      rfl

end Sys2Proof.Machine
end

section
/-! SUPPORT. What a settlement does to one stream: the owed writes it joins, the job report it makes, and the record it
leaves, when nothing of the Composer moves. -/

namespace Sys2Proof.Machine

/-! ## Owed writes that join (R160, R161) -/

/-- The write that carries what `o` and `p` owe. -/
def Owed.join (o p : Owed) : Owed := ⟨o.kind, o.event || p.event, o.report || p.report, o.result || p.result⟩

/-- The write of the kind of `o` that waits first carries at least `o`; every further request of that kind joins it. -/
def State.Waits (s : State) (o : Owed) : Prop :=
  ∃ w, s.writer.waiting.find? (fun w => decide (w.kind = o.kind)) = some w ∧ w.Covers o

theorem find?_askOwed_same (o : Owed) (l : List Owed) : (askOwed o l).find? (fun w => decide (w.kind = o.kind)) =
    some ((l.find? fun w => decide (w.kind = o.kind)).elim o fun w => w.join o) := by
  induction l with
  | nil => simp [askOwed]
  | cons a l ih =>
    by_cases h : a.kind = o.kind
    · simp [askOwed, h, Owed.join]
    · simp [askOwed, h, ih]

theorem find?_askOwed_other {o : Owed} {k : OwedKind} (h : o.kind ≠ k) (l : List Owed) :
    (askOwed o l).find? (fun w => decide (w.kind = k)) = l.find? fun w => decide (w.kind = k) := by
  induction l with
  | nil => simp [askOwed, h]
  | cons a l ih =>
    by_cases ha : a.kind = o.kind
    · simp [askOwed, ha, h]
    · simp [askOwed, ha, List.find?_cons, ih]

theorem State.ask_waits (s : State) (o : Owed) : (s.ask o).Waits o := by
  refine ⟨_, find?_askOwed_same o s.writer.waiting, ?_⟩
  cases h : s.writer.waiting.find? fun w => decide (w.kind = o.kind) with
  | none => exact o.covers_refl
  | some w =>
    have hk : w.kind = o.kind := by simpa using List.find?_some h
    exact ⟨hk, by simp +contextual [Owed.join], by simp +contextual [Owed.join], by simp +contextual [Owed.join]⟩

theorem State.Waits.congr {s t : State} {o : Owed} (h : s.Waits o) (k : t.writer = s.writer) : t.Waits o := by
  rwa [State.Waits, k]

/-- A further request of the same kind joins the write that waits. -/
theorem State.Waits.join {s : State} {o p : Owed} (h : s.Waits o) (k : p.kind = o.kind) : (s.ask p).Waits (o.join p) := by
  obtain ⟨w, hw, c1, c2, c3, c4⟩ := h
  have hf := find?_askOwed_same p s.writer.waiting
  rw [k, hw] at hf
  exact ⟨w.join p, hf, c1, by simp [Owed.join]; tauto, by simp [Owed.join]; tauto, by simp [Owed.join]; tauto⟩

theorem State.Waits.ask {s : State} {o : Owed} (h : s.Waits o) (p : Owed) : (s.ask p).Waits o := by
  by_cases k : p.kind = o.kind
  · obtain ⟨w, hw, c1, c2, c3, c4⟩ := h.join k
    exact ⟨w, hw, c1, fun e => c2 (by simp [Owed.join, e]), fun e => c3 (by simp [Owed.join, e]),
      fun e => c4 (by simp [Owed.join, e])⟩
  · obtain ⟨w, hw, c⟩ := h
    exact ⟨w, (find?_askOwed_other k s.writer.waiting).trans hw, c⟩

theorem State.Waits.owes {s : State} {o : Owed} (h : s.Waits o) : s.Owes o := by
  obtain ⟨w, hw, c⟩ := h
  exact ⟨w, List.mem_append_left _ (List.mem_of_find?_eq_some hw), c⟩

/-- A write that carries more is owed too. -/
theorem State.Owes.weaken {s : State} {o p : Owed} (h : s.Owes o) (k : o.Covers p) : s.Owes p := by
  obtain ⟨w, hw, c1, c2, c3, c4⟩ := h
  obtain ⟨k1, k2, k3, k4⟩ := k
  exact ⟨w, hw, c1.trans k1, c2 ∘ k2, c3 ∘ k3, c4 ∘ k4⟩

theorem State.Waits.askChanged {s : State} {o : Owed} (h : s.Waits o) (old : State) : (State.askChanged old s).Waits o := by
  unfold State.askChanged
  generalize allStreams = l
  induction l generalizing s with
  | nil => exact h
  | cons a l ih =>
    apply ih
    dsimp only
    split
    · exact h
    · exact h.ask _

theorem State.Waits.makeReport {s : State} {o : Owed} (h : s.Waits o) (old : State) (n : Fin 8) :
    (State.makeReport old s n).Waits o := by
  rcases makeReport_cases old s n with e | ⟨p, rest, -, -, -, e⟩ <;> rw [e]
  · exact h
  · exact (h.congr (t := s.modStream n _) rfl).ask _

theorem State.Waits.foldl_makeReport {o : Owed} (old : State) (l : List (Fin 8)) {s : State} (h : s.Waits o) :
    (l.foldl (State.makeReport old) s).Waits o := by
  induction l generalizing s with
  | nil => exact h
  | cons a l ih => exact ih (h.makeReport old a)

/-! ## A report on its way (R161) -/

theorem any_askOwed (o : Owed) (n : Fin 8) (l : List Owed) :
    (askOwed o l).any (fun w => decide (w.kind = .descriptor n) && w.report) =
      (l.any (fun w => decide (w.kind = .descriptor n) && w.report) || (decide (o.kind = .descriptor n) && o.report)) := by
  induction l with
  | nil => simp [askOwed]
  | cons a l ih =>
    by_cases h : a.kind = o.kind
    · simp only [askOwed, h, if_true, List.any_cons]
      cases decide (o.kind = .descriptor n) <;> cases a.report <;> cases o.report <;> simp
    · simp only [askOwed, h, if_false, List.any_cons, ih, Bool.or_assoc]

theorem reporting_ask (s : State) (o : Owed) (n : Fin 8) : (s.ask o).writer.reporting n =
    (s.writer.reporting n || (decide (o.kind = .descriptor n) && o.report)) := by
  simp only [StatusWriter.reporting, State.ask, List.any_append, any_askOwed]
  cases (s.writer.waiting.any fun w => decide (w.kind = .descriptor n) && w.report) <;>
    cases (s.writer.issued.toList.any fun w => decide (w.kind = .descriptor n) && w.report) <;> simp

theorem askChanged_reporting (old s : State) (n : Fin 8) :
    (State.askChanged old s).writer.reporting n = s.writer.reporting n := by
  unfold State.askChanged
  generalize allStreams = l
  induction l generalizing s with
  | nil => rfl
  | cons a l ih =>
    rw [List.foldl_cons, ih]
    split
    · rfl
    · simp [State.askDescriptor, reporting_ask]

/-! ## The report of one stream (R39, R161) -/

theorem makeReport_other (old s : State) {n m : Fin 8} (h : m ≠ n) :
    (State.makeReport old s m).stream n = s.stream n ∧
      (State.makeReport old s m).writer.reporting n = s.writer.reporting n := by
  rcases makeReport_cases old s m with e | ⟨p, rest, -, -, -, e⟩ <;> rw [e]
  · exact ⟨rfl, rfl⟩
  · refine ⟨?_, ?_⟩
    · rw [State.stream_ask, State.stream_modStream, if_neg h]
    · rw [reporting_ask]
      simp [h, State.modStream]

theorem foldl_makeReport_other (old : State) {n : Fin 8} {l : List (Fin 8)} (h : n ∉ l) (s : State) :
    (l.foldl (State.makeReport old) s).stream n = s.stream n ∧
      (l.foldl (State.makeReport old) s).writer.reporting n = s.writer.reporting n := by
  induction l generalizing s with
  | nil => exact ⟨rfl, rfl⟩
  | cons a l ih =>
    obtain ⟨ha, hl⟩ := not_or.mp (List.mem_cons.not.mp h)
    obtain ⟨h1, h2⟩ := ih hl (State.makeReport old s a)
    obtain ⟨k1, k2⟩ := makeReport_other old s (Ne.symm ha)
    exact ⟨h1.trans k1, h2.trans k2⟩

theorem allStreams_split (n : Fin 8) : ∃ l₁ l₂, allStreams = l₁ ++ n :: l₂ ∧ n ∉ l₁ ∧ n ∉ l₂ := by
  have hn : n ∈ allStreams := by revert n; decide
  have hd : allStreams.Nodup := by decide
  obtain ⟨l₁, l₂, e⟩ := List.append_of_mem hn
  rw [e] at hd
  obtain ⟨-, h2, h3⟩ := List.nodup_append.mp hd
  exact ⟨l₁, l₂, e, fun h => h3 n h n List.mem_cons_self rfl, (List.nodup_cons.mp h2).1⟩

/-- Making the reports of all streams leaves stream `n` as making its own does. -/
theorem foldl_makeReport_at (old s : State) (n : Fin 8) : ∃ v : State, v.stream n = s.stream n ∧
    v.writer.reporting n = s.writer.reporting n ∧ (∀ o, s.Waits o → v.Waits o) ∧
    (allStreams.foldl (State.makeReport old) s).stream n = (State.makeReport old v n).stream n ∧
    ∀ o, (State.makeReport old v n).Waits o → (allStreams.foldl (State.makeReport old) s).Waits o := by
  obtain ⟨l₁, l₂, e, h1, h2⟩ := allStreams_split n
  obtain ⟨k1, k2⟩ := foldl_makeReport_other old h1 s
  refine ⟨l₁.foldl (State.makeReport old) s, k1, k2, fun o h => h.foldl_makeReport old l₁, ?_, fun o h => ?_⟩
  · rw [e, List.foldl_append, List.foldl_cons]
    exact (foldl_makeReport_other old h2 _).1
  · rw [e, List.foldl_append, List.foldl_cons]
    exact h.foldl_makeReport old l₂

theorem syncWaits_stream (s : State) (n : Fin 8) :
    s.syncWaits.stream n = { s.stream n with wait := (s.syncWaits.stream n).wait } := by
  simp [State.stream, State.syncWaits]

/-- What the Status Writer's turn makes of stream `n`, but for its wait reason. -/
theorem settleStatus_stream (old s : State) (n : Fin 8) : ∃ v : State,
    v.stream n = { s.stream n with wait := (v.stream n).wait } ∧ v.writer.reporting n = s.writer.reporting n ∧
    (∀ o, s.Waits o → v.Waits o) ∧ (State.settleStatus old s).stream n = (State.makeReport old v n).stream n ∧
    ∀ o, (State.makeReport old v n).Waits o → (State.settleStatus old s).Waits o := by
  obtain ⟨v, h1, h2, h3, h4, h5⟩ := foldl_makeReport_at old (State.askChanged old s.syncWaits) n
  have hs : (State.askChanged old s.syncWaits).stream n = s.syncWaits.stream n := State.stream_congr (by simp) n
  rw [hs] at h1
  refine ⟨v, ?_, ?_, fun o h => h3 o ((h.congr (t := s.syncWaits) rfl).askChanged old), ?_, fun o h => ?_⟩
  · rw [h1]; exact syncWaits_stream s n
  · rw [h2, askChanged_reporting]; rfl
  · rw [← h4]; exact State.stream_congr (by simp [State.settleStatus]) n
  · rw [State.settleStatus, State.askRecordChanged]
    split
    · exact (h5 o h).ask _
    · exact h5 o h

/-- The report `p` is the one the record of a stream shows, and `rest` are still owed. -/
def StreamRec.Shows (r : StreamRec) (p : Report) (rest : List Report) : Prop :=
  r.jobTag = p.tag ∧ r.jobOutcome = p.outcome ∧ r.jobPages = p.pages ∧ r.reports = rest

/-- With no report owed none is made. -/
theorem settleStatus_noReports (old : State) {s : State} {n : Fin 8} (h : (s.stream n).reports = []) :
    ((State.settleStatus old s).stream n).reports = [] ∧
      ((State.settleStatus old s).stream n).jobTag = (s.stream n).jobTag ∧
      ((State.settleStatus old s).stream n).jobOutcome = (s.stream n).jobOutcome ∧
      ((State.settleStatus old s).stream n).jobPages = (s.stream n).jobPages := by
  obtain ⟨v, h1, -, -, h4, -⟩ := settleStatus_stream old s n
  have hv : (v.stream n).reports = [] := by rw [h1]; exact h
  have hm : State.makeReport old v n = v := by simp [State.makeReport, hv]
  rw [h4, hm, h1]
  exact ⟨h, rfl, rfl, rfl⟩

/-- With no report on its way the one due at the head of the list is made, in the write that waits. -/
theorem settleStatus_reports (old : State) {s : State} {n : Fin 8} {p : Report} {rest : List Report}
    (h : (s.stream n).reports = p :: rest) (hd : p.due = true) (hw : s.writer.reporting n = false) :
    ((State.settleStatus old s).stream n).Shows p rest ∧
      (State.settleStatus old s).Waits ⟨.descriptor n, true, true, false⟩ ∧
      ∀ o : Owed, o.kind = .descriptor n → s.Waits o →
        (State.settleStatus old s).Waits (o.join ⟨.descriptor n, true, true, false⟩) := by
  obtain ⟨v, h1, h2, h3, h4, h5⟩ := settleStatus_stream old s n
  have hv : (v.stream n).reports = p :: rest := by rw [h1]; exact h
  have hm : State.makeReport old v n = (v.modStream n fun r => { r with
      jobTag := p.tag, jobOutcome := p.outcome, jobPages := p.pages, reports := rest }).ask
        ⟨.descriptor n, true, true, false⟩ := by
    simp [State.makeReport, hv, hd, h2, hw]
  rw [hm] at h4 h5
  refine ⟨?_, h5 _ (State.ask_waits _ _), fun o hk ho => h5 _ ?_⟩
  · rw [h4, State.stream_ask, State.stream_modStream_same]
    exact ⟨rfl, rfl, rfl, rfl⟩
  · exact ((h3 o ho).congr (t := v.modStream n _) rfl).join hk.symm

/-! ## The settlement of a state in which nothing of the Composer moves -/

/-- The settlement as the Status Writer's turn and the bus after the grant. -/
theorem settle_status (old : State) {u : State} (hb : u.regs.resetBusy = false) (hc : u.Composed) :
    ∃ v : State, v.sc = u.grant.sc ∧ v.writer = u.writer ∧ State.settle old u = (State.settleStatus old v).serveBus := by
  obtain ⟨i1, i2, i3, i4, i5, i6⟩ := State.settleImaging_composed hc
  have hd : u.settleImaging.Composed :=
    ⟨by rw [i2]; exact hc.waits, by rw [i1]; exact hc.readFailed, by rw [i3]; exact hc.noCheck⟩
  have hg := State.grant_congr (s := u.settleImaging) (t := u) i1 (by simp)
  refine ⟨u.settleImaging.settleComposer.settleEngine, ?_, ?_, by simp [State.settle, hb]⟩
  · rw [State.settleComposer_composed hd]
    simpa [State.settleEngine] using hg.1
  · rw [State.settleComposer_composed hd]
    simpa [State.settleEngine] using i6

theorem settle_noReports (old : State) {u : State} (hb : u.regs.resetBusy = false) (hc : u.Composed) {n : Fin 8}
    (h : (u.grant.stream n).reports = []) :
    ((State.settle old u).stream n).reports = [] ∧
      ((State.settle old u).stream n).jobTag = (u.grant.stream n).jobTag ∧
      ((State.settle old u).stream n).jobOutcome = (u.grant.stream n).jobOutcome ∧
      ((State.settle old u).stream n).jobPages = (u.grant.stream n).jobPages := by
  obtain ⟨v, h1, -, e⟩ := settle_status old hb hc
  have hv : v.stream n = u.grant.stream n := State.stream_congr h1 n
  rw [e, stream_streams (serveBus_streams _) n, ← hv]
  exact settleStatus_noReports old (by rw [hv]; exact h)

theorem settle_reports (old : State) {u : State} (hb : u.regs.resetBusy = false) (hc : u.Composed) {n : Fin 8}
    {p : Report} {rest : List Report} (h : (u.grant.stream n).reports = p :: rest) (hd : p.due = true)
    (hw : u.writer.reporting n = false) :
    ((State.settle old u).stream n).Shows p rest ∧ (State.settle old u).Owes ⟨.descriptor n, true, true, false⟩ ∧
      ∀ o : Owed, o.kind = .descriptor n → u.Waits o →
        (State.settle old u).Owes (o.join ⟨.descriptor n, true, true, false⟩) := by
  obtain ⟨v, h1, h2, e⟩ := settle_status old hb hc
  have hv : v.stream n = u.grant.stream n := State.stream_congr h1 n
  obtain ⟨k1, k2, k3⟩ := settleStatus_reports old (s := v) (by rw [hv]; exact h) hd (by rw [h2]; exact hw)
  rw [e, stream_streams (serveBus_streams _) n]
  exact ⟨k1, k2.owes.serveBus, fun o hk ho => (k3 o hk (ho.congr h2)).owes.serveBus⟩

/-- What shows of the streams when the settlement grants nothing. -/
structure State.Settled (u t : State) : Prop where
  store : t.store = u.store
  form : t.form = u.form
  comp : t.comp = u.comp
  core : ∀ m, (t.stream m).core = (u.stream m).core
  queue : t.sc.queue = u.sc.queue
  buffer : t.sc.buffer = u.sc.buffer
  view : t.sc.view = u.sc.view
  hostMem : t.hostMem = u.hostMem
  owes : ∀ o, u.Owes o → t.Owes o

theorem settle_settled (old : State) {u : State} (hb : u.regs.resetBusy = false) (hc : u.Composed)
    (hg : u.GrantsNothing) : u.Settled (State.settle old u) := by
  have e : u.grant = u := State.grant_none (hg.imp id Or.symm)
  obtain ⟨h1, h2, h3, h4⟩ := State.settle_composed old hb hc
  rw [e] at h3 h4
  exact ⟨h1, h2, h3, h4.core, h4.queue, h4.buffer, h4.view, by simp, fun o ho => ho.settle old hb hc⟩

/-! ## The owner -/

theorem owner_none_iff (s : State) : s.owner = none ↔ ∀ n, (s.stream n).state ≠ .active := by
  simp only [State.owner, List.find?_eq_none, decide_eq_true_eq]
  exact ⟨fun h n => h n (by revert n; decide), fun h n _ => h n⟩

/-- There is an owner where the same streams are ACTIVE. -/
theorem owner_none_congr {s t : State} (h : ∀ n, (s.stream n).state = .active ↔ (t.stream n).state = .active) :
    s.owner = none ↔ t.owner = none := by
  simp only [owner_none_iff, ne_eq, h]

end Sys2Proof.Machine
end

section
/-! SUPPORT. The requests of a scan: the answer that each owes, and the statements about OPEN, CLOSE and RESET. -/

namespace Sys2Proof.Machine

/-! ## The answer (R21) -/

theorem onRequest_acts {s : State} {n : Fin 8} {x : Taken} {b : Word32} {z : Nat} {c : RequestCode}
    (hp : s.sc.phase = .request n x b z) (hc : x.code = c) (act : Fin 8 → Taken → State) : s.onRequest c act = act n x := by
  simp [State.onRequest, hp, hc]

theorem answer_stream (s : State) (n : Fin 8) (x : Taken) (r : RequestResult) (m : Fin 8) :
    (s.answer n x r).stream m = if n = m then { s.stream m with result := r } else s.stream m := by
  have h : (s.answer n x r).stream m = (s.modStream n fun rec => { rec with result := r }).stream m :=
    stream_streams (by simp [State.answer, State.ask]) m
  rw [h, State.stream_modStream]

theorem answer_owner (s : State) (n : Fin 8) (x : Taken) (r : RequestResult) : (s.answer n x r).owner = none ↔ s.owner = none :=
  owner_none_congr fun m => by rw [answer_stream]; split <;> rfl

theorem answer_waits (s : State) (n : Fin 8) (x : Taken) (r : RequestResult) :
    (s.answer n x r).Waits ⟨.descriptor n, false, false, true⟩ :=
  (State.ask_waits (s.modStream n fun rec => { rec with result := r }) ⟨.descriptor n, false, false, true⟩).congr rfl

/-- The answer joins the descriptor write that waits. -/
theorem answer_joins {s : State} {n : Fin 8} {o : Owed} (x : Taken) (r : RequestResult) (h : s.Waits o)
    (hk : o.kind = .descriptor n) : (s.answer n x r).Waits (o.join ⟨.descriptor n, false, false, true⟩) :=
  ((h.congr (t := s.modStream n fun rec => { rec with result := r }) rfl).join
    (p := ⟨.descriptor n, false, false, true⟩) hk.symm).congr rfl

theorem answer_composed {s : State} (h : s.Composed) (n : Fin 8) (x : Taken) (r : RequestResult) :
    (s.answer n x r).Composed := ⟨h.waits, h.readFailed, h.noCheck⟩

theorem answer_grantsNothing {s : State} (h : s.GrantsNothing) (n : Fin 8) (x : Taken) (r : RequestResult) :
    (s.answer n x r).GrantsNothing :=
  h.imp (fun h => (answer_owner s n x r).not.mpr h) id

/-- What an answer leaves of `v` after the settlement. -/
structure State.Answered (v : State) (n : Fin 8) (x : Taken) (r : RequestResult) (t : State) : Prop where
  phase : t.sc.phase = .acting n x
  owes : t.Owes ⟨.descriptor n, false, false, true⟩
  core : (t.stream n).core = { (v.stream n).core with result := r }
  queue : t.sc.queue = v.sc.queue
  others : ∀ m, m ≠ n → (t.stream m).core = (v.stream m).core
  comp : t.comp = v.comp
  store : t.store = v.store
  form : t.form = v.form
  hostMem : t.hostMem = v.hostMem

/-- An answer in a settlement that grants nothing. -/
theorem settle_answered (old : State) {v : State} (hb : v.regs.resetBusy = false) (hc : v.Composed)
    (hg : v.GrantsNothing) (n : Fin 8) (x : Taken) (r : RequestResult) :
    v.Answered n x r (State.settle old (v.answer n x r)) ∧
      (v.answer n x r).Settled (State.settle old (v.answer n x r)) := by
  have h := settle_settled old (u := v.answer n x r) (by simpa using hb) (answer_composed hc n x r)
    (answer_grantsNothing hg n x r)
  refine ⟨⟨?_, h.owes _ (answer_waits v n x r).owes, ?_, h.queue, fun m hm => ?_, h.comp, h.store, h.form, h.hostMem⟩, h⟩
  · exact congrArg ScanView.phase h.view
  · rw [h.core, answer_stream, if_pos rfl]; rfl
  · rw [h.core, answer_stream, if_neg (Ne.symm hm)]

/-! ## CLOSE (R23) -/

theorem enterState_sc (s : State) (n : Fin 8) (st : StreamState) :
    (s.enterState n st).sc = (s.modStream n fun r => { r with state := st }).sc := by
  unfold State.enterState
  dsimp only
  split <;> rfl

theorem enterState_stream (s : State) (n : Fin 8) (st : StreamState) (m : Fin 8) :
    (s.enterState n st).stream m = if n = m then { s.stream m with state := st } else s.stream m := by
  rw [State.stream_congr (enterState_sc s n st), State.stream_modStream]

theorem enterState_queue (s : State) (n : Fin 8) (st : StreamState) : (s.enterState n st).sc.queue = s.sc.queue := by
  rw [enterState_sc]; rfl

theorem enterState_readFailed (s : State) (n : Fin 8) (st : StreamState) :
    (s.enterState n st).sc.readFailed = s.sc.readFailed := by
  rw [enterState_sc]; rfl

theorem enterState_waits {s : State} {n : Fin 8} {st : StreamState} (h : (s.stream n).state ≠ st)
    (hst : st = .idle ∨ st = .faulted ∨ st = .closed) : (s.enterState n st).Waits ⟨.descriptor n, true, false, false⟩ := by
  have e : s.enterState n st = (s.modStream n fun r => { r with state := st }).askDescriptor n true := if_pos ⟨h, hst⟩
  rw [e]
  exact State.ask_waits _ _

/-- The record of a stream that leaves the Job Queue with its rush and its discard clear. -/
def StreamRec.withdrawn (r : StreamRec) : StreamRec :=
  { r with rush := false, discard := false, discardReports := false, discardTag := none, discardStalled := false }

theorem withdrawStream_stream (s : State) (n m : Fin 8) :
    (s.withdrawStream n).stream m = if n = m then (s.stream m).withdrawn else s.stream m :=
  State.stream_modStream _ n m _

theorem withdrawStream_queue (s : State) (n : Fin 8) : (s.withdrawStream n).sc.queue = s.sc.queue.filter (· ≠ n) := rfl

/-- A stream leaving a state other than ACTIVE for another such state leaves the owner. -/
theorem grantsNothing_change {s v : State} {n : Fin 8} (h : s.GrantsNothing) (hs : (s.stream n).state ≠ .active)
    (hv : (v.stream n).state ≠ .active) (ho : ∀ m, m ≠ n → (v.stream m).state = (s.stream m).state)
    (hq : s.sc.queue = [] → v.sc.queue = []) (hr : v.regs.run = s.regs.run) : v.GrantsNothing := by
  have hown : v.owner = none ↔ s.owner = none := owner_none_congr fun m => by
    by_cases hm : m = n
    · subst hm; exact ⟨fun e => absurd e hv, fun e => absurd e hs⟩
    · rw [ho m hm]
  rcases h with h | h | h
  · exact .inl (hown.not.mpr h)
  · exact .inr (.inl (hq h))
  · exact .inr (.inr (hr.trans h))

/-- Settles O27: a stream that may be closed is withdrawn and entered into CLOSED, and the answer joins that write. -/
theorem closeIsAnswered : Obligations.CloseIsAnswered := by
  unfold Obligations.CloseIsAnswered
  intro n x base size s hb hp hc hcomp hg
  have hexec : exec .closeRequest s = .next (State.settle s (s.doClose n x)) := by
    rw [← onRequest_acts hp hc s.doClose]; rfl
  refine ⟨_, hexec, ?_⟩
  by_cases hi : (s.stream n).state = .idle ∨ (s.stream n).state = .queued
  · have hne : (s.stream n).state ≠ .active ∧ (s.stream n).state ≠ .closed := by
      rcases hi with h | h <;> simp [h]
    let v := (s.withdrawStream n).enterState n .closed
    have hd : s.doClose n x = v.answer n x .accepted := if_pos hi
    have hv (m : Fin 8) : v.stream m = if n = m then { (s.stream m).withdrawn with state := .closed } else s.stream m := by
      rw [enterState_stream, withdrawStream_stream]; split <;> rfl
    have hq : v.sc.queue = s.sc.queue.filter (· ≠ n) := enterState_queue _ _ _
    have hvg : v.GrantsNothing := grantsNothing_change hg hne.1 (by rw [hv, if_pos rfl]; exact nofun)
      (fun m hm => by rw [hv, if_neg (Ne.symm hm)]) (fun h => by rw [hq, h]; rfl) (by simp [v])
    obtain ⟨a, st⟩ := settle_answered s (v := v) (by simpa [v] using hb)
      ⟨by simpa [v] using hcomp.waits, (enterState_readFailed _ _ _).trans hcomp.readFailed, by simpa [v] using hcomp.noCheck⟩ hvg n x .accepted
    have hw : v.Waits ⟨.descriptor n, true, false, false⟩ := enterState_waits
      (by rw [withdrawStream_stream, if_pos rfl]; exact hne.2) (.inr (.inr rfl))
    rw [hd]
    refine ⟨a.phase, a.owes, fun _ => ⟨?_, a.queue.trans hq, st.owes _ (answer_joins x .accepted hw rfl).owes⟩,
      fun h1 h2 => (hi.elim h1 h2).elim, fun m hm => ?_, ?_, ?_, ?_, ?_⟩
    · rw [a.core, hv, if_pos rfl]; rfl
    · rw [a.others m hm, hv, if_neg (Ne.symm hm)]
    · exact a.comp.trans (by simp [v])
    · exact a.store.trans (by simp [v])
    · exact a.form.trans (by simp [v])
    · exact a.hostMem.trans (by simp [v])
  · have hd : s.doClose n x = s.answer n x .refusedState := if_neg hi
    obtain ⟨a, -⟩ := settle_answered s hb hcomp hg n x .refusedState
    rw [hd]
    exact ⟨a.phase, a.owes, fun h => absurd h hi, fun _ _ => ⟨a.core, a.queue⟩, a.others, a.comp, a.store, a.form, a.hostMem⟩

/-! ## OPEN (R22) -/

theorem owner_some_iff (s : State) (n : Fin 8) :
    s.owner = some n ↔ (s.stream n).state = .active ∧ ∀ m < n, (s.stream m).state ≠ .active := by
  have hfin : allStreams = List.finRange 8 := by decide
  rw [State.owner, hfin, List.find?_eq_some_iff_getElem]
  simp only [decide_eq_true_eq, List.length_finRange, List.getElem_finRange, Bool.not_eq_true', decide_eq_false_iff_not]
  constructor
  · rintro ⟨ha, i, hi, rfl, hlt⟩
    exact ⟨ha, fun m hm => hlt m.val hm⟩
  · rintro ⟨ha, hlt⟩
    exact ⟨ha, n.val, n.isLt, rfl, fun j hj => hlt ⟨j, hj.trans n.isLt⟩ hj⟩

theorem ringFits_iff (base : Word32) (size fill : Nat) : ringFits base size fill = true ↔
    base.toNat % 4 = 0 ∧ size % 256 = 0 ∧ 1024 ≤ size ∧ size ≤ 1048576 ∧ fill % 4 = 0 ∧ fill < size :=
  decide_eq_true_iff

theorem hasPage_iff (s : State) (n : Fin 8) : s.hasPage n = true ↔ ∃ i, (s.slot i).stream = n ∧ (s.slot i).state ≠ .free := by
  have hm (i : Fin 4) : i ∈ allSlots := by revert i; decide
  simp [State.hasPage, State.slotsOf, hm]

/-- The record that an accepted OPEN leaves (R22). -/
def StreamRec.ofOpen (r : StreamRec) (base : Word32) (size fill : Nat) : StreamRec :=
  { r.opened base size fill with state := if fill = 0 then .idle else .queued }

theorem openStream_stream (s : State) (n : Fin 8) (base : Word32) (size fill : Nat) (m : Fin 8) :
    (s.openStream n base size fill).stream m = if n = m then (s.stream m).ofOpen base size fill else s.stream m := by
  unfold State.openStream State.requeue
  by_cases h : fill = 0
  · rw [if_neg (by simp [StreamRec.opened, StreamRec.initial, h]), enterState_stream, State.stream_modStream]
    split <;> simp [StreamRec.ofOpen, h]
  · rw [if_pos (by simp [StreamRec.opened, StreamRec.initial, h])]
    have he (u : State) : (u.enqueue n).stream m = u.stream m := stream_streams rfl m
    rw [he, enterState_stream, State.stream_modStream]
    split <;> simp [StreamRec.ofOpen, h]

theorem openStream_queue (s : State) (n : Fin 8) (base : Word32) (size fill : Nat) :
    (s.openStream n base size fill).sc.queue = if fill = 0 then s.sc.queue else s.sc.queue ++ [n] := by
  unfold State.openStream State.requeue
  by_cases h : fill = 0
  · rw [if_neg (by simp [StreamRec.opened, StreamRec.initial, h]), enterState_queue, if_pos h]
    rfl
  · rw [if_pos (by simp [StreamRec.opened, StreamRec.initial, h]), if_neg h]
    unfold State.enqueue
    rw [if_neg (by simp [enterState_stream, StreamRec.opened, StreamRec.initial])]
    simp [enterState_queue, State.modStream]

theorem openStream_readFailed (s : State) (n : Fin 8) (base : Word32) (size fill : Nat) :
    (s.openStream n base size fill).sc.readFailed = s.sc.readFailed := by
  unfold State.openStream State.requeue
  split
  · exact enterState_readFailed _ _ _
  · exact enterState_readFailed _ _ _

theorem openStream_composed {s : State} (h : s.Composed) (n : Fin 8) (base : Word32) (size fill : Nat) :
    (s.openStream n base size fill).Composed :=
  ⟨by simpa using h.waits, (openStream_readFailed s n base size fill).trans h.readFailed, by simpa using h.noCheck⟩

theorem openStream_owner {s : State} {n : Fin 8} (h : (s.stream n).state = .closed) (base : Word32) (size fill : Nat) :
    (s.openStream n base size fill).owner = none ↔ s.owner = none :=
  owner_none_congr fun m => by
    rw [openStream_stream]
    split
    · rename_i e
      subst e
      rw [h, StreamRec.ofOpen]
      split <;> simp
    · rfl

/-- An OPEN to IDLE owes STREAMn (R12). -/
theorem openStream_waits {s : State} {n : Fin 8} (h : (s.stream n).state = .closed) (base : Word32) (size : Nat) :
    (s.openStream n base size 0).Waits ⟨.descriptor n, true, false, false⟩ := by
  unfold State.openStream State.requeue
  rw [if_neg (by simp [StreamRec.opened, StreamRec.initial])]
  exact enterState_waits (by rw [State.stream_modStream_same, StreamRec.opened]; simp [h]) (.inl rfl)

/-- With no owner and RUN 1 the head of the Job Queue is granted (R35). -/
theorem grant_head {s : State} {n : Fin 8} {rest : List (Fin 8)} (ho : s.owner = none) (hq : s.sc.queue = n :: rest)
    (hr : s.regs.run = true) : s.grant =
      { { s with sc := { s.sc with queue := rest } }.modStream n fun r => { r with state := .active, rush := false } with
        comp := { Composer.initial with state := .ready } } := by
  simp [State.grant, ho, hq, hr]

theorem exec_openRequest {s : State} {n : Fin 8} {x : Taken} {base : Word32} {size : Nat}
    (hp : s.sc.phase = .request n x base size) (hc : x.code = .openRing) :
    exec .openRequest s = .next (State.settle s (s.doOpen n x base size)) := by
  have e : exec .openRequest s = execOpen s := rfl
  rw [e, execOpen, hp]
  exact if_pos hc

theorem doOpen_accepted {s : State} {n : Fin 8} {x : Taken} {base : Word32} {size : Nat}
    (hc : (s.stream n).state = .closed) (hf : ringFits base size x.fill = true) (hn : s.hasPage n = false) :
    s.doOpen n x base size = (s.openStream n base size x.fill).answer n x .accepted := by
  simp [State.doOpen, hc, hf, hn]

theorem doOpen_refused {s : State} {n : Fin 8} {x : Taken} {base : Word32} {size : Nat}
    (h : (s.stream n).state ≠ .closed ∨ (ringFits base size x.fill = true ∧ s.hasPage n = true)) :
    s.doOpen n x base size = s.answer n x .refusedState := by
  by_cases hc : (s.stream n).state = .closed
  · obtain ⟨hf, hn⟩ := h.resolve_left (not_not_intro hc)
    simp [State.doOpen, hc, hf, hn]
  · simp [State.doOpen, hc]

theorem doOpen_badRing {s : State} {n : Fin 8} {x : Taken} {base : Word32} {size : Nat}
    (hc : (s.stream n).state = .closed) (hf : ringFits base size x.fill = false) :
    s.doOpen n x base size = s.answer n x .badRing := by
  simp [State.doOpen, hc, hf]

/-- What an OPEN with an empty Job Queue, no owner and RUN 1 leaves of its stream: the grant takes it at once. -/
theorem openGranted {s : State} {n : Fin 8} {x : Taken} {base : Word32} {size : Nat} (hb : s.regs.resetBusy = false)
    (hcomp : s.Composed) (ho : s.owner = none) (hq : s.sc.queue = []) (hr : s.regs.run = true)
    (hc : (s.stream n).state = .closed) (hx : x.fill ≠ 0) :
    let t := State.settle s ((s.openStream n base size x.fill).answer n x .accepted)
    (t.stream n).core = { ((s.stream n).ofOpen base size x.fill).core with state := .active, result := .accepted } ∧
      t.sc.queue = [] ∧ t.comp = { Composer.initial with state := .ready } ∧ t.sc.phase = .acting n x ∧
      t.Owes ⟨.descriptor n, false, false, true⟩ ∧ t.store = s.store ∧ t.form = s.form := by
  intro t
  let u := (s.openStream n base size x.fill).answer n x .accepted
  have hu : u.regs.resetBusy = false := by simpa [u] using hb
  have huc : u.Composed := answer_composed (openStream_composed hcomp n base size x.fill) n x .accepted
  have hq' : u.sc.queue = n :: [] := (openStream_queue s n base size x.fill).trans (by rw [if_neg hx, hq]; rfl)
  have ho' : u.owner = none := (answer_owner _ n x .accepted).mpr ((openStream_owner hc base size x.fill).mpr ho)
  have hg := grant_head ho' hq' (by simpa [u] using hr)
  have hs : u.stream n = { (s.stream n).ofOpen base size x.fill with result := .accepted } := by
    rw [answer_stream, if_pos rfl, openStream_stream, if_pos rfl]
  obtain ⟨h1, h2, h3, h4⟩ := State.settle_composed s hu huc
  rw [hg] at h3 h4
  refine ⟨?_, h4.queue, h3, congrArg ScanView.phase h4.view,
    ((answer_waits _ n x .accepted).owes).settle s hu huc, h1.trans (by simp [u]), h2.trans (by simp [u])⟩
  rw [h4.core]
  have hn (q : List (Fin 8)) : (({ u with sc := { u.sc with queue := q } }.modStream n fun r =>
      { r with state := .active, rush := false }).stream n) = { u.stream n with state := .active, rush := false } :=
    State.stream_modStream_same _ n _
  exact (congrArg StreamRec.core (hn [])).trans (by rw [hs]; rfl)

/-- An OPEN accepted where nothing is granted: the record is cleared, with no report owed, and IDLE owes STREAMn. -/
theorem openAccepted {s : State} {n : Fin 8} {x : Taken} {base : Word32} {size : Nat} (hb : s.regs.resetBusy = false)
    (hcomp : s.Composed) (hg : s.GrantsNothing) (hc : (s.stream n).state = .closed)
    (hfill : s.owner ≠ none ∨ s.regs.run = false ∨ x.fill = 0) :
    let v := s.openStream n base size x.fill
    let t := State.settle s (v.answer n x .accepted)
    v.Answered n x .accepted t ∧
    ((t.stream n).core = { (s.stream n).ofOpen base size x.fill with result := .accepted } ∧
      (t.stream n).reports = [] ∧ (t.stream n).jobTag = 0 ∧ (t.stream n).jobOutcome = .noneYet ∧
      (t.stream n).jobPages = 0 ∧ t.sc.queue = (if x.fill = 0 then s.sc.queue else s.sc.queue ++ [n]) ∧
      (x.fill = 0 → t.Owes ⟨.descriptor n, true, false, false⟩)) ∧
    ∀ m, m ≠ n → v.stream m = s.stream m := by
  intro v t
  have hvg : v.GrantsNothing := by
    have hown : v.owner = none ↔ s.owner = none := openStream_owner hc base size x.fill
    have hrun : v.regs.run = s.regs.run := by simp [v]
    rcases hfill with h | h | h
    · exact .inl (hown.not.mpr h)
    · exact .inr (.inr (hrun.trans h))
    · refine hg.imp hown.not.mpr (Or.imp (fun hq => ?_) hrun.trans)
      rw [openStream_queue, if_pos h, hq]
  have hvb : v.regs.resetBusy = false := by simpa [v] using hb
  have hvc : v.Composed := openStream_composed hcomp n base size x.fill
  obtain ⟨a, st⟩ := settle_answered s hvb hvc hvg n x .accepted
  have hs : v.stream n = (s.stream n).ofOpen base size x.fill := by rw [openStream_stream, if_pos rfl]
  have hu : (v.answer n x .accepted).grant = v.answer n x .accepted :=
    State.grant_none ((answer_grantsNothing hvg n x .accepted).imp id Or.symm)
  have hn : (v.answer n x .accepted).stream n = { (s.stream n).ofOpen base size x.fill with result := .accepted } := by
    rw [answer_stream, if_pos rfl, hs]
  obtain ⟨r1, r2, r3, r4⟩ := settle_noReports s (u := v.answer n x .accepted) (n := n) (by simpa using hvb)
    (answer_composed hvc n x .accepted) (by rw [hu, hn]; rfl)
  rw [hu, hn] at r2 r3 r4
  refine ⟨a, ⟨?_, r1, r2, r3, r4, a.queue.trans (openStream_queue s n base size x.fill), fun h => ?_⟩, fun m hm => ?_⟩
  · rw [a.core, hs]; rfl
  · have hw : v.Waits ⟨.descriptor n, true, false, false⟩ := by
      rw [show v = s.openStream n base size 0 by rw [← h]]
      exact openStream_waits hc base size
    exact (st.owes _ (answer_joins x .accepted hw rfl).owes).weaken ⟨rfl, id, id, nofun⟩
  · rw [openStream_stream, if_neg (Ne.symm hm)]

/-- Settles O26: the three answers of an OPEN, and the grant that follows one accepted. -/
theorem openIsAnswered : Obligations.OpenIsAnswered := by
  unfold Obligations.OpenIsAnswered
  refine ⟨owner_some_iff, fun n x base size s hb hp hc hcomp => ⟨?_, ?_⟩⟩
  · intro ho hq hr hs h1 h2 h3 h4 h5 h6 hx hfree
    have hn : s.hasPage n = false := by
      rw [← Bool.not_eq_true, hasPage_iff]
      rintro ⟨i, hi, hne⟩
      exact hne (hfree i hi)
    have hd := doOpen_accepted (base := base) hs ((ringFits_iff base size x.fill).mpr ⟨h1, h2, h3, h4, h5, h6⟩) hn
    obtain ⟨g1, g2, g3, g4, g5, g6, g7⟩ := openGranted (n := n) (x := x) (base := base) (size := size) hb hcomp ho hq hr hs hx
    refine ⟨_, (exec_openRequest hp hc).trans (by rw [hd]), congrArg StreamRec.state g1, congrArg StreamRec.result g1,
      congrArg StreamRec.ringBase g1, congrArg StreamRec.ringSize g1, congrArg StreamRec.fill g1,
      congrArg StreamRec.take g1, congrArg StreamRec.release g1, g2, ?_, g4, g5, g6, g7, by simp⟩
    rw [g3]
  · intro hg hcase
    have bad : (base.toNat % 4 ≠ 0 ∨ size % 256 ≠ 0 ∨ size < 1024 ∨ 1048576 < size ∨ x.fill % 4 ≠ 0 ∨ size ≤ x.fill) →
        ringFits base size x.fill = false := fun h => by
      rw [← Bool.not_eq_true, ringFits_iff]; omega
    refine ⟨_, exec_openRequest hp hc, ?_⟩
    by_cases hs : (s.stream n).state = .closed
    · cases hf : ringFits base size x.fill with
      | false =>
        obtain ⟨a, -⟩ := settle_answered s hb hcomp hg n x .badRing
        have fits (h1 : base.toNat % 4 = 0) (h2 : size % 256 = 0) (h3 : 1024 ≤ size) (h4 : size ≤ 1048576)
            (h5 : x.fill % 4 = 0) (h6 : x.fill < size) : False := by
          have := (ringFits_iff base size x.fill).mpr ⟨h1, h2, h3, h4, h5, h6⟩
          rw [hf] at this
          cases this
        rw [doOpen_badRing hs hf]
        exact ⟨a.phase, a.owes, fun h => absurd hs h, fun _ _ => ⟨a.core, a.queue⟩,
          fun _ h1 h2 h3 h4 h5 h6 => (fits h1 h2 h3 h4 h5 h6).elim,
          fun _ h1 h2 h3 h4 h5 h6 => (fits h1 h2 h3 h4 h5 h6).elim, a.others, a.comp, a.store, a.form, a.hostMem⟩
      | true =>
        have good : ¬(base.toNat % 4 ≠ 0 ∨ size % 256 ≠ 0 ∨ size < 1024 ∨ 1048576 < size ∨ x.fill % 4 ≠ 0 ∨
            size ≤ x.fill) := fun h => by rw [bad h] at hf; cases hf
        by_cases hn : s.hasPage n = true
        · obtain ⟨a, -⟩ := settle_answered s hb hcomp hg n x .refusedState
          obtain ⟨i, hi, hne⟩ := (hasPage_iff s n).mp hn
          rw [doOpen_refused (.inr ⟨hf, hn⟩)]
          exact ⟨a.phase, a.owes, fun h => absurd hs h, fun _ h => absurd h good,
            fun _ _ _ _ _ _ _ _ => ⟨a.core, a.queue⟩, fun _ _ _ _ _ _ _ hfree => absurd (hfree i hi) hne,
            a.others, a.comp, a.store, a.form, a.hostMem⟩
        · have hfill : s.owner ≠ none ∨ s.regs.run = false ∨ x.fill = 0 := by
            rcases hcase with h | h | h | h | h | h
            · exact .inl h
            · exact .inr (.inl h)
            · exact .inr (.inr h)
            · exact absurd hs h
            · exact absurd h good
            · exact absurd ((hasPage_iff s n).mpr h) hn
          obtain ⟨a, st, hw⟩ := openAccepted (n := n) (x := x) (base := base) (size := size) hb hcomp hg hs hfill
          rw [doOpen_accepted hs hf (Bool.eq_false_iff.mpr hn)]
          exact ⟨a.phase, a.owes, fun h => absurd hs h, fun _ h => absurd h good,
            fun _ _ _ _ _ _ _ h => absurd ((hasPage_iff s n).mpr h) hn, fun _ _ _ _ _ _ _ _ => st,
            fun m hm => (a.others m hm).trans (congrArg StreamRec.core (hw m hm)), a.comp.trans (by simp),
            a.store.trans (by simp), a.form.trans (by simp), a.hostMem.trans (by simp)⟩
    · obtain ⟨a, -⟩ := settle_answered s hb hcomp hg n x .refusedState
      rw [doOpen_refused (.inl hs)]
      exact ⟨a.phase, a.owes, fun _ => ⟨a.core, a.queue⟩, fun h => absurd h hs, fun h => absurd h hs,
        fun h => absurd h hs, a.others, a.comp, a.store, a.form, a.hostMem⟩

end Sys2Proof.Machine
end

section
/-! SUPPORT. RESET and a bad request: the discard of a stream's slots, the reversion that a halt orders, and the
statement. -/

namespace Sys2Proof.Machine

/-! ## Saturating counts -/

theorem satAdd_zero {w : Nat} (c : BitVec w) : satAdd c 0 = c := by
  have h : c.toNat ≤ 2 ^ w - 1 := Nat.le_sub_one_of_lt c.isLt
  simp [satAdd, Nat.min_eq_left h]

theorem satAdd_satAdd {w : Nat} (c : BitVec w) (j k : Nat) : satAdd (satAdd c j) k = satAdd c (j + k) := by
  have hp : 0 < 2 ^ w := Nat.two_pow_pos w
  have h : (satAdd c j).toNat = min (c.toNat + j) (2 ^ w - 1) := by
    rw [satAdd, BitVec.toNat_ofNat]
    exact Nat.mod_eq_of_lt (by omega)
  rw [satAdd, h, satAdd]
  congr 1
  omega

/-! ## Reversion (R117) -/

theorem begun_iff (sl : Slot) : sl.begun = true ↔
    sl.state = .imaging ∨ sl.state = .sent ∨ (sl.state = .composing ∧ 0 < sl.split) := decide_eq_true_iff

theorem reverted_of_not_begun {sl : Slot} (h : sl.begun = false) : sl.reverted = sl := by
  rw [← Bool.not_eq_true, begun_iff] at h
  unfold Slot.reverted
  split <;> simp_all

theorem reverted_stream (sl : Slot) : sl.reverted.stream = sl.stream := by
  unfold Slot.reverted
  split
  · rfl
  · rfl
  · rfl
  · split <;> rfl
  · rfl

theorem reverted_free {sl : Slot} (h : sl.state = .free) : sl.reverted = sl :=
  reverted_of_not_begun (by rw [← Bool.not_eq_true, begun_iff]; simp [h])

theorem revertSlot_slot (s : State) (i j : Fin 4) :
    (s.revertSlot i).slot j = if i = j then (s.slot j).reverted else s.slot j := by
  unfold State.revertSlot
  split
  · exact (State.slot_congr rfl j).trans (State.slot_modSlot s i j (·.reverted))
  · rename_i h
    split
    · rename_i e
      subst e
      rw [reverted_of_not_begun (by simpa using h)]
    · rfl

/-- What a reversion adds to the reprints of stream `m`. -/
def State.reverts (s : State) (m : Fin 8) (i : Fin 4) : Bool := decide ((s.slot i).stream = m) && (s.slot i).begun

theorem revertSlot_stream (s : State) (i : Fin 4) (m : Fin 8) : (s.revertSlot i).stream m =
    { s.stream m with reprints := satAdd (s.stream m).reprints (if s.reverts m i then 1 else 0) } := by
  unfold State.revertSlot State.reverts
  split
  · rename_i h
    rw [State.stream_modStream]
    have e : (s.modSlot i (·.reverted)).stream m = s.stream m := rfl
    by_cases hm : (s.slot i).stream = m
    · simp [hm, h, e]
    · simp [hm, e, satAdd_zero]
  · rename_i h
    simp [h, satAdd_zero]

theorem foldl_revertSlot {l : List (Fin 4)} (h : l.Nodup) (s : State) :
    (∀ j, (l.foldl State.revertSlot s).slot j = if j ∈ l then (s.slot j).reverted else s.slot j) ∧
    ∀ m, (l.foldl State.revertSlot s).stream m =
      { s.stream m with reprints := satAdd (s.stream m).reprints (l.countP (s.reverts m)) } := by
  induction l generalizing s with
  | nil => simp [satAdd_zero]
  | cons a l ih =>
    obtain ⟨ha, hl⟩ := List.nodup_cons.mp h
    obtain ⟨h1, h2⟩ := ih hl (s.revertSlot a)
    refine ⟨fun j => ?_, fun m => ?_⟩
    · rw [List.foldl_cons, h1, revertSlot_slot]
      by_cases hj : a = j
      · subst hj; simp [ha]
      · simp [hj, Ne.symm hj]
    · have hc : l.countP ((s.revertSlot a).reverts m) = l.countP (s.reverts m) := by
        refine List.countP_congr fun i hi => ?_
        have hne : a ≠ i := fun e => ha (e ▸ hi)
        rw [State.reverts, State.reverts, revertSlot_slot, if_neg hne]
      rw [List.foldl_cons, h2, revertSlot_stream, hc, List.countP_cons, satAdd_satAdd]
      rw [Nat.add_comm]

theorem mem_allSlots (i : Fin 4) : i ∈ allSlots := by
  revert i
  decide

theorem revertSlots_slot (s : State) (i : Fin 4) : s.revertSlots.slot i = (s.slot i).reverted := by
  rw [State.revertSlots, (foldl_revertSlot (l := allSlots) (by decide) s).1 i, if_pos (mem_allSlots i)]

theorem revertSlots_stream (s : State) (m : Fin 8) : s.revertSlots.stream m =
    { s.stream m with reprints := satAdd (s.stream m).reprints (s.slotsBegun m) } := by
  have hc : allSlots.countP (s.reverts m) = s.slotsBegun m := by
    unfold State.slotsBegun
    exact List.countP_congr fun i _ => by simp [State.reverts, begun_iff]
  rw [State.revertSlots, (foldl_revertSlot (l := allSlots) (by decide) s).2 m, hc]

/-- What a Stream Controller keeps when its stream records alone change. -/
def StreamController.SameLists (c d : StreamController) : Prop := { d with streams := c.streams } = c

theorem foldl_revertSlot_lists (l : List (Fin 4)) (s : State) :
    s.sc.SameLists (l.foldl State.revertSlot s).sc := by
  induction l generalizing s with
  | nil => rfl
  | cons a l ih =>
    have h : s.sc.SameLists (s.revertSlot a).sc := by
      unfold State.revertSlot
      split <;> rfl
    have k := ih (s.revertSlot a)
    unfold StreamController.SameLists at h k ⊢
    rw [List.foldl_cons, ← h, ← k]

/-! ## The discard of a stream's slots (R116, R180) -/

theorem foldl_clearSlot_slot (l : List (Fin 4)) (s : State) (j : Fin 4) :
    (l.foldl State.clearSlot s).slot j = if j ∈ l then Slot.free else s.slot j := by
  induction l generalizing s with
  | nil => rfl
  | cons a l ih =>
    rw [List.foldl_cons, ih, State.slot_clearSlot]
    by_cases h : j ∈ l
    · simp [h]
    · by_cases e : a = j
      · simp [e]
      · simp [h, e, Ne.symm e]

theorem mem_slotsOf (s : State) (n : Fin 8) (i : Fin 4) :
    i ∈ s.slotsOf n ↔ (s.slot i).stream = n ∧ (s.slot i).state ≠ .free := by
  simp [State.slotsOf, mem_allSlots i]

/-- What the Builder drops, the band or the rebuild, leaves every other block. -/
theorem drop_keeps (c : Bool) (s : State) :
    (if c then s.dropBuilder else s.dropRebuild).sc = s.sc ∧
      (if c then s.dropBuilder else s.dropRebuild).store = s.store ∧
      (if c then s.dropBuilder else s.dropRebuild).linkOut = s.linkOut ∧
      (if c then s.dropBuilder else s.dropRebuild).engine = s.engine := by
  cases c <;> simp

theorem dropOrStay_keeps (c d : Bool) (s : State) :
    (if c then s.dropBuilder else if d then s.dropRebuild else s).sc = s.sc ∧
      (if c then s.dropBuilder else if d then s.dropRebuild else s).store = s.store ∧
      (if c then s.dropBuilder else if d then s.dropRebuild else s).linkOut = s.linkOut ∧
      (if c then s.dropBuilder else if d then s.dropRebuild else s).engine = s.engine := by
  cases c <;> cases d <;> simp

theorem revertAll_cases (s : State) : ∃ v : State, s.revertAll = v.revertSlots ∧ v.sc = s.sc ∧ v.store = s.store ∧
    v.linkOut = s.linkOut ∧ v.engine = { s.engine with sent := [] } :=
  ⟨_, rfl, drop_keeps _ { s with engine := { s.engine with sent := [] } }⟩

/-- A discard frees the stream's slots and drops their rebuilds; it halts the engine where one had rows on it. -/
theorem discardSlots_cases (s : State) (n : Fin 8) : ∃ u : State,
    u.sc = s.sc ∧ u.linkOut = s.linkOut ∧
    u.engine = { s.engine with sent := s.engine.sent.filter fun m => !SentMsg.dropped (s.slotsOf n) m } ∧
    (∀ i, u.slot i = if (s.slot i).stream = n ∧ (s.slot i).state ≠ .free then Slot.free else s.slot i) ∧
    (((∀ i, (s.slot i).stream = n → (s.slot i).onEngine = false) ∧ s.discardSlots n = u) ∨
      ((∃ i, (s.slot i).stream = n ∧ (s.slot i).onEngine = true) ∧ s.discardSlots n = u.discardHalt)) := by
  have hon {sl : Slot} (h : sl.onEngine = true) : sl.state ≠ .free := by
    intro e
    simp [Slot.onEngine, e] at h
  have hhit : ((s.slotsOf n).any fun i => (s.slot i).onEngine) = true ↔
      ∃ i, (s.slot i).stream = n ∧ (s.slot i).onEngine = true := by
    simp only [List.any_eq_true, mem_slotsOf]
    exact ⟨fun ⟨i, ⟨h1, _⟩, h3⟩ => ⟨i, h1, h3⟩, fun ⟨i, h1, h3⟩ => ⟨i, ⟨h1, hon h3⟩, h3⟩⟩
  let s1 : State := { s with engine := { s.engine with
    sent := s.engine.sent.filter fun m => !SentMsg.dropped (s.slotsOf n) m } }
  obtain ⟨s2, hd, k1, k4, k2, k3⟩ : ∃ s2 : State, s.discardSlots n =
      (if ((s.slotsOf n).any fun i => (s.slot i).onEngine) = true then ((s.slotsOf n).foldl State.clearSlot s2).discardHalt
        else (s.slotsOf n).foldl State.clearSlot s2) ∧
      s2.sc = s1.sc ∧ s2.store = s1.store ∧ s2.linkOut = s1.linkOut ∧ s2.engine = s1.engine := by
    exact ⟨_, rfl, dropOrStay_keeps _ _ s1⟩
  refine ⟨(s.slotsOf n).foldl State.clearSlot s2, by simpa using k1, by simpa using k2, by simpa using k3,
    fun i => ?_, ?_⟩
  · rw [foldl_clearSlot_slot, State.slot_congr k4 i]
    simp only [mem_slotsOf]
    rfl
  · by_cases h : ∃ i, (s.slot i).stream = n ∧ (s.slot i).onEngine = true
    · exact .inr ⟨h, hd.trans (if_pos (hhit.mpr h))⟩
    · refine .inl ⟨fun i hi => ?_, hd.trans (if_neg (fun e => h (hhit.mp e)))⟩
      by_contra hne
      exact h ⟨i, hi, by simpa using hne⟩

/-- The halt for a discard: HALT goes out, the slots revert, and the sent list is emptied (R180). -/
theorem discardHalt_halts {u : State} (h : u.engine.halting = false) :
    u.discardHalt.linkOut = u.linkOut ++ [⟨u.engine.frameSeq, .halt⟩] ∧ u.discardHalt.engine.halting = true ∧
      u.discardHalt.engine.bandRoom = 0 ∧ u.discardHalt.engine.sent = [] ∧ u.sc.SameLists u.discardHalt.sc ∧
      (∀ i, u.discardHalt.slot i = (u.slot i).reverted) ∧
      ∀ m, u.discardHalt.stream m =
        { u.stream m with reprints := satAdd (u.stream m).reprints (u.slotsBegun m) } := by
  have hd : u.discardHalt =
      { u.sendHalt with engine := { u.sendHalt.engine with halting := true } }.revertAll := if_neg (by simp [h])
  obtain ⟨v, hv, k1, k2, k3, k4⟩ :=
    revertAll_cases { u.sendHalt with engine := { u.sendHalt.engine with halting := true } }
  have hslot (i : Fin 4) : v.slot i = u.slot i := State.slot_congr k2 i
  rw [hd, hv]
  refine ⟨(by simp : v.revertSlots.linkOut = v.linkOut).trans k3, by simp [k4], by simp [k4, State.sendHalt], by simp [k4], ?_, fun i => ?_, fun m => ?_⟩
  · rw [show u.sc = v.sc from k1.symm]; exact foldl_revertSlot_lists _ _
  · rw [revertSlots_slot, hslot]
  · rw [revertSlots_stream, State.stream_congr k1 m]
    simp only [State.slotsBegun, hslot]
    rfl

/-- A discard that halts nothing leaves the other slots and the streams. -/
theorem discardSlots_quiet {s : State} {n : Fin 8}
    (h : s.engine.halting = true ∨ ∀ i, (s.slot i).stream = n → (s.slot i).onEngine = false) :
    (s.discardSlots n).sc = s.sc ∧ (s.discardSlots n).linkOut = s.linkOut ∧
      (s.discardSlots n).engine = { s.engine with
        sent := s.engine.sent.filter fun m => !SentMsg.dropped (s.slotsOf n) m } ∧
      ∀ i, (s.discardSlots n).slot i =
        if (s.slot i).stream = n ∧ (s.slot i).state ≠ .free then Slot.free else s.slot i := by
  obtain ⟨u, h1, h2, h3, h4, h5⟩ := discardSlots_cases s n
  have hd : s.discardSlots n = u := by
    rcases h5 with ⟨-, e⟩ | ⟨⟨i, hi, hon⟩, e⟩
    · exact e
    · rcases h with h | h
      · rw [e]; exact if_pos (by rw [h3]; exact h)
      · rw [h i hi] at hon; cases hon
  rw [hd]
  exact ⟨h1, h2, h3, h4⟩

/-- A discard that takes a slot with rows on the engine halts it, and the slots of the other streams revert (R180). -/
theorem discardSlots_halts {s : State} {n : Fin 8} (h : ∃ i, (s.slot i).stream = n ∧ (s.slot i).onEngine = true)
    (hh : s.engine.halting = false) :
    (s.discardSlots n).linkOut = s.linkOut ++ [⟨s.engine.frameSeq, .halt⟩] ∧
      (s.discardSlots n).engine.halting = true ∧ (s.discardSlots n).engine.bandRoom = 0 ∧
      (s.discardSlots n).engine.sent = [] ∧ s.sc.SameLists (s.discardSlots n).sc ∧
      (∀ i, (s.discardSlots n).slot i =
        if (s.slot i).stream = n ∧ (s.slot i).state ≠ .free then Slot.free else (s.slot i).reverted) ∧
      (s.discardSlots n).stream n = s.stream n ∧
      ∀ m, m ≠ n → (s.discardSlots n).stream m =
        { s.stream m with reprints := satAdd (s.stream m).reprints (s.slotsBegun m) } := by
  obtain ⟨u, h1, h2, h3, h4, h5⟩ := discardSlots_cases s n
  have hd : s.discardSlots n = u.discardHalt := by
    rcases h5 with ⟨e, -⟩ | ⟨-, e⟩
    · obtain ⟨i, hi, hon⟩ := h
      rw [e i hi] at hon
      cases hon
    · exact e
  obtain ⟨k1, k2, k3, k4, k5, k6, k7⟩ := discardHalt_halts (u := u) (by rw [h3]; exact hh)
  have hbegun (m : Fin 8) : u.slotsBegun m = if m = n then 0 else s.slotsBegun m := by
    unfold State.slotsBegun
    split
    · rename_i e
      refine List.countP_eq_zero.mpr fun i _ => ?_
      subst e
      rw [h4]
      split
      · simp [Slot.free]
      · rename_i hi
        rw [decide_eq_true_eq]
        rintro ⟨hs, hst⟩
        refine hi ⟨hs, fun hf => ?_⟩
        simp [hf] at hst
    · rename_i hm
      refine List.countP_congr fun i _ => ?_
      rw [h4]
      split
      · rename_i hi
        simp [Slot.free, hi.1, Ne.symm hm]
      · rfl
  rw [hd]
  refine ⟨by rw [k1, h2, h3], k2, k3, k4, h1 ▸ k5, fun i => ?_, ?_, fun m hm => ?_⟩
  · rw [k6, h4]
    split
    · exact reverted_free rfl
    · rfl
  · rw [k7, State.stream_congr h1 n, hbegun, if_pos rfl, satAdd_zero]
  · rw [k7, State.stream_congr h1 m, hbegun, if_neg hm]

/-- After a discard the stream has no slot left, whatever the halt does. -/
theorem discardSlots_frees (s : State) (n : Fin 8) {i : Fin 4} (h : ((s.discardSlots n).slot i).stream = n) :
    ((s.discardSlots n).slot i).state = .free := by
  have free (sl : Slot) (hs : sl.stream = n) (hi : ¬(sl.stream = n ∧ sl.state ≠ .free)) : sl.state = .free := by
    by_contra e
    exact hi ⟨hs, e⟩
  by_cases hq : s.engine.halting = true ∨ ∀ i, (s.slot i).stream = n → (s.slot i).onEngine = false
  · obtain ⟨-, -, -, hs⟩ := discardSlots_quiet hq
    rw [hs] at h ⊢
    split at h
    · rw [if_pos ‹_›]; rfl
    · rw [if_neg ‹_›]; exact free _ h ‹_›
  · obtain ⟨h1, h2⟩ := not_or.mp hq
    have hon : ∃ i, (s.slot i).stream = n ∧ (s.slot i).onEngine = true := by simpa using h2
    obtain ⟨-, -, -, -, -, hs, -⟩ := discardSlots_halts hon (by simpa using h1)
    rw [hs] at h ⊢
    split at h
    · rw [if_pos ‹_›]; rfl
    · rename_i hi
      rw [reverted_stream] at h
      have hf := free _ h hi
      rw [if_neg hi, reverted_free hf, hf]

/-- A discard changes of the streams their reprints alone, and of their stream no record at all. -/
theorem discardSlots_streams (s : State) (n : Fin 8) : s.sc.SameLists (s.discardSlots n).sc ∧
    (s.discardSlots n).stream n = s.stream n ∧
    ∀ m, (s.discardSlots n).stream m = { s.stream m with reprints := ((s.discardSlots n).stream m).reprints } := by
  by_cases hq : s.engine.halting = true ∨ ∀ i, (s.slot i).stream = n → (s.slot i).onEngine = false
  · obtain ⟨h, -⟩ := discardSlots_quiet hq
    have hm (m : Fin 8) : (s.discardSlots n).stream m = s.stream m := State.stream_congr h m
    exact ⟨by rw [h]; rfl, hm n, fun m => by rw [hm]⟩
  · obtain ⟨h1, h2⟩ := not_or.mp hq
    obtain ⟨-, -, -, -, hl, -, hn, hm⟩ := discardSlots_halts (s := s) (n := n) (by simpa using h2) (by simpa using h1)
    refine ⟨hl, hn, fun m => ?_⟩
    by_cases e : m = n
    · rw [e, hn]
    · rw [hm m e]

end Sys2Proof.Machine
end

section
/-! SUPPORT. RESET: the stream that it closes, and the statement. -/

namespace Sys2Proof.Machine

/-! ## What RESET leaves (R27) -/

theorem sameLists_iff (c d : StreamController) : c.SameLists d ↔ c.queue = d.queue ∧ c.buffer = d.buffer ∧
    c.readFailed = d.readFailed ∧ c.view = d.view ∧ { d with streams := c.streams } = c := by
  refine ⟨fun h => ?_, fun h => h.2.2.2.2⟩
  unfold StreamController.SameLists at h
  rw [← h]
  exact ⟨rfl, rfl, rfl, rfl, rfl⟩

/-- The record of a stream that RESET closes: its reports fall due, with more behind them (R27). -/
def StreamRec.reset (r : StreamRec) (more : List Report) : StreamRec :=
  { r.withdrawn with state := .closed, reports := cancelReports r.reports ++ more }

theorem enterState_reporting (s : State) (n m : Fin 8) (st : StreamState) :
    (s.enterState n st).writer.reporting m = s.writer.reporting m := by
  unfold State.enterState
  dsimp only
  split
  · simp [State.askDescriptor, reporting_ask, State.modStream]
  · rfl

/-- What RESET of a stream that is not CLOSED leaves, `d` being what the discard of its slots does. -/
structure State.ResetTo (d : State) (n : Fin 8) (v : State) : Prop where
  stream : ∃ more, v.stream n = (d.stream n).reset more
  others : ∀ m, m ≠ n → v.stream m = d.stream m
  queue : v.sc.queue = d.sc.queue.filter (· ≠ n)
  readFailed : d.sc.readFailed = false → v.sc.readFailed = false
  comp : d.comp.waits = false → v.comp.waits = false
  form : d.form.noCheck = true → v.form.noCheck = true
  store : v.store = d.store
  engine : v.engine = d.engine
  linkOut : v.linkOut = d.linkOut
  waits : v.Waits ⟨.descriptor n, true, false, false⟩
  reporting : v.writer.reporting n = d.writer.reporting n

theorem abandonLoad_noCheck {s : State} (h : s.form.noCheck = true) : s.abandonLoad.form.noCheck = true := by
  unfold State.abandonLoad
  split
  · rfl
  · exact h

/-- A stream withdrawn with its reports fallen due becomes CLOSED. -/
theorem enterClosed_resetTo {d w : State} {n : Fin 8} (hst : (d.stream n).state ≠ .closed)
    (hn : ∃ more, w.stream n = { (d.stream n).withdrawn with reports := cancelReports (d.stream n).reports ++ more })
    (hm : ∀ m, m ≠ n → w.stream m = d.stream m) (hq : w.sc.queue = d.sc.queue.filter (· ≠ n))
    (hr : d.sc.readFailed = false → w.sc.readFailed = false) (hc : d.comp.waits = false → w.comp.waits = false)
    (hf : d.form.noCheck = true → w.form.noCheck = true) (hs : w.store = d.store) (he : w.engine = d.engine)
    (hl : w.linkOut = d.linkOut) (hw : w.writer = d.writer) : d.ResetTo n (w.enterState n .closed) := by
  obtain ⟨more, hn⟩ := hn
  have hne : (w.stream n).state ≠ .closed := by rw [hn]; exact hst
  refine ⟨⟨more, ?_⟩, fun m h => ?_, (enterState_queue w n .closed).trans hq,
    fun h => (enterState_readFailed w n .closed).trans (hr h), fun h => by simpa using hc h, fun h => by simpa using hf h,
    by simpa using hs, by simpa using he, by simpa using hl, enterState_waits hne (.inr (.inr rfl)), ?_⟩
  · rw [enterState_stream, if_pos rfl, hn]; rfl
  · rw [enterState_stream, if_neg (Ne.symm h), hm m h]
  · rw [enterState_reporting, hw]

theorem cancelJobs_stream (s : State) (n : Fin 8) : ∃ more, ∀ m, (s.cancelJobs n).stream m =
    if n = m then { s.stream m with reports := cancelReports (s.stream m).reports ++ more } else s.stream m :=
  ⟨_, fun m => State.stream_modStream s n m _⟩

theorem withdrawStream_keeps (s : State) (n : Fin 8) :
    (s.withdrawStream n).sc.readFailed = s.sc.readFailed ∧ (s.withdrawStream n).comp = s.comp := ⟨rfl, rfl⟩

/-- RESET of the ACTIVE stream after the discard of its slots. -/
theorem giveUp_resetTo {d : State} {n : Fin 8} (hst : (d.stream n).state ≠ .closed) :
    d.ResetTo n (((d.abandonLoad.cancelJobs n).withdrawStream n).giveUp n .closed) := by
  obtain ⟨more, hj⟩ := cancelJobs_stream d.abandonLoad n
  have ha (m : Fin 8) : d.abandonLoad.stream m = d.stream m := State.stream_congr (by simp) m
  have hw (m : Fin 8) : ((d.abandonLoad.cancelJobs n).withdrawStream n).stream m =
      if n = m then { (d.stream m).withdrawn with reports := cancelReports (d.stream m).reports ++ more }
      else d.stream m := by
    rw [withdrawStream_stream, hj, ha]
    split <;> rfl
  have hq : ((d.abandonLoad.cancelJobs n).withdrawStream n).sc.queue = d.sc.queue.filter (· ≠ n) := by
    have h : (d.abandonLoad.cancelJobs n).sc.queue = d.abandonLoad.sc.queue := rfl
    rw [withdrawStream_queue, h, (by simp : d.abandonLoad.sc = d.sc)]
  have hf (h : d.form.noCheck = true) : ((d.abandonLoad.cancelJobs n).withdrawStream n).form.noCheck = true := by
    simpa using abandonLoad_noCheck h
  have hs : ((d.abandonLoad.cancelJobs n).withdrawStream n).store = d.store := by simp
  have he : ((d.abandonLoad.cancelJobs n).withdrawStream n).engine = d.engine := by simp
  have hl : ((d.abandonLoad.cancelJobs n).withdrawStream n).linkOut = d.linkOut := by simp
  have hr : ((d.abandonLoad.cancelJobs n).withdrawStream n).writer = d.writer := by simp
  generalize (d.abandonLoad.cancelJobs n).withdrawStream n = w at *
  exact enterClosed_resetTo hst ⟨more, (hw n).trans (if_pos rfl)⟩ (fun m h => (hw m).trans (if_neg (Ne.symm h))) hq
    (fun _ => rfl) (fun _ => rfl) hf hs he hl hr

/-- RESET of any other stream after the discard of its slots. -/
theorem withdraw_resetTo {d : State} {n : Fin 8} (hst : (d.stream n).state ≠ .closed) :
    d.ResetTo n (((d.modStream n fun r => { r with reports := cancelReports r.reports }).withdrawStream n).enterState n
      .closed) := by
  refine enterClosed_resetTo hst ⟨[], ?_⟩ (fun m h => ?_) rfl id id id rfl rfl rfl rfl
  · rw [withdrawStream_stream, if_pos rfl, State.stream_modStream_same, List.append_nil]; rfl
  · rw [withdrawStream_stream, if_neg (Ne.symm h), State.stream_modStream, if_neg (Ne.symm h)]

theorem resetStream_to {s : State} {n : Fin 8} (hc : (s.stream n).state ≠ .closed) :
    (s.discardSlots n).ResetTo n (s.resetStream n) := by
  have hst : ((s.discardSlots n).stream n).state ≠ .closed := by
    rw [(discardSlots_streams s n).2.1]; exact hc
  unfold State.resetStream
  split
  · exact giveUp_resetTo hst
  · exact withdraw_resetTo hst

/-! ## The settlement after a RESET -/

/-- The grant takes the stream at the head of the Job Queue, of whose record it changes the state and the rush flag. -/
theorem grant_stream (s : State) (m : Fin 8) :
    s.grant.stream m = { s.stream m with state := (s.grant.stream m).state, rush := (s.grant.stream m).rush } ∧
      (m ∉ s.sc.queue → s.grant.stream m = s.stream m ∧ m ∉ s.grant.sc.queue) := by
  by_cases h : s.owner ≠ none ∨ s.regs.run = false ∨ s.sc.queue = []
  · rw [State.grant_none h]
    exact ⟨rfl, fun h => ⟨rfl, h⟩⟩
  · obtain ⟨ho, h⟩ := not_or.mp h
    obtain ⟨hr, hq⟩ := not_or.mp h
    obtain ⟨n, rest, e⟩ := List.exists_cons_of_ne_nil hq
    have hg := grant_head (not_not.mp ho) e (by simpa using hr)
    have hs : s.grant.stream m = if n = m then { s.stream m with state := .active, rush := false } else s.stream m := by
      let w : State := { s with sc := { s.sc with queue := rest } }
      let f : StreamRec → StreamRec := fun r => { r with state := .active, rush := false }
      rw [hg]
      exact (State.stream_congr (t := w.modStream n f) rfl m).trans (State.stream_modStream w n m f)
    refine ⟨by rw [hs]; split <;> rfl, fun hm => ?_⟩
    rw [e, List.mem_cons, not_or] at hm
    refine ⟨hs.trans (if_neg (Ne.symm hm.1)), ?_⟩
    rw [hg]
    exact hm.2

/-- The engine's turn in a settlement moves the state and the owed hold alone. -/
theorem engineTurn_engine (u : State) : ∃ st ho,
    u.holdAtBoundary.lookAtGate.engine = { u.engine with state := st, holdOwed := ho } := by
  have held (s : State) (r : HoldReason) : ∃ st ho, (s.enterHeld r).engine = { s.engine with state := st, holdOwed := ho } :=
    ⟨_, _, enterHeld_engine s r⟩
  have gate (s : State) : ∃ st ho, s.moveGate.engine = { s.engine with state := st, holdOwed := ho } :=
    ⟨_, s.engine.holdOwed, moveGate_engine s⟩
  have first : ∃ st ho, u.holdAtBoundary.engine = { u.engine with state := st, holdOwed := ho } := by
    rcases holdAtBoundary_cases u with e | ⟨-, -, ⟨-, e⟩ | ⟨-, e⟩⟩ <;> rw [e]
    · exact ⟨_, _, rfl⟩
    · exact held _ _
    · exact held _ _
  have second (s : State) : ∃ st ho, s.lookAtGate.engine = { s.engine with state := st, holdOwed := ho } := by
    unfold State.lookAtGate State.enterGate
    split
    · exact ⟨_, _, rfl⟩
    · split
      · exact gate s
      · split
        · exact gate s
        · exact held s _
  obtain ⟨st, ho, h1⟩ := first
  obtain ⟨st', ho', h2⟩ := second u.holdAtBoundary
  exact ⟨st', ho', by rw [h2, h1]⟩

theorem resendSlews_halting (k : Nat) (s : State) : (s.resendSlews k).engine.halting = s.engine.halting := by
  have one (s : State) (o : SentMsg) (m : Message) : (s.resend o m).engine.halting = s.engine.halting := by
    unfold State.resend
    dsimp only
    split <;> rfl
  induction k generalizing s with
  | zero => rfl
  | succ k ih =>
    unfold State.resendSlews
    split
    · split
      · rw [ih, one]
      · rfl
    · rfl

/-- Nothing of a settlement starts or ends a halt when nothing of the Composer moves. -/
theorem settle_halting (old : State) {u : State} (hb : u.regs.resetBusy = false) (hc : u.Composed) :
    (State.settle old u).engine.halting = u.engine.halting := by
  obtain ⟨i1, i2, i3, -, -, -⟩ := State.settleImaging_composed hc
  have hd : u.settleImaging.Composed :=
    ⟨by rw [i2]; exact hc.waits, by rw [i1]; exact hc.readFailed, by rw [i3]; exact hc.noCheck⟩
  have hi : u.settleImaging = (u.startRebuild Config.sentMax).cacheBoundary :=
    State.checkForm_composed (by simpa using hc.noCheck)
  have he : (State.settle old u).engine = u.settleImaging.settleComposer.settleEngine.engine := by simp [State.settle, hb]
  obtain ⟨st, ho, ht⟩ := engineTurn_engine u.settleImaging.grant
  rw [he, State.settleComposer_composed hd, State.settleEngine, resendSlews_halting, ht, hi]
  simp

/-! ## RESET -/

/-- What records with the same core share. -/
theorem core_fields {r q : StreamRec} (h : r.core = q.core) :
    r.fill = q.fill ∧ r.take = q.take ∧ r.release = q.release ∧ r.fault = q.fault ∧ r.recordsTaken = q.recordsTaken ∧
      r.pagesExited = q.pagesExited ∧ r.reprints = q.reprints ∧ r.late = q.late ∧ r.excess = q.excess ∧
      r.overrun = q.overrun ∧ r.substitutes = q.substitutes ∧ r.markTag = q.markTag :=
  ⟨(congrArg StreamRec.fill h :), (congrArg StreamRec.take h :), (congrArg StreamRec.release h :), (congrArg StreamRec.fault h :),
    (congrArg StreamRec.recordsTaken h :), (congrArg StreamRec.pagesExited h :), (congrArg StreamRec.reprints h :),
    (congrArg StreamRec.late h :), (congrArg StreamRec.excess h :), (congrArg StreamRec.overrun h :),
    (congrArg StreamRec.substitutes h :), (congrArg StreamRec.markTag h :)⟩

/-- What the settled answer to the RESET of a stream that is not CLOSED leaves, `d` being what the discard of its slots
does. -/
structure State.ResetAnswered (s d : State) (n : Fin 8) (x : Taken) (t : State) : Prop where
  phase : t.sc.phase = .acting n x
  owes : t.Owes ⟨.descriptor n, true, false, true⟩
  core : ∃ more, (t.stream n).core = { (s.stream n).reset more with result := .accepted }.core
  queue : n ∉ t.sc.queue
  slot : ∀ i, t.slot i = d.slot i
  halting : t.engine.halting = d.engine.halting
  quietCore : s.GrantsNothing → (s.stream n).state ≠ .active → ∀ m, m ≠ n →
    (t.stream m).core = (d.stream m).core
  others : ∀ m, m ≠ n → ∃ st rush, (t.stream m).core = { d.stream m with state := st, rush := rush }.core
  linkOut : d.refusalWaits = false → t.linkOut = d.linkOut
  engine : d.refusalWaits = false →
    ∃ st ho, t.engine = { d.engine with state := st, holdOwed := ho }
  report : ∀ r rest, (s.stream n).reports = r :: rest → r.due = false → s.writer.reporting n = false →
    (t.stream n).jobTag = r.tag ∧ (t.stream n).jobOutcome = (if r.outcome = .faulted then .faulted else .cancelled) ∧
      (t.stream n).jobPages = r.pages ∧ t.Owes ⟨.descriptor n, true, true, true⟩

theorem settle_reset {s : State} {n : Fin 8} (x : Taken) (hb : s.regs.resetBusy = false) (hc : s.Composed)
    (hs : (s.stream n).state ≠ .closed) :
    s.ResetAnswered (s.discardSlots n) n x (State.settle s ((s.resetStream n).answer n x .accepted)) := by
  obtain ⟨hl, hdn, hdm⟩ := discardSlots_streams s n
  obtain ⟨lq, -, lr, -, -⟩ := (sameLists_iff _ _).mp hl
  have hto := resetStream_to hs
  have hvc : (s.resetStream n).Composed :=
    ⟨hto.comp (by simpa using hc.waits), hto.readFailed (by rw [← lr]; exact hc.readFailed),
      hto.form (by simpa using hc.noCheck)⟩
  have hvb : (s.resetStream n).regs.resetBusy = false := by simpa using hb
  have hdw : (s.discardSlots n).writer = s.writer := by simp
  have hrun : (s.resetStream n).regs.run = s.regs.run := by simp
  obtain ⟨more, hvn⟩ := hto.stream
  rw [hdn] at hvn
  have hnq : n ∉ (s.resetStream n).sc.queue := by rw [hto.queue]; simp
  generalize s.resetStream n = v at *
  generalize s.discardSlots n = d at *
  have hub : (v.answer n x .accepted).regs.resetBusy = false := by simpa using hvb
  have huc := answer_composed hvc n x .accepted
  have hw : (v.answer n x .accepted).Waits ⟨.descriptor n, true, false, true⟩ := answer_joins x .accepted hto.waits rfl
  have hun : (v.answer n x .accepted).stream n = { (s.stream n).reset more with result := .accepted } := by
    rw [answer_stream, if_pos rfl, hvn]
  have hum (m : Fin 8) (h : m ≠ n) : (v.answer n x .accepted).stream m = d.stream m := by
    rw [answer_stream, if_neg (Ne.symm h), hto.others m h]
  obtain ⟨hgn, hgq⟩ := (grant_stream (v.answer n x .accepted) n).2 hnq
  have hrep : (v.answer n x .accepted).writer.reporting n = s.writer.reporting n := by
    have e : (v.answer n x .accepted).writer.reporting n = v.writer.reporting n := by
      simp only [State.answer, reporting_ask, Bool.and_false, Bool.or_false]
      rfl
    rw [e, hto.reporting, hdw]
  have hrefusal (h : d.refusalWaits = false) : (v.answer n x .accepted).refusalWaits = false := by
    rw [← h, State.refusalWaits, State.refusalWaits, ← hto.engine]; rfl
  obtain ⟨k1, -, -, k4⟩ := State.settle_composed s hub huc
  constructor
  case phase => exact congrArg ScanView.phase (State.settle_view s (v.answer n x .accepted))
  case owes => exact hw.owes.settle s hub huc
  case core => exact ⟨more, by rw [k4.core, hgn, hun]⟩
  case queue => rw [k4.queue]; exact hgq
  case slot => exact fun i => State.slot_congr (k1.trans ((by simp : (v.answer n x .accepted).store = v.store).trans hto.store)) i
  case halting => rw [settle_halting s hub huc, ← hto.engine]; rfl
  case quietCore =>
    intro hg hna m hm
    have hvg : v.GrantsNothing := grantsNothing_change hg hna (by rw [hvn]; exact nofun)
      (fun k hk => by rw [hto.others k hk, hdm k]) (fun h => by rw [hto.queue, ← lq, h]; rfl) hrun
    rw [(settle_settled s hub huc (answer_grantsNothing hvg n x .accepted)).core m, hum m hm]
  case others =>
    intro m hm
    exact ⟨_, _, by rw [k4.core, (grant_stream _ m).1, hum m hm]⟩
  case linkOut =>
    intro h
    rw [(State.settle_calm s hub huc (hrefusal h)).1, ← hto.linkOut]
    rfl
  case engine =>
    intro h
    obtain ⟨-, -, -, -, -, he, -⟩ := State.settle_calm s hub huc (hrefusal h)
    obtain ⟨st, ho, e⟩ := engineTurn_engine (v.answer n x .accepted)
    exact ⟨st, ho, by rw [he, e, ← hto.engine]; rfl⟩
  case report =>
    intro r rest hr hdue hrw
    have hgr : ((v.answer n x .accepted).grant.stream n).reports =
        { r with due := true, outcome := if r.outcome = .faulted then .faulted else .cancelled } ::
          (cancelReports rest ++ more) := by
      rw [hgn, hun]
      simp [StreamRec.reset, hr, cancelReports, hdue]
    obtain ⟨⟨h1, h2, h3, -⟩, -, h5⟩ := settle_reports s hub huc hgr rfl (hrep.trans hrw)
    exact ⟨h1, h2, h3, h5 _ rfl hw⟩

theorem refusalWaits_filter {s d : State} (h : s.refusalWaits = false) (p : SentMsg → Bool)
    (he : d.engine.sent = s.engine.sent.filter p) : d.refusalWaits = false := by
  rw [State.refusalWaits, List.any_eq_false] at h ⊢
  rw [he]
  exact fun m hm => h m (List.mem_of_mem_filter hm)

/-- Settles O31: the answer to a RESET is read off the discard of the stream's slots and what closes the stream. -/
theorem resetClosesTheStream : Obligations.ResetClosesTheStream := by
  unfold Obligations.ResetClosesTheStream
  intro n x base size s hb hp hcomp hg
  refine ⟨fun hc => ?_, fun hc => ?_⟩
  · have hexec : exec .resetRequest s = .next (State.settle s (s.doReset n x)) := by
      rw [← onRequest_acts hp hc s.doReset]; rfl
    refine ⟨_, hexec, ?_⟩
    by_cases hs : (s.stream n).state = .closed
    · have hd : s.doReset n x = s.answer n x .accepted := if_pos hs
      obtain ⟨a, -⟩ := settle_answered s hb hcomp hg n x .accepted
      have hub : (s.answer n x .accepted).regs.resetBusy = false := by simpa using hb
      have huc := answer_composed hcomp n x .accepted
      obtain ⟨f1, f2, f3, f4, f5, f6, f7, f8, f9, f10, f11, f12⟩ :=
        core_fields (q := { s.stream n with result := .accepted }) a.core
      rw [hd]
      refine ⟨a.phase, a.owes, ?_, congrArg StreamRec.result a.core, fun _ => ⟨a.core, a.queue, a.store, a.comp⟩,
        fun h => absurd hs h, fun _ => ⟨fun i _ => State.slot_congr a.store i, settle_halting s hub huc,
          fun _ => a.others, fun hr => (State.settle_calm s hub huc hr).1⟩,
        fun h => absurd hs h, f1, f2, f3, f4, f5, f6, f7, f8, f9, f10, f11, f12, fun _ _ h => absurd hs h, a.hostMem⟩
      exact (congrArg StreamRec.state a.core :).trans hs
    · have hd : s.doReset n x = (s.resetStream n).answer n x .accepted := if_neg hs
      have a := settle_reset x hb hcomp hs
      obtain ⟨more, hcore⟩ := a.core
      obtain ⟨f1, f2, f3, f4, f5, f6, f7, f8, f9, f10, f11, f12⟩ := core_fields hcore
      rw [hd]
      refine ⟨a.phase, a.owes.weaken ⟨rfl, nofun, nofun, id⟩, congrArg StreamRec.state hcore,
        congrArg StreamRec.result hcore, fun h => absurd h hs,
        fun _ => ⟨congrArg StreamRec.rush hcore, congrArg StreamRec.discard hcore, a.queue, fun i hi => ?_, a.owes⟩,
        fun h => ?_, fun _ hon hh => ?_, f1, f2, f3, f4, f5, f6, f7, f8, f9, f10, f11, f12,
        fun r rest _ h1 h2 h3 => a.report r rest h1 h2 h3, by simp⟩
      · rw [a.slot] at hi ⊢
        exact discardSlots_frees s n hi
      · obtain ⟨q1, q2, q3, q4⟩ := discardSlots_quiet (h.resolve_left hs)
        refine ⟨fun i hi => ?_, a.halting.trans (by rw [q3]), fun hna m hm => ?_, fun hr => ?_⟩
        · rw [a.slot, q4, if_neg (fun e => hi e.1)]
        · rw [a.quietCore hg hna m hm, State.stream_congr q1 m]
        · exact (a.linkOut (refusalWaits_filter hr _ (by rw [q3]))).trans q2
      · obtain ⟨q1, q2, q3, q4, -, q6, -, q8⟩ := discardSlots_halts hon hh
        have hr : (s.discardSlots n).refusalWaits = false := by rw [State.refusalWaits, q4]; rfl
        obtain ⟨st, ho, he⟩ := a.engine hr
        refine ⟨(a.linkOut hr).trans q1, by rw [he]; exact q2, by rw [he]; exact q3, by rw [he]; exact q4,
          fun i hi => ?_, fun m hm => ?_⟩
        · rw [a.slot, q6, if_neg (fun e => hi e.1)]
        · obtain ⟨st', rush, hm'⟩ := a.others m hm
          rw [q8 m hm] at hm'
          obtain ⟨g1, g2, g3, g4, -, -, g7, -⟩ := core_fields hm'
          exact ⟨g1, g2, g3, g4, g7⟩
  · have hexec : exec .badRequest s = .next (State.settle s (s.answer n x .badRequest)) := by
      rw [← onRequest_acts hp hc fun n t => s.answer n t .badRequest]; rfl
    obtain ⟨a, -⟩ := settle_answered s hb hcomp hg n x .badRequest
    exact ⟨_, hexec, a.phase, a.owes, a.core, a.others, a.queue, a.comp, a.store, a.form, a.hostMem⟩

end Sys2Proof.Machine
end

section
/-! SUPPORT. Transfers that end, the area header, and the descriptor reads that hold a request. -/

namespace Sys2Proof.Machine

/-! ## A transfer that completes (R157) -/

/-- A wanted read that completes with its bytes is acted on with the bus free of it. -/
theorem completed_read {s : State} {k : TransferKind} {len : Nat} (h : s.OnBus k len) {p : TransferKind → Bool}
    (hp : p k = true) {data : List Byte} (hd : data.length = len) (act : TransferKind → State → State) :
    ∃ q, s.completed p data act = act k (s.endTransfer q) := by
  obtain ⟨hb, t, ht, hw, rfl, rfl, hdata⟩ := h
  refine ⟨t.who, ?_⟩
  unfold State.completed
  rw [ht]
  simp only [hp, hdata, hd, hw, hb, List.length_nil, Nat.add_zero, and_self, if_true]
  rfl

/-! ## The panel through a settlement -/

theorem resendSlews_lamps (k : Nat) (s : State) : (s.resendSlews k).panel.lamps = s.panel.lamps := by
  have one (s : State) (o : SentMsg) (m : Message) : (s.resend o m).panel.lamps = s.panel.lamps := by
    unfold State.resend
    dsimp only
    split <;> rfl
  induction k generalizing s with
  | zero => rfl
  | succ k ih =>
    unfold State.resendSlews
    split
    · split
      · exact (ih _).trans (one _ _ _)
      · rfl
    · rfl

theorem settle_lamps (old u : State) : (State.settle old u).panel.lamps = u.panel.lamps := by
  unfold State.settle
  split
  · rfl
  · have h := resendSlews_lamps Config.sentMax u.settleImaging.settleComposer.holdAtBoundary.lookAtGate
    simpa [State.settleEngine, State.settleComposer, State.settleImaging] using h

/-! ## The end of a scan (R8, R9) -/

/-- With no scan owed the scan ends, and the sweep timer is loaded. -/
theorem finishScan_ends {s : State} (h : s.sc.scan ≠ .scanningOwed) :
    s.finishScan.sc = { s.sc with phase := .none, cut := false, scan := .noScan } ∧
      s.finishScan.regs.sweepTimer = if s.regs.run = true ∧ s.hasArea = true ∧ s.regs.sweepInterval ≠ 0
        then some (s.regs.sweepInterval.toNat * 10) else none := by
  unfold State.finishScan
  rw [if_neg (fun k => h k.1)]
  refine ⟨rfl, ?_⟩
  simp only [State.reloadSweep, State.sweepLoad, and_true]
  rfl

/-- With a scan owed and RUN 1 the next begins at once. -/
theorem finishScan_begins {s : State} (h : s.sc.scan = .scanningOwed) (hr : s.regs.run = true) :
    s.finishScan.sc = { s.sc with phase := .header, cut := false, scan := .scanning, moved := false } ∧
      s.finishScan.regs.sweepTimer = none := by
  unfold State.finishScan
  rw [if_pos ⟨h, hr⟩]
  exact ⟨rfl, rfl⟩

/-! ## The area header (R6) -/

theorem lampFunction_codes : lampFunction 0 = .off ∧ lampFunction 1 = .ready ∧ lampFunction 2 = .attention ∧
    lampFunction 3 = .activity ∧ lampFunction 4 = .formsLow ∧ lampFunction 5 = .offline ∧
    ∀ v, 6 ≤ v → lampFunction v = .off := by
  refine ⟨rfl, rfl, rfl, rfl, rfl, rfl, fun v hv => ?_⟩
  obtain ⟨k, rfl⟩ := Nat.exists_eq_add_of_le' hv
  rfl

/-- What a scan does after its header leaves of the header's fields. -/
theorem afterHeader_keeps (s : State) : s.afterHeader.sc.streamCount = s.sc.streamCount ∧
    s.afterHeader.sc.formCount = s.sc.formCount ∧ s.afterHeader.sc.fontCount = s.sc.fontCount ∧
    s.afterHeader.sc.firstPage = s.sc.firstPage ∧ s.afterHeader.sc.dirOwed = s.sc.dirOwed ∧
    s.afterHeader.sc.streams = s.sc.streams ∧ s.afterHeader.panel = s.panel ∧ s.afterHeader.store = s.store ∧
    s.afterHeader.form = s.form ∧ s.afterHeader.comp = s.comp ∧ s.afterHeader.sc.readFailed = s.sc.readFailed ∧
    s.afterHeader.hostMem = s.hostMem := by
  unfold State.afterHeader State.finishScan
  dsimp only
  split
  · split <;> simp [State.beginScan, State.reloadSweep]
  · simp

theorem takeHeader_phase (s : State) (b : List Byte) :
    (s.sc.cut = false → (s.takeHeader b).sc.phase = .descriptor 0 ∧ (s.takeHeader b).sc.scan = s.sc.scan) ∧
    (s.sc.cut = true → s.sc.scan ≠ .scanningOwed → (s.takeHeader b).sc.phase = .none ∧ (s.takeHeader b).sc.scan = .noScan) ∧
    (s.sc.cut = true → s.sc.scan = .scanningOwed → s.regs.run = true →
      (s.takeHeader b).sc.phase = .header ∧ (s.takeHeader b).sc.scan = .scanning ∧ (s.takeHeader b).sc.cut = false) := by
  have hcut (h : s.sc.cut = true) : s.takeHeader b = (s.storeHeader b).finishScan := if_pos h
  refine ⟨fun h => ?_, fun h hs => ?_, fun h hs hr => ?_⟩
  · have e : s.takeHeader b = { s.storeHeader b with sc := { (s.storeHeader b).sc with phase := .descriptor 0 } } :=
      if_neg (fun k => by rw [show (s.storeHeader b).sc.cut = s.sc.cut from rfl, h] at k; cases k)
    rw [e]
    exact ⟨rfl, rfl⟩
  · rw [hcut h, (finishScan_ends (s := s.storeHeader b) hs).1]
    exact ⟨rfl, rfl⟩
  · rw [hcut h, (finishScan_begins (s := s.storeHeader b) hs hr).1]
    exact ⟨rfl, rfl, rfl⟩

/-- Settles O23: what the header sets, where the scan goes on, and the settlement that keeps both. -/
theorem areaHeaderIsTaken : Obligations.AreaHeaderIsTaken := by
  unfold Obligations.AreaHeaderIsTaken
  refine ⟨lampFunction_codes, fun data s h hd => ?_⟩
  obtain ⟨q, hq⟩ := completed_read h (p := (· = .areaHeader)) (by simp) hd fun _ s => s.takeHeader data
  have hexec : exec (.areaHeaderRead data) s = .next (State.settle s ((s.endTransfer q).takeHeader data)) := by
    rw [← hq]; rfl
  have hu : s.Undisturbed ((s.endTransfer q).takeHeader data) := ((State.Undisturbed.of_eq (s := s)
    (t := s.endTransfer q) rfl rfl).trans (takeHeader_undisturbed _ data))
  have hv : (State.settle s ((s.endTransfer q).takeHeader data)).sc.view = ((s.endTransfer q).takeHeader data).sc.view :=
    State.settle_view _ _
  obtain ⟨h1, h2, h3, h4, h5, -, h7, h8, h9, h10, h11, h12⟩ := afterHeader_keeps ((s.endTransfer q).storeHeader data)
  obtain ⟨p1, p2, p3⟩ := takeHeader_phase (s.endTransfer q) data
  refine ⟨_, hexec, (congrArg ScanView.streamCount hv).trans h1, (congrArg ScanView.formCount hv).trans h2,
    (congrArg ScanView.fontCount hv).trans h3, fun m => ?_, fun k => ?_, fun hc => ?_, fun hc hs => ?_, fun hc hs hr => ?_,
    (congrArg ScanView.dirOwed hv).trans h5, (hu.settle s).buttons, (hu.settle s).setting.run,
    (hu.settle s).setting.areaBase, ?_, fun hcomp => ?_⟩
  · have e : (State.settle s ((s.endTransfer q).takeHeader data)).sc.firstPage = BitVec.ofNat 8 (byteAt data 3) :=
      (congrArg ScanView.firstPage hv).trans h4
    rw [e, BitVec.getLsbD_ofNat]
    simp
  · have e : (State.settle s ((s.endTransfer q).takeHeader data)).panel.lamps =
        ((s.endTransfer q).storeHeader data).panel.lamps := (settle_lamps _ _).trans (by rw [← h7]; rfl)
    rw [e]
    fin_cases k <;> rfl
  · exact ⟨(congrArg ScanView.phase hv).trans (p1 hc).1, (congrArg ScanView.scan hv).trans (p1 hc).2⟩
  · exact ⟨(congrArg ScanView.phase hv).trans (p2 hc hs).1, (congrArg ScanView.scan hv).trans (p2 hc hs).2⟩
  · obtain ⟨a, b, c⟩ := p3 hc hs hr
    exact ⟨(congrArg ScanView.phase hv).trans a, (congrArg ScanView.scan hv).trans b, (congrArg ScanView.cut hv).trans c⟩
  · have e : ((s.endTransfer q).takeHeader data).hostMem = s.hostMem := h12
    simpa using e
  · obtain ⟨k1, k2, -, -⟩ := State.settle_composed s (u := (s.endTransfer q).takeHeader data)
      (hu.setting.resetBusy.trans h.1) ⟨by rw [State.takeHeader, h10]; exact hcomp.waits,
        by rw [State.takeHeader, h11]; exact hcomp.readFailed, by rw [State.takeHeader, h9]; exact hcomp.noCheck⟩
    exact ⟨k1.trans h8, k2.trans h9⟩

/-! ## A descriptor read that holds a request (R7, R21) -/

theorem takenOf_eq (b : List Byte) : takenOf b = {
    fill := le32 b 0
    code := requestCode (le16 b 4)
    flush := if le16 b 6 < 60 then le16 b 6 else 60 } := by
  have h : min (le16 b 6) Config.maxFlush = if le16 b 6 < 60 then le16 b 6 else 60 := by
    rw [Nat.min_def, Config.maxFlush]
    split <;> split <;> omega
  rw [takenOf, h]

theorem requestCode_codes : requestCode 0 = .none ∧ requestCode 1 = .openRing ∧ requestCode 2 = .close ∧
    requestCode 3 = .cancel ∧ requestCode 4 = .rush ∧ requestCode 5 = .reset ∧
    ∀ v, 6 ≤ v → requestCode v = .unknown := by
  refine ⟨rfl, rfl, rfl, rfl, rfl, rfl, fun v hv => ?_⟩
  obtain ⟨k, rfl⟩ := Nat.exists_eq_add_of_le' hv
  rfl

theorem requestCode_waits {v : Nat} (h : 2 ≤ v) : requestCode v ≠ .none ∧ requestCode v ≠ .openRing := by
  obtain ⟨k, rfl⟩ := Nat.exists_eq_add_of_le' h
  match k with
  | 0 | 1 | 2 | 3 => exact ⟨nofun, nofun⟩
  | k + 4 => exact ⟨nofun, nofun⟩

/-- The state with the scan at phase `p`. -/
def State.atPhase (s : State) (p : ScanPhase) : State := { s with sc := { s.sc with phase := p } }

theorem takeDescriptor_clearOwed {s : State} {n : Fin 8} (h : (s.stream n).clearOwed = true) (b : List Byte) :
    s.takeDescriptor n b = (s.atPhase (.acting n (takenOf b))).ask ⟨.requestField n, false, false, false⟩ := if_pos h

theorem takeDescriptor_open {s : State} {n : Fin 8} {b : List Byte} (h : (s.stream n).clearOwed = false)
    (hc : le16 b 4 = 1) : s.takeDescriptor n b = s.atPhase (.openRead n (takenOf b)) := by
  have e : (takenOf b).code = .openRing := congrArg requestCode hc
  simp [State.takeDescriptor, h, e, State.atPhase]

theorem takeDescriptor_request {s : State} {n : Fin 8} {b : List Byte} (h : (s.stream n).clearOwed = false)
    (hc : 2 ≤ le16 b 4) : s.takeDescriptor n b = s.atPhase (.request n (takenOf b) 0 0) := by
  obtain ⟨h1, h2⟩ := requestCode_waits hc
  unfold State.takeDescriptor
  dsimp only
  rw [if_neg (by simp [h])]
  split
  · rename_i e; exact absurd e h1
  · rename_i e; exact absurd e h2
  · rfl

theorem takeRing_held {s : State} {k : Fin 8} {x : Taken} (h : s.sc.phase = .openRead k x) (n : Fin 8) (b : List Byte) :
    s.takeRing n b = s.atPhase (.request n x (BitVec.ofNat 32 (le32 b 0)) (le32 b 4)) := by
  simp [State.takeRing, h, State.atPhase]

/-- A completed read that leaves the streams and the Composer and moves the scan to a phase. -/
structure State.PhaseOf (s u : State) (p : ScanPhase) : Prop where
  regs : u.regs = s.regs
  sc : u.sc = { s.sc with phase := p }
  comp : u.comp = s.comp
  store : u.store = s.store
  form : u.form = s.form
  hostMem : u.hostMem = s.hostMem

theorem atPhase_of (s : State) (q : Requester) (p : ScanPhase) : s.PhaseOf ((s.endTransfer q).atPhase p) p :=
  ⟨rfl, rfl, rfl, rfl, rfl, rfl⟩

/-- The settlement after such a read. -/
theorem State.PhaseOf.settle {s u : State} {p : ScanPhase} (h : s.PhaseOf u p) (hb : s.regs.resetBusy = false)
    (hc : s.Composed) (hg : s.GrantsNothing) (old : State) :
    (State.settle old u).sc.phase = p ∧ (∀ o, u.Owes o → (State.settle old u).Owes o) ∧
      (∀ m, ((State.settle old u).stream m).core = (s.stream m).core) ∧ (State.settle old u).sc.queue = s.sc.queue ∧
      (State.settle old u).comp = s.comp ∧ (State.settle old u).store = s.store ∧ (State.settle old u).form = s.form ∧
      (State.settle old u).hostMem = s.hostMem := by
  have hs : u.sc.streams = s.sc.streams := by rw [h.sc]
  have hq : u.sc.queue = s.sc.queue := by rw [h.sc]
  have hug : u.GrantsNothing := by rwa [State.GrantsNothing, owner_streams hs, hq, h.regs]
  have k := settle_settled old (u := u) (by rw [h.regs]; exact hb)
    ⟨by rw [h.comp]; exact hc.waits, by rw [h.sc]; exact hc.readFailed, by rw [h.form]; exact hc.noCheck⟩ hug
  refine ⟨(congrArg ScanView.phase k.view).trans (by rw [h.sc]; rfl), k.owes, fun m => ?_, k.queue.trans hq,
    k.comp.trans h.comp, k.store.trans h.store, k.form.trans h.form, k.hostMem.trans h.hostMem⟩
  rw [k.core, stream_streams hs m]

theorem exec_descriptorRead {s : State} {k : TransferKind} {len : Nat} (h : s.OnBus k len)
    (hp : k.isDescriptorRead = true) {data : List Byte} (hd : data.length = len) : ∃ q,
    exec (.descriptorRead data) s = .next (State.settle s ((s.endTransfer q).takeDescriptorRead data k)) := by
  obtain ⟨q, hq⟩ := completed_read h (p := (·.isDescriptorRead)) hp hd fun k s => s.takeDescriptorRead data k
  exact ⟨q, by rw [← hq]; rfl⟩

/-- Settles O25: the phase that a descriptor read leads to, which the settlement keeps. -/
theorem descriptorReadHoldsTheRequest : Obligations.DescriptorReadHoldsTheRequest := by
  unfold Obligations.DescriptorReadHoldsTheRequest
  refine ⟨takenOf_eq, requestCode_codes, fun n data s hd hc hg => ⟨fun h => ?_, fun x h hp => ?_⟩⟩
  · obtain ⟨q, hexec⟩ := exec_descriptorRead h rfl hd
    by_cases hw : (s.stream n).clearOwed = true
    · have e : (s.endTransfer q).takeDescriptorRead data (.descriptor n) =
          ((s.endTransfer q).atPhase (.acting n (takenOf data))).ask ⟨.requestField n, false, false, false⟩ :=
        takeDescriptor_clearOwed (s := s.endTransfer q) hw data
      have hu : s.PhaseOf (((s.endTransfer q).atPhase (.acting n (takenOf data))).ask
          ⟨.requestField n, false, false, false⟩) (.acting n (takenOf data)) := ⟨rfl, rfl, rfl, rfl, rfl, rfl⟩
      obtain ⟨k1, k2, k3⟩ := hu.settle h.1 hc hg s
      rw [e] at hexec
      exact ⟨_, hexec, fun k => absurd (k.symm.trans hw) nofun, fun k => absurd (k.symm.trans hw) nofun,
        fun _ => ⟨k1, k2 _ (State.ask_owes _ _)⟩, fun _ => k3⟩
    · have hw' : (s.stream n).clearOwed = false := Bool.eq_false_iff.mpr hw
      rcases Nat.lt_or_ge (le16 data 4) 2 with hlt | hge
      · by_cases h1 : le16 data 4 = 1
        · have e : (s.endTransfer q).takeDescriptorRead data (.descriptor n) =
              (s.endTransfer q).atPhase (.openRead n (takenOf data)) :=
            takeDescriptor_open (s := s.endTransfer q) hw' h1
          obtain ⟨k1, -, k3⟩ := (atPhase_of s q _).settle h.1 hc hg s
          rw [e] at hexec
          exact ⟨_, hexec, fun _ _ => k1, fun _ k => by omega, fun k => absurd k hw, fun _ => k3⟩
        · exact ⟨_, hexec, fun _ k => absurd k h1, fun _ k => by omega, fun k => absurd k hw,
            fun k => (k.elim (fun k => absurd (by omega) k) fun k => absurd k hw)⟩
      · have e : (s.endTransfer q).takeDescriptorRead data (.descriptor n) =
            (s.endTransfer q).atPhase (.request n (takenOf data) 0 0) :=
          takeDescriptor_request (s := s.endTransfer q) hw' hge
        obtain ⟨k1, -, k3⟩ := (atPhase_of s q _).settle h.1 hc hg s
        rw [e] at hexec
        exact ⟨_, hexec, fun _ k => by omega, fun _ _ => k1, fun k => absurd k hw, fun _ => k3⟩
  · obtain ⟨q, hexec⟩ := exec_descriptorRead h rfl hd
    have e : (s.endTransfer q).takeDescriptorRead data (.openRead n) =
        (s.endTransfer q).atPhase (.request n x (BitVec.ofNat 32 (le32 data 0)) (le32 data 4)) :=
      takeRing_held (s := s.endTransfer q) hp n data
    rw [e] at hexec
    obtain ⟨k1, -, k3⟩ := (atPhase_of s q _).settle h.1 hc hg s
    exact ⟨_, hexec, k1, k3⟩

end Sys2Proof.Machine
end

section
/-! SUPPORT. What a settlement never does: no block forgets an owed write. With no refusal waiting the offers and the
link stay and the cache meets the band boundary, whatever the Composer does. -/

namespace Sys2Proof.Machine

/-! ## Owed writes stay owed (R160) -/

/-- Every write that `s` owes is still owed by `t`. -/
def State.KeepsOwed (s t : State) : Prop := ∀ o, s.Owes o → t.Owes o

namespace State.KeepsOwed

theorem refl (s : State) : s.KeepsOwed s := fun _ h => h

theorem of_eq {s t : State} (h : t.writer = s.writer) : s.KeepsOwed t := fun _ k => k.congr h

theorem trans {a b c : State} (h : a.KeepsOwed b) (k : b.KeepsOwed c) : a.KeepsOwed c := fun o ho => k o (h o ho)

/-- What keeps every owed write does so from any state with the same Status Writer. -/
theorem after {s t u : State} (k : t.KeepsOwed u) (h : t.writer = s.writer) : s.KeepsOwed u := (of_eq h).trans k

theorem before {s t u : State} (k : s.KeepsOwed t) (h : u.writer = t.writer) : s.KeepsOwed u := k.trans (of_eq h)

theorem ask {s t : State} (h : s.KeepsOwed t) (o : Owed) : s.KeepsOwed (t.ask o) := fun p hp => (h p hp).ask o

end State.KeepsOwed

theorem enterState_keepsOwed (s : State) (n : Fin 8) (st : StreamState) : s.KeepsOwed (s.enterState n st) := by
  unfold State.enterState
  dsimp only
  split
  · exact (State.KeepsOwed.of_eq rfl).ask _
  · exact .of_eq rfl

theorem giveUp_keepsOwed (s : State) (n : Fin 8) (st : StreamState) : s.KeepsOwed (s.giveUp n st) :=
  .after (enterState_keepsOwed _ n st) rfl

theorem afterTake_keepsOwed (s : State) (n : Fin 8) : s.KeepsOwed (s.afterTake n) := by
  unfold State.afterTake
  split
  · split
    · exact .of_eq rfl
    · exact giveUp_keepsOwed s n .idle
  · exact .of_eq rfl

theorem finishLine_keepsOwed (s : State) (n : Fin 8) (h : RecordHeader) : s.KeepsOwed (s.finishLine n h) :=
  .after (afterTake_keepsOwed (s.advanceTake n h.length) n) (by simp)

theorem lineAfter_keepsOwed (s : State) (n : Fin 8) (h : RecordHeader) : s.KeepsOwed (s.lineAfter n h) := by
  unfold State.lineAfter
  split
  · dsimp only
    split
    · exact .of_eq (by simp)
    · exact .after (finishLine_keepsOwed _ n h) (by simp)
  · exact .refl s

theorem lineStrike_keepsOwed (s : State) (n : Fin 8) (h : RecordHeader) : s.KeepsOwed (s.lineStrike n h) := by
  unfold State.lineStrike
  split
  · exact .refl s
  · rename_i i _
    have offer : (if h.textCount = 0 then s else s.offerStrike n i h).writer = s.writer := by
      split
      · rfl
      · simp
    dsimp only
    generalize (if h.textCount = 0 then s else s.offerStrike n i h) = s1 at *
    split
    · exact .of_eq offer
    · exact .after (lineAfter_keepsOwed s1 n h) offer

theorem startJob_keepsOwed (s : State) (i : Fin 4) (n : Fin 8) (j : JobInfo) : s.KeepsOwed (s.startJob i n j) :=
  .after (afterTake_keepsOwed _ n) (by simp)

theorem openJob_keepsOwed (s : State) (n : Fin 8) : s.KeepsOwed (s.openJob n) := by
  unfold State.openJob
  split
  · exact .refl s
  · split
    · exact startJob_keepsOwed s _ n _
    · exact .of_eq rfl

theorem resumeRecord_keepsOwed (s : State) (n : Fin 8) (r : RecordRest) : s.KeepsOwed (s.resumeRecord n r) := by
  cases r
  · exact .refl s
  · exact lineStrike_keepsOwed s n _
  · exact finishLine_keepsOwed s n _

theorem resumeWait_keepsOwed (s : State) : s.KeepsOwed s.resumeWait := by
  unfold State.resumeWait
  split
  · exact .refl s
  · split
    · split
      · exact .refl s
      · split
        · exact openJob_keepsOwed s _
        · dsimp only
          split
          · exact .of_eq (by simp)
          · exact .after (resumeRecord_keepsOwed _ _ _) (by simp)
    · split
      · exact .after (lineStrike_keepsOwed _ _ _) rfl
      · exact .refl s
    · exact .refl s

theorem reportMark_keepsOwed (s : State) (n : Fin 8) (t : Option Word32) : s.KeepsOwed (s.reportMark n t) := by
  cases t
  · exact .refl s
  · exact (State.KeepsOwed.of_eq rfl).ask _

theorem releaseUnused_keepsOwed (s : State) (i : Fin 4) (e : Option JobEnd) : s.KeepsOwed (s.releaseUnused i e) := by
  unfold State.releaseUnused
  dsimp only
  split
  · exact .of_eq rfl
  · exact .before (.after (reportMark_keepsOwed (s.modStream _ _) _ _) rfl) rfl

theorem endPage_keepsOwed (s : State) (i : Fin 4) (e : JobEnd) : s.KeepsOwed (s.endPage i e) := by
  unfold State.endPage
  split
  · exact releaseUnused_keepsOwed s i _
  · exact .of_eq (by simp)

theorem faultPage_keepsOwed (s : State) (n : Fin 8) (c : FaultCode) : s.KeepsOwed (s.faultPage n c) := by
  unfold State.faultPage
  split
  · split
    · exact .of_eq rfl
    · exact .refl s
  · dsimp only
    split
    · split
      · exact .before (endPage_keepsOwed s _ _) rfl
      · split
        · exact .of_eq rfl
        · exact .of_eq rfl
    · exact .of_eq rfl

theorem faultActive_keepsOwed (s : State) (n : Fin 8) (c : FaultCode) : s.KeepsOwed (s.faultActive n c) :=
  have h1 : s.KeepsOwed s.abandonLoad := .of_eq (by simp)
  have h2 : s.KeepsOwed ((s.abandonLoad.faultPage n c).modStream n fun r => { r with fault := c }) :=
    h1.trans ((faultPage_keepsOwed s.abandonLoad n c).before rfl)
  h2.trans (giveUp_keepsOwed _ n .faulted)

theorem memReadFault_keepsOwed (s : State) : s.KeepsOwed s.memReadFault := by
  unfold State.memReadFault
  split
  · split
    · exact faultActive_keepsOwed s _ _
    · exact .refl s
  · exact .refl s

theorem endLoad_keepsOwed (s : State) (c : FaultCode) : s.KeepsOwed (s.endLoad c) := by
  unfold State.endLoad
  dsimp only
  split
  · exact .after (faultActive_keepsOwed _ _ c) rfl
  · exact .of_eq rfl

theorem checkForm_keepsOwed (s : State) : s.KeepsOwed s.checkForm := by
  unfold State.checkForm
  split
  · split
    · exact .refl s
    · split
      · exact .of_eq rfl
      · exact endLoad_keepsOwed s _
  · exact .refl s

/-- A settlement forgets no owed write. -/
theorem settle_keepsOwed (old u : State) : u.KeepsOwed (State.settle old u) := by
  unfold State.settle
  split
  · exact .refl u
  · have h1 : u.KeepsOwed u.settleImaging :=
      (checkForm_keepsOwed (u.startRebuild Config.sentMax).cacheBoundary).after (by simp)
    have h2 (s : State) : s.KeepsOwed s.settleComposer :=
      ((resumeWait_keepsOwed s).trans (memReadFault_keepsOwed s.resumeWait)).before (by simp [State.settleComposer])
    have h3 (s : State) : s.KeepsOwed s.settleEngine := .of_eq (by simp [State.settleEngine])
    intro o h
    exact ((h3 _ o (h2 _ o (h1 o h))).settleStatus old).serveBus

/-! ## With no refusal waiting -/

/-- With no refusal waiting a settlement leaves the offers and the link, and the cache meets the band boundary. -/
theorem settle_offers (old : State) {u : State} (hb : u.regs.resetBusy = false) (hr : u.refusalWaits = false) :
    (State.settle old u).builder = u.builder ∧ (State.settle old u).linkOut = u.linkOut ∧
      (State.settle old u).cache = u.cacheBoundary.cache := by
  have hi : u.settleImaging = u.cacheBoundary.checkForm := by rw [State.settleImaging, State.startRebuild_calm hr]
  have he : u.settleImaging.settleComposer.settleEngine =
      u.settleImaging.settleComposer.holdAtBoundary.lookAtGate := by
    apply State.resendSlews_calm
    simpa [State.refusalWaits, State.settleComposer, hi] using hr
  have hs : State.settle old u =
      (State.settleStatus old u.settleImaging.settleComposer.holdAtBoundary.lookAtGate).serveBus := by
    simp [State.settle, hb, he]
  rw [hs]
  refine ⟨?_, ?_, ?_⟩ <;> simp [State.settleComposer, hi]

end Sys2Proof.Machine
end

section
/-! SUPPORT. A fault of the ACTIVE stream, the font directory, and the statement about the directory read. -/

namespace Sys2Proof.Machine

/-! ## What the page side changes of the streams (R41, R104, R115) -/

/-- A stream record without what the close, the release and the reports of its pages change. -/
def StreamRec.bare (r : StreamRec) : StreamRec :=
  { r with release := 0, substitutes := 0, markTag := 0, reports := [], heldExits := 0 }

/-- From `s` to `t` the streams change at most in what their pages change. -/
structure State.PagesOnly (s t : State) : Prop where
  bare : ∀ m, (t.stream m).bare = (s.stream m).bare
  lists : s.sc.SameLists t.sc

namespace State.PagesOnly

theorem of_eq {s t : State} (h : t.sc = s.sc) : s.PagesOnly t :=
  ⟨fun m => by rw [State.stream_congr h m], by rw [h]; rfl⟩

theorem refl (s : State) : s.PagesOnly s := .of_eq rfl

theorem trans {s t u : State} (h : s.PagesOnly t) (k : t.PagesOnly u) : s.PagesOnly u := by
  refine ⟨fun m => (k.bare m).trans (h.bare m), ?_⟩
  have h1 := h.lists
  have k1 := k.lists
  unfold StreamController.SameLists at h1 k1 ⊢
  rw [← h1, ← k1]

theorem modStream {s t : State} (h : s.PagesOnly t) (n : Fin 8) {f : StreamRec → StreamRec}
    (hf : ∀ r, (f r).bare = r.bare := by exact fun _ => rfl) : s.PagesOnly (t.modStream n f) :=
  h.trans ⟨fun m => by rw [State.stream_modStream]; split <;> simp [hf], rfl⟩

theorem modSlot {s t : State} (h : s.PagesOnly t) (i : Fin 4) (f : Slot → Slot) : s.PagesOnly (t.modSlot i f) :=
  h.trans (.of_eq rfl)

theorem clearSlot {s t : State} (h : s.PagesOnly t) (i : Fin 4) : s.PagesOnly (t.clearSlot i) := h.trans (.of_eq rfl)

/-- The streams told by the Stream Controller alone. -/
theorem after {s t u : State} (k : t.PagesOnly u) (h : t.sc = s.sc) : s.PagesOnly u := (of_eq h).trans k

theorem before {s t u : State} (k : s.PagesOnly t) (h : u.sc = t.sc) : s.PagesOnly u := k.trans (of_eq h)

end State.PagesOnly

theorem closeSteps_pagesOnly (s : State) (i : Fin 4) (row : Nat) : s.PagesOnly (s.closeSteps i row) := by
  unfold State.closeSteps
  dsimp only
  split
  · exact .modSlot (.modStream (.refl s) _) i _
  · exact (((State.PagesOnly.refl s).modStream (s.slot i).stream
      (f := fun r => { r with substitutes := satAdd r.substitutes (s.closeSubstitutes row (s.slot i)) })).modSlot i
      (s.closedSlot row)).before rfl

theorem closeFinal_pagesOnly (s : State) (i : Fin 4) (e : Option JobEnd) : s.PagesOnly (s.closeFinal i e) :=
  (closeSteps_pagesOnly s i _).modSlot i _

theorem reportMark_pagesOnly (s : State) (n : Fin 8) (t : Option Word32) : s.PagesOnly (s.reportMark n t) := by
  cases t with
  | none => exact .refl s
  | some tag =>
    exact ((State.PagesOnly.refl s).modStream n (f := fun r => { r with markTag := tag })).before rfl

theorem State.PagesOnly.reportsFall {s t : State} (h : s.PagesOnly t) (n : Fin 8) (l : List JobEnd) :
    s.PagesOnly (t.reportsFall n l) := h.modStream n

theorem releaseUnused_pagesOnly (s : State) (i : Fin 4) (e : Option JobEnd) : s.PagesOnly (s.releaseUnused i e) := by
  unfold State.releaseUnused
  dsimp only
  split
  · exact .clearSlot (.modStream (.modSlot (.refl s) _ _) _) i
  · exact .clearSlot (.reportsFall (.trans (.modStream (.refl s) _) (reportMark_pagesOnly _ _ _)) _ _) i

theorem endPage_pagesOnly (s : State) (i : Fin 4) (e : JobEnd) : s.PagesOnly (s.endPage i e) := by
  unfold State.endPage
  split
  · exact releaseUnused_pagesOnly s i _
  · exact closeFinal_pagesOnly s i _

theorem reportUntakenJob_pagesOnly (s : State) (n : Fin 8) : s.PagesOnly (s.reportUntakenJob n) :=
  ((State.PagesOnly.refl s).modStream n (f := fun r =>
    { r with reports := r.reports ++ [⟨s.untakenTag n, .faulted, true, 0⟩] })).before rfl

theorem faultPage_pagesOnly (s : State) (n : Fin 8) (c : FaultCode) : s.PagesOnly (s.faultPage n c) := by
  unfold State.faultPage
  split
  · split
    · exact reportUntakenJob_pagesOnly s n
    · exact .refl s
  · dsimp only
    split
    · split
      · exact .modStream (endPage_pagesOnly s _ _) n
      · split
        · exact .modStream (.modSlot (.refl s) _ _) n
        · exact .modStream (.reportsFall (.refl s) n _) n
    · exact .modStream (.refl s) n

/-! ## A fault of the ACTIVE stream (R41) -/

theorem giveUp_stream (s : State) (n : Fin 8) (st : StreamState) (m : Fin 8) :
    (s.giveUp n st).stream m = if n = m then { s.stream m with state := st } else s.stream m := by
  unfold State.giveUp
  rw [enterState_stream]
  rfl

theorem giveUp_sc (s : State) (n : Fin 8) (st : StreamState) :
    (s.giveUp n st).sc.queue = s.sc.queue ∧ (s.giveUp n st).sc.buffer = [] ∧ (s.giveUp n st).sc.readFailed = false ∧
      (s.giveUp n st).comp = Composer.initial := by
  have hc : (s.giveUp n st).comp = Composer.initial := by simp [State.giveUp]
  refine ⟨?_, ?_, ?_, hc⟩ <;> unfold State.giveUp <;> rw [enterState_sc] <;> rfl

/-- What a fault leaves of the streams, the Composer and the load (R41). -/
theorem faultActive_leaves (s : State) (n : Fin 8) (c : FaultCode) :
    (∀ m, ((s.faultActive n c).stream m).bare =
      if n = m then { (s.stream m).bare with state := .faulted, fault := c } else (s.stream m).bare) ∧
    (s.faultActive n c).sc.queue = s.sc.queue ∧ (s.faultActive n c).sc.buffer = [] ∧
    (s.faultActive n c).sc.readFailed = false ∧ (s.faultActive n c).comp = Composer.initial := by
  have hp : s.PagesOnly (s.abandonLoad.faultPage n c) := (faultPage_pagesOnly s.abandonLoad n c).after (by simp)
  obtain ⟨h1, h2, h3, h4⟩ := giveUp_sc ((s.abandonLoad.faultPage n c).modStream n fun r => { r with fault := c }) n .faulted
  refine ⟨fun m => ?_, h1.trans ((sameLists_iff _ _).mp hp.lists).1.symm, h2, h3, h4⟩
  rw [State.faultActive, giveUp_stream, State.stream_modStream]
  split
  · rw [← hp.bare m]; rfl
  · exact hp.bare m

theorem abandonLoad_form (s : State) : s.abandonLoad.form.noCheck = true ∧
    (∀ l, s.abandonLoad.form ≠ .loading l) ∧ (s.form = .empty → s.abandonLoad.form = .empty) := by
  unfold State.abandonLoad
  cases h : s.form <;> simp [FormUnit.noCheck, h]

theorem faultActive_form (s : State) (n : Fin 8) (c : FaultCode) : (s.faultActive n c).form = s.abandonLoad.form := by
  simp [State.faultActive]

/-- After a fault nothing of the Composer moves. -/
theorem faultActive_composed (s : State) (n : Fin 8) (c : FaultCode) : (s.faultActive n c).Composed := by
  obtain ⟨-, -, -, h1, h2⟩ := faultActive_leaves s n c
  exact ⟨by rw [h2]; rfl, h1, by rw [faultActive_form]; exact (abandonLoad_form s).1⟩

theorem faultActive_waits {s : State} {n : Fin 8} (h : (s.stream n).state ≠ .faulted) (c : FaultCode) :
    (s.faultActive n c).Waits ⟨.descriptor n, true, false, false⟩ := by
  have hp := (faultPage_pagesOnly s.abandonLoad n c).bare n
  have hs : ((s.abandonLoad.faultPage n c).stream n).state = (s.stream n).state :=
    (congrArg StreamRec.state hp :).trans (by rw [State.stream_congr (by simp : s.abandonLoad.sc = s.sc) n]; rfl)
  refine enterState_waits ?_ (.inr (.inl rfl))
  have e (u : State) : ({ u with comp := Composer.initial, sc := { u.sc with buffer := [], readFailed := false } }.dropReads
      (TransferKind.isRing n)).stream n = u.stream n := rfl
  rw [e, State.stream_modStream_same]
  exact fun k => h (hs.symm.trans k)

end Sys2Proof.Machine
end

section
/-! SUPPORT. The end of a scan, the font directory set aside or put in force, the form check that follows, and the
statement about the directory read. -/

namespace Sys2Proof.Machine

/-! ## The end of a scan whose header read completed (R7, R10) -/

/-- The device record write owed is asked for. -/
def State.recordAsked (s : State) : State :=
  if s.sc.recordOwed then { s with sc := { s.sc with recordOwed := false } }.askRecord else s

theorem endScan_eq (s : State) : s.endScan = s.recordAsked.finishScan := rfl

@[simp] theorem recordAsked_keeps (s : State) : s.recordAsked.regs = s.regs ∧
    s.recordAsked.sc = { s.sc with recordOwed := false } ∧ s.recordAsked.comp = s.comp ∧ s.recordAsked.form = s.form ∧
    s.recordAsked.store = s.store ∧ s.recordAsked.builder = s.builder ∧ s.recordAsked.cache = s.cache ∧
    s.recordAsked.engine = s.engine ∧ s.recordAsked.hostMem = s.hostMem ∧ s.recordAsked.linkOut = s.linkOut := by
  unfold State.recordAsked
  split
  · simp
  · rename_i h
    have h' : s.sc.recordOwed = false := by simpa using h
    have e : ({ s.sc with recordOwed := false } : StreamController) = s.sc := by rw [← h']
    simp [e]

/-- The device record write owed is asked for at the end of a scan. -/
theorem endScan_owes {s : State} (h : s.sc.recordOwed = true) : s.endScan.Owes ⟨.deviceRecord, false, false, false⟩ := by
  have e : s.recordAsked = { s with sc := { s.sc with recordOwed := false } }.askRecord := if_pos h
  rw [endScan_eq]
  exact State.Owes.congr (s := s.recordAsked) (by rw [e]; exact State.ask_owes _ _) (by simp)

/-- The end of a scan leaves of the Stream Controller all but the scan. -/
theorem endScan_sc (s : State) : s.endScan.sc.streams = s.sc.streams ∧ s.endScan.sc.queue = s.sc.queue ∧
    s.endScan.sc.readFailed = s.sc.readFailed ∧ s.endScan.sc.dirOwed = s.sc.dirOwed ∧
    s.endScan.sc.recordOwed = false := by
  rw [endScan_eq]
  unfold State.finishScan
  dsimp only
  split <;> simp [State.beginScan, State.reloadSweep]

/-- Where the scan stands after its end, and what the sweep timer is loaded with (R8, R9). -/
theorem endScan_scan (s : State) :
    (s.sc.scan ≠ .scanningOwed → s.endScan.sc.scan = .noScan ∧ s.endScan.sc.phase = .none ∧
      s.endScan.regs.sweepTimer = if s.regs.run = true ∧ s.hasArea = true ∧ s.regs.sweepInterval ≠ 0
        then some (s.regs.sweepInterval.toNat * 10) else none) ∧
    (s.sc.scan = .scanningOwed → s.regs.run = true → s.endScan.sc.scan = .scanning ∧ s.endScan.sc.phase = .header ∧
      s.endScan.regs.sweepTimer = none) := by
  have hsc : s.recordAsked.sc.scan = s.sc.scan := by simp
  have hr : s.recordAsked.regs = s.regs := by simp
  constructor
  · intro h
    obtain ⟨h1, h2⟩ := finishScan_ends (s := s.recordAsked) (by rw [hsc]; exact h)
    rw [endScan_eq, h1, h2, State.hasArea, hr]
    exact ⟨rfl, rfl, rfl⟩
  · intro h hrun
    obtain ⟨h1, h2⟩ := finishScan_begins (s := s.recordAsked) (by rw [hsc]; exact h) (by rw [hr]; exact hrun)
    rw [endScan_eq, h1, h2]
    exact ⟨rfl, rfl, rfl⟩

/-! ## Directories (R140, R141) -/

theorem directory_beforeFirst {s : State} (h : s.cache.inForce = none) :
    s.directory.count = 1 ∧ s.directory.font 0 = ⟨0, 0, 8, 8⟩ := by
  rw [State.directory, h]
  exact ⟨rfl, rfl⟩

theorem directoryOf_font (count : Nat) (b : List Byte) {t : Nat} (h : t < 4) : (directoryOf count b).font t = {
    base := BitVec.ofNat 32 (le32 b (16 * t))
    count := if le16 b (16 * t + 4) = 0 then 1 else if 192 < le16 b (16 * t + 4) then 192 else le16 b (16 * t + 4)
    width := if byteAt b (16 * t + 6) < 8 then 8 else if 48 < byteAt b (16 * t + 6) then 48 else byteAt b (16 * t + 6)
    height := if byteAt b (16 * t + 7) < 8 then 8 else if 64 < byteAt b (16 * t + 7) then 64
      else byteAt b (16 * t + 7) } := by
  have clampCounts (v : Nat) : clampCount 192 v = if v = 0 then 1 else if 192 < v then 192 else v := by
    unfold clampCount; split <;> [skip; split] <;> omega
  have clamp (v hi : Nat) (hh : 8 ≤ hi) : min (max v 8) hi = if v < 8 then 8 else if hi < v then hi else v := by
    split <;> [skip; split] <;> omega
  have hrec : (directoryOf count b).font t =
      { base := BitVec.ofNat 32 (le32 b (16 * t))
        count := clampCount 192 (le16 b (16 * t + 4))
        width := min (max (byteAt b (16 * t + 6)) 8) 48
        height := min (max (byteAt b (16 * t + 7)) 8) 64 } := by
    match t, h with
    | 0, _ | 1, _ | 2, _ | 3, _ => rfl
  rw [hrec, clampCounts, clamp _ _ (by omega), clamp _ _ (by omega)]

/-- At a band boundary a directory set aside is put in force, with the cache emptied, unless the cache is FLUSHING. -/
theorem atBoundary_puts {c : GlyphCache} {d : Directory} (h : c.aside = some d) (hf : c.flush ≠ .reading) :
    c.atBoundary.inForce = some d ∧ c.atBoundary.aside = none ∧ c.atBoundary.fill = c.fill ∧
      (∀ k : Fin 32, c.atBoundary.sets[k] = CacheSet.empty) ∧ c.atBoundary.hits = c.hits ∧
      c.atBoundary.misses = c.misses := by
  obtain ⟨hin, hsets⟩ := putInForce_some h
  rcases atBoundary_cases c with ⟨e, -⟩ | ⟨-, e⟩ | ⟨-, e⟩
  · exact absurd e hf
  · rw [e]
    exact ⟨hin, by simp, by simp, hsets, by simp, by simp⟩
  · rw [e]
    refine ⟨by simpa using hin, by simp, by simp, fun k => ?_, by simp, by simp⟩
    cases hfill : c.putInForce.fill with
    | none => rw [beginFlush_idle hfill]; exact emptied_sets c.putInForce k
    | some f => rw [beginFlush_filling (by rw [hfill]; exact nofun)]; exact hsets k

/-! ## The form check that a directory lets be made (R76) -/

/-- With the Composer still but for a form check, a settlement without refusals takes the check first. -/
theorem settle_checked (old : State) {u : State} (hb : u.regs.resetBusy = false) (hr : u.refusalWaits = false)
    (hc : u.cacheBoundary.checkForm.Composed) :
    (State.settle old u).form = u.cacheBoundary.checkForm.form ∧
      (State.settle old u).SameStreams u.cacheBoundary.checkForm.grant := by
  have hi : u.settleImaging = u.cacheBoundary.checkForm := by rw [State.settleImaging, State.startRebuild_calm hr]
  have hs : State.settle old u = (State.settleStatus old (u.cacheBoundary.checkForm.grant).settleEngine).serveBus := by
    rw [State.settle, if_neg (by simp [hb]), hi, State.settleComposer_composed hc]
  rw [hs]
  refine ⟨by simp [State.settleEngine], ?_⟩
  exact (State.serveBus_same _).trans ((State.settleStatus_same _ _).trans (.of_eq (by simp [State.settleEngine])))

theorem checkForm_accepts {s : State} {l : Load} {d : Directory} (hf : s.form = .loading l) (hl : l.step = .check)
    (hd : s.checkDirectory = some d) (ha : formAccepted (d.font 0).count l.recordBytes = true) :
    s.checkForm = { s with form := .loading { l with step := .vft } } := by
  simp [State.checkForm, hf, hd, hl, ha]

theorem checkForm_refuses {s : State} {l : Load} {d : Directory} {n : Fin 8} (hf : s.form = .loading l)
    (hl : l.step = .check) (hd : s.checkDirectory = some d) (ha : formAccepted (d.font 0).count l.recordBytes = false)
    (ho : s.owner = some n) : s.checkForm = { s with form := .empty }.faultActive n .badForm := by
  have hend : s.checkForm = s.endLoad .badForm := by simp [State.checkForm, hf, hd, hl, ha]
  have ho' : { s with form := .empty }.owner = some n := (State.owner_congr rfl).trans ho
  rw [hend, State.endLoad]
  simp [ho']

/-- A form check refused faults the stream, whatever the settlement does next. -/
theorem settle_refused (old : State) {u : State} {n : Fin 8} (hb : u.regs.resetBusy = false) (hr : u.refusalWaits = false)
    (hq : n ∉ u.sc.queue) (h : u.cacheBoundary.checkForm = { u.cacheBoundary with form := .empty }.faultActive n .badForm) :
    (State.settle old u).form = .empty ∧ ((State.settle old u).stream n).state = .faulted ∧
      ((State.settle old u).stream n).fault = .badForm ∧ ((State.settle old u).stream n).take = (u.stream n).take := by
  have hsc : u.cacheBoundary.sc = u.sc := by simp
  generalize hw : { u.cacheBoundary with form := .empty } = w at h
  have hwsc : w.sc = u.sc := by rw [← hw]; exact hsc
  obtain ⟨hbare, hqueue, -⟩ := faultActive_leaves w n .badForm
  obtain ⟨hform, hsame⟩ := settle_checked old hb hr (by rw [h]; exact faultActive_composed _ _ _)
  rw [h] at hform hsame
  have hg := ((grant_stream (w.faultActive n .badForm) n).2 (by rw [hqueue, hwsc]; exact hq)).1
  have hcore := hsame.core n
  have hn := hbare n
  rw [if_pos rfl] at hn
  rw [hg] at hcore
  refine ⟨?_, (congrArg StreamRec.state hcore :).trans (congrArg StreamRec.state hn :),
    (congrArg StreamRec.fault hcore :).trans (congrArg StreamRec.fault hn :),
    (congrArg StreamRec.take hcore :).trans ((congrArg StreamRec.take hn :).trans ?_)⟩
  · rw [hform, faultActive_form]
    exact (abandonLoad_form w).2.2 (by rw [← hw])
  · rw [State.stream_congr hwsc n]
    rfl

/-- The state in which a directory read has been taken (R141). -/
structure State.DirectoryTaken (s : State) (d : Directory) (u : State) : Prop where
  cache : u.cache = { s.cache with aside := some d }
  builder : u.builder = s.builder
  engine : u.engine = s.engine
  linkOut : u.linkOut = s.linkOut
  hostMem : u.hostMem = s.hostMem
  comp : u.comp = s.comp
  form : u.form = s.form
  streams : u.sc.streams = s.sc.streams
  queue : u.sc.queue = s.sc.queue
  readFailed : u.sc.readFailed = s.sc.readFailed
  dirOwed : u.sc.dirOwed = s.sc.moved
  recordOwed : u.sc.recordOwed = false
  owes : s.sc.recordOwed = true → u.Owes ⟨.deviceRecord, false, false, false⟩
  ends : s.sc.scan ≠ .scanningOwed → u.sc.scan = .noScan ∧ u.sc.phase = .none ∧
    u.regs.sweepTimer = if s.regs.run = true ∧ s.hasArea = true ∧ s.regs.sweepInterval ≠ 0
      then some (s.regs.sweepInterval.toNat * 10) else none
  begins : s.sc.scan = .scanningOwed → s.regs.run = true →
    u.sc.scan = .scanning ∧ u.sc.phase = .header ∧ u.regs.sweepTimer = none

/-- The directory read stored, before the scan ends. -/
def State.directoryAside (s : State) (b : List Byte) : State :=
  { s with
    cache := { s.cache with aside := some (directoryOf s.sc.fontCount b) }
    sc := { s.sc with dirOwed := s.sc.moved, moved := false } }

theorem takeDirectory_taken (s : State) (q : Requester) (b : List Byte) :
    s.DirectoryTaken (directoryOf s.sc.fontCount b) ((s.endTransfer q).takeDirectory b) := by
  have e : (s.endTransfer q).takeDirectory b = ((s.endTransfer q).directoryAside b).endScan := rfl
  obtain ⟨h1, h2, h3, h4, h5⟩ := endScan_sc ((s.endTransfer q).directoryAside b)
  obtain ⟨k1, k2⟩ := endScan_scan ((s.endTransfer q).directoryAside b)
  have hr : ((s.endTransfer q).directoryAside b).sc.recordOwed = s.sc.recordOwed := rfl
  rw [e]
  refine ⟨?_, ?_, ?_, ?_, ?_, ?_, ?_, h1, h2, h3, h4, h5, fun h => endScan_owes (hr.trans h), k1, k2⟩ <;>
    simp [State.directoryAside]

/-- Settles O32: the cache meets the band boundary, the form check is made against what it puts in force, and the scan
ends. -/
theorem fontDirectoryIsSetAside : Obligations.FontDirectoryIsSetAside := by
  unfold Obligations.FontDirectoryIsSetAside
  refine ⟨fun s => ⟨directory_beforeFirst, fun d hd => by rw [State.directory, hd]; rfl, by simp [State.refusalWaits]⟩,
    fun count b => ⟨rfl, fun t => directoryOf_font count b⟩, fun data s h hd hr => ?_⟩
  obtain ⟨q, hq⟩ := completed_read h (p := (· = .fontDirectory)) (by simp) hd fun _ s => s.takeDirectory data
  have hexec : exec (.fontDirectoryRead data) s = .next (State.settle s ((s.endTransfer q).takeDirectory data)) := by
    rw [← hq]; rfl
  have k := takeDirectory_taken s q data
  have hset : ((s.endTransfer q).takeDirectory data).regs.SameSetting s.regs :=
    (takeDirectory_undisturbed (s.endTransfer q) data).setting
  generalize (s.endTransfer q).takeDirectory data = u at *
  have hub : u.regs.resetBusy = false := hset.resetBusy.trans h.1
  have hur : u.refusalWaits = false := by rwa [State.refusalWaits, k.engine]
  have hat : u.atBoundary = s.atBoundary := by rw [State.atBoundary, State.atBoundary, k.builder]
  obtain ⟨ob, ol, oc⟩ := settle_offers s hub hur
  have hv : (State.settle s u).sc.view = u.sc.view := State.settle_view _ _
  have quiet (hb : s.atBoundary = false ∨ s.cache.flush = .reading) :
      (State.settle s u).cache = { s.cache with aside := some (directoryOf s.sc.fontCount data) } := by
    rw [oc, ← k.cache, State.cacheBoundary, hat]
    rcases hb with hb | hf
    · rw [if_neg (by simp [hb])]
    · split
      · have hf' : u.cache.flush = .reading := by rw [k.cache]; exact hf
        simp [GlyphCache.atBoundary, hf']
      · rfl
  have boundary (hb : s.atBoundary = true) : u.cacheBoundary = { u with cache := u.cache.atBoundary } :=
    if_pos (hat.trans hb)
  have puts (hf : s.cache.flush ≠ .reading) := atBoundary_puts (c := u.cache) (d := directoryOf s.sc.fontCount data)
    (by rw [k.cache]) (by rw [k.cache]; exact hf)
  refine ⟨_, hexec, (congrArg ScanView.dirOwed hv).trans k.dirOwed, fun hs => ⟨(congrArg ScanView.scan hv).trans (k.ends hs).1,
    (congrArg ScanView.phase hv).trans (k.ends hs).2.1, fun h1 h2 h3 => ?_⟩,
    fun hs hrun => ⟨(congrArg ScanView.scan hv).trans (k.begins hs hrun).1,
      (congrArg ScanView.phase hv).trans (k.begins hs hrun).2.1⟩,
    fun hb => quiet (.inl hb),
    fun hro => ⟨(congrArg ScanView.recordOwed hv).trans k.recordOwed, settle_keepsOwed s u _ (k.owes hro)⟩,
    fun hf => quiet (.inr hf), fun hb hf => ?_, fun l hl hstep hw hrf hb hf => ?_, ob.trans k.builder, ol.trans k.linkOut,
    (by simp : (State.settle s u).hostMem = u.hostMem).trans k.hostMem,
    (by simp : (State.settle s u).regs.run = u.regs.run).trans hset.run⟩
  · have ht : (State.settle s u).regs.sweepTimer = u.regs.sweepTimer := by simp
    rw [ht, (k.ends hs).2.2, if_pos ⟨h1, h2, h3⟩]
  · obtain ⟨p1, p2, p3, p4, p5, p6⟩ := puts hf
    rw [oc, boundary hb]
    rw [k.cache] at p1 p2 p3 p4 p5 p6 ⊢
    exact ⟨p1, p2, p3, p4, p5, p6⟩
  · have hform : u.cacheBoundary.form = .loading l := by rw [boundary hb]; exact k.form.trans hl
    have hdir : u.cacheBoundary.checkDirectory = some (directoryOf s.sc.fontCount data) := by
      rw [boundary hb]
      exact State.checkDirectory_inForce (puts hf).1
    refine ⟨fun ha => ?_, fun n ha ho hn => ?_⟩
    · have hck := checkForm_accepts hform hstep hdir ha
      have hcomp : u.cacheBoundary.checkForm.Composed := by
        rw [hck]
        exact ⟨by simpa [k.comp] using hw, by simpa [k.readFailed] using hrf, rfl⟩
      rw [(settle_checked s hub hur hcomp).1, hck]
    · have hown : u.cacheBoundary.owner = some n := by
        rw [State.owner_congr (by simp : u.cacheBoundary.sc = u.sc), owner_streams k.streams]
        exact ho
      obtain ⟨r1, r2, r3, r4⟩ := settle_refused s hub hur (by rw [k.queue]; exact hn)
        (checkForm_refuses hform hstep hdir ha hown)
      exact ⟨r1, r2, r3, r4.trans (by rw [stream_streams k.streams n])⟩

end Sys2Proof.Machine
end

section
/-! SUPPORT. The scan after a descriptor, the fill pointer and the flush interval. -/

namespace Sys2Proof.Machine

/-! ## The scan after a descriptor (R7, R8) -/

/-- What the scan's next step leaves: the streams, the Job Queue, the read buffer, and the owed writes. -/
structure State.ScanStep (s u : State) : Prop where
  streams : u.sc.streams = s.sc.streams
  queue : u.sc.queue = s.sc.queue
  buffer : u.sc.buffer = s.sc.buffer
  readFailed : u.sc.readFailed = s.sc.readFailed
  waits : ∀ o, s.Waits o → u.Waits o
  reporting : ∀ m, u.writer.reporting m = s.writer.reporting m

theorem State.ScanStep.refl (s : State) : s.ScanStep s := ⟨rfl, rfl, rfl, rfl, fun _ h => h, fun _ => rfl⟩

theorem State.ScanStep.trans {s t u : State} (h : s.ScanStep t) (k : t.ScanStep u) : s.ScanStep u :=
  ⟨k.streams.trans h.streams, k.queue.trans h.queue, k.buffer.trans h.buffer, k.readFailed.trans h.readFailed,
    fun o ho => k.waits o (h.waits o ho), fun m => (k.reporting m).trans (h.reporting m)⟩

theorem finishScan_step (s : State) : s.ScanStep s.finishScan := by
  have hw : s.finishScan.writer = s.writer := by simp
  have hsc : s.finishScan.sc.streams = s.sc.streams ∧ s.finishScan.sc.queue = s.sc.queue ∧
      s.finishScan.sc.buffer = s.sc.buffer ∧ s.finishScan.sc.readFailed = s.sc.readFailed := by
    unfold State.finishScan
    dsimp only
    split <;> exact ⟨rfl, rfl, rfl, rfl⟩
  obtain ⟨h1, h2, h3, h4⟩ := hsc
  exact ⟨h1, h2, h3, h4, fun o ho => ho.congr hw, fun m => by rw [hw]⟩

theorem recordAsked_step (s : State) : s.ScanStep s.recordAsked := by
  unfold State.recordAsked
  split
  · refine ⟨rfl, rfl, rfl, rfl, fun o ho => State.Waits.ask (s := { s with sc := _ }) (ho.congr rfl) _, fun m => ?_⟩
    simp [State.askRecord, reporting_ask]
  · exact .refl s

theorem scanTail_step (s : State) : s.ScanStep s.scanTail := by
  unfold State.scanTail
  split
  · exact ⟨rfl, rfl, rfl, rfl, fun o ho => ho.congr rfl, fun _ => rfl⟩
  · rw [endScan_eq]
    exact (recordAsked_step s).trans (finishScan_step _)

theorem scanAfter_step (s : State) (n : Fin 8) : s.ScanStep (s.scanAfter n) := by
  unfold State.scanAfter
  split
  · exact finishScan_step s
  · split
    · split
      · exact ⟨rfl, rfl, rfl, rfl, fun o ho => ho.congr rfl, fun _ => rfl⟩
      · exact scanTail_step s
    · exact scanTail_step s

theorem scanAfter_next {s : State} {n m : Fin 8} (h : m.val = n.val + 1) (hc : m.val < s.sc.streamCount)
    (hcut : s.sc.cut = false) : (s.scanAfter n).sc.phase = .descriptor m := by
  have h8 : n.val + 1 < 8 := h ▸ m.isLt
  have hm : (⟨n.val + 1, h8⟩ : Fin 8) = m := Fin.ext h.symm
  unfold State.scanAfter
  rw [if_neg (by simp [hcut]), dif_pos h8, if_pos (h ▸ hc), hm]

theorem scanAfter_tail {s : State} {n : Fin 8} (h : n.val + 1 = 8 ∨ s.sc.streamCount ≤ n.val + 1)
    (hcut : s.sc.cut = false) : s.scanAfter n = s.scanTail := by
  unfold State.scanAfter
  rw [if_neg (by simp [hcut])]
  split
  · rw [if_neg (by omega)]
  · rfl

/-- After the last descriptor the directory is read where it is owed, and else the scan ends. -/
theorem scanTail_directory {s : State} (h : s.sc.dirOwed = true) :
    s.scanTail.sc.phase = .directory ∧ s.scanTail.sc.scan = s.sc.scan := by
  unfold State.scanTail
  rw [if_pos h]
  exact ⟨rfl, rfl⟩

theorem scanTail_ends {s : State} (h : s.sc.dirOwed = false) : s.scanTail = s.endScan := if_neg (by simp [h])

/-! ## The fill pointer (R28) -/

theorem forward_eq {size a b : Nat} (ha : a < size) (hb : b < size) :
    forward size a b = if a ≤ b then b - a else b + size - a := by
  unfold forward
  split
  · rw [show b + size - a = b - a + size by omega, Nat.add_mod_right, Nat.mod_eq_of_lt (by omega)]
  · exact Nat.mod_eq_of_lt (by omega)

/-- A bad fill pointer, by where release and take stand (R28). -/
theorem badFill_iff {r : StreamRec} {p : Nat} (hr : r.release < r.ringSize) (ht : r.take < r.ringSize) :
    r.badFill p = true ↔ p % 4 ≠ 0 ∨ r.ringSize ≤ p ∨
      (r.release ≤ r.take ∧ r.release ≤ p ∧ p < r.take) ∨ (r.take < r.release ∧ (r.release ≤ p ∨ p < r.take)) := by
  rw [StreamRec.badFill, decide_eq_true_iff]
  rcases Nat.lt_or_ge p r.ringSize with hp | hp
  · rw [forward_eq hr hp, forward_eq hr ht]
    split <;> split <;> omega
  · simp [hp]

/-- The newest slot of a stream is the last one of the imaging list that is its (R115). -/
theorem newestSlot_iff (n : Fin 8) (x : Option (Fin 4)) (k : Fin 4) (s : State) :
    let ofStream := fun k => (s.slot k).stream = n ∧ (s.slot k).state ≠ .free ∧ x ≠ some k
    s.newestSlot n x = some k ↔ ∃ front back, s.store.imaging = front ++ k :: back ∧ ofStream k ∧
      ∀ k' ∈ back, ¬ofStream k' := by
  intro ofStream
  have hp (j : Fin 4) : ((s.slot j).stream = n ∧ (s.slot j).state ≠ .free ∧ some j ≠ x) ↔ ofStream j := by
    simp only [ofStream, ne_comm]
  rw [State.newestSlot, List.find?_eq_some_iff_append]
  simp only [hp, decide_eq_true_eq, Bool.not_eq_true', decide_eq_false_iff_not]
  constructor
  · rintro ⟨hk, as, bs, e, has⟩
    refine ⟨bs.reverse, as.reverse, ?_, hk, fun j hj => has j (List.mem_reverse.mp hj)⟩
    rw [← List.reverse_reverse s.store.imaging, e]
    simp
  · rintro ⟨front, back, e, hk, hb⟩
    exact ⟨hk, back.reverse, front.reverse, by simp [e], fun j hj => hb j (List.mem_reverse.mp hj)⟩

/-! ## A good fill pointer taken (R28, R34) -/

/-- The record of a stream whose fill pointer `p` has been taken: an IDLE stream with bytes ahead becomes QUEUED. -/
def StreamRec.filled (r : StreamRec) (p : Nat) : StreamRec :=
  { r with
    fill := p
    discardStalled := r.discardStalled && decide (p = r.fill)
    state := if r.state = .idle ∧ p ≠ r.take then .queued else r.state }

theorem enqueue_sc (s : State) (n : Fin 8) : (s.enqueue n).sc.streams = s.sc.streams ∧
    (s.enqueue n).sc.buffer = s.sc.buffer ∧ (s.enqueue n).sc.readFailed = s.sc.readFailed := ⟨rfl, rfl, rfl⟩

theorem insertRushed_congr {s t : State} (h : ∀ m, (s.stream m).rush = (t.stream m).rush) (n : Fin 8) (q : List (Fin 8)) :
    s.insertRushed n q = t.insertRushed n q := by
  induction q with
  | nil => rfl
  | cons m q ih =>
    have hr : s.anyRushed (m :: q) = t.anyRushed (m :: q) := by simp only [State.anyRushed, h]
    simp only [State.insertRushed, hr, ih]

/-- A rushed stream enters directly behind the last rushed entry (R26, R34). -/
theorem insertRushed_behind {s : State} {n : Fin 8} {front back : List (Fin 8)}
    (hf : ∀ m ∈ front.getLast?, (s.stream m).rush = true) (hb : ∀ m ∈ back, (s.stream m).rush = false) :
    s.insertRushed n (front ++ back) = front ++ n :: back := by
  induction front with
  | nil =>
    cases back with
    | nil => rfl
    | cons m q =>
      have h : s.anyRushed (m :: q) = false := by
        rw [State.anyRushed, List.any_eq_false]
        exact fun k hk => by simp [hb k hk]
      simp [State.insertRushed, h]
  | cons a front ih =>
    have h : s.anyRushed (a :: (front ++ back)) = true := by
      obtain ⟨l, hl⟩ : ∃ l, (a :: front).getLast? = some l := ⟨_, List.getLast?_eq_some_getLast (by simp)⟩
      refine List.any_eq_true.mpr ⟨l, ?_, hf l hl⟩
      exact List.mem_append_left back (List.mem_of_getLast? hl)
    have hf' : ∀ m ∈ front.getLast?, (s.stream m).rush = true := by
      cases front with
      | nil => simp
      | cons b front => intro m hm; exact hf m (by simpa using hm)
    simp [State.insertRushed, h, ih hf']

/-- The fill pointer stored, before it wakes anything. -/
def State.storeFill (s : State) (n : Fin 8) (p : Nat) : State :=
  s.modStream n fun r => { r with fill := p, discardStalled := r.discardStalled && decide (p = r.fill) }

/-- What taking a good fill pointer comes to (R28). -/
theorem takeFill_cases (s : State) (n : Fin 8) (p : Nat) :
    ((s.stream n).state = .idle ∧ p ≠ (s.stream n).take ∧ (s.stream n).discard = false ∧
      s.takeFill n p = ((s.storeFill n p).enterState n .queued).enqueue n) ∨
    ((s.stream n).state = .idle ∧ p ≠ (s.stream n).take ∧ (s.stream n).discard = true ∧
      s.takeFill n p = (s.storeFill n p).enterState n .queued) ∨
    ((s.stream n).state = .active ∧ s.comp.state = .atFill ∧ p ≠ (s.stream n).take ∧
      s.takeFill n p = { s.storeFill n p with comp := { s.comp with state := .ready, flush := .stopped } }) ∨
    (¬((s.stream n).state = .idle ∧ p ≠ (s.stream n).take) ∧
      ¬((s.stream n).state = .active ∧ s.comp.state = .atFill ∧ p ≠ (s.stream n).take) ∧
      s.takeFill n p = s.storeFill n p) := by
  unfold State.takeFill
  dsimp only
  split
  · rename_i h
    by_cases hp : p = (s.stream n).take
    · exact .inr (.inr (.inr ⟨fun k => k.2 hp, by simp [h], if_pos hp⟩))
    · by_cases hd : (s.stream n).discard = true
      · exact .inr (.inl ⟨h, hp, hd, (if_neg hp).trans (if_pos hd)⟩)
      · exact .inl ⟨h, hp, Bool.eq_false_iff.mpr hd, (if_neg hp).trans (if_neg hd)⟩
  · rename_i h
    by_cases hc : s.comp.state = .atFill ∧ p ≠ (s.stream n).take
    · exact .inr (.inr (.inl ⟨h, hc.1, hc.2, if_pos hc⟩))
    · exact .inr (.inr (.inr ⟨by simp [h], fun k => hc k.2, if_neg hc⟩))
  · rename_i h1 h2
    exact .inr (.inr (.inr ⟨fun k => h1 k.1, fun k => h2 k.1, rfl⟩))

theorem storeFill_stream (s : State) (n : Fin 8) (p : Nat) (m : Fin 8) : (s.storeFill n p).stream m =
    if n = m then { s.stream m with
      fill := p, discardStalled := (s.stream m).discardStalled && decide (p = (s.stream m).fill) } else s.stream m :=
  State.stream_modStream s n m _

theorem takeFill_stream (s : State) (n : Fin 8) (p : Nat) (m : Fin 8) :
    (s.takeFill n p).stream m = if n = m then (s.stream m).filled p else s.stream m := by
  have queued : ((s.storeFill n p).enterState n .queued).stream m =
      if n = m then { s.stream m with
        fill := p, discardStalled := (s.stream m).discardStalled && decide (p = (s.stream m).fill), state := .queued }
      else s.stream m := by
    rw [enterState_stream, storeFill_stream]
    split <;> rfl
  rcases takeFill_cases s n p with ⟨hs, hp, -, e⟩ | ⟨hs, hp, -, e⟩ | ⟨hs, -, -, e⟩ | ⟨hi, -, e⟩ <;> rw [e]
  · rw [stream_streams (enqueue_sc _ n).1 m, queued]
    by_cases h : n = m
    · subst h; simp [StreamRec.filled, hs, hp]
    · rw [if_neg h, if_neg h]
  · rw [queued]
    by_cases h : n = m
    · subst h; simp [StreamRec.filled, hs, hp]
    · rw [if_neg h, if_neg h]
  · refine (stream_streams (t := s.storeFill n p) rfl m).trans ?_
    rw [storeFill_stream]
    by_cases h : n = m
    · subst h; simp [StreamRec.filled, hs]
    · rw [if_neg h, if_neg h]
  · rw [storeFill_stream]
    by_cases h : n = m
    · subst h; simp only [if_true, StreamRec.filled, if_neg hi]
    · rw [if_neg h, if_neg h]

/-- An IDLE stream that wakes enters the Job Queue, unless it discards (R28, R34). -/
theorem takeFill_queue (s : State) (n : Fin 8) (p : Nat) : (s.takeFill n p).sc.queue =
    if (s.stream n).state = .idle ∧ p ≠ (s.stream n).take ∧ (s.stream n).discard = false then
      if (s.stream n).rush then s.insertRushed n s.sc.queue else s.sc.queue ++ [n]
    else s.sc.queue := by
  rcases takeFill_cases s n p with ⟨hs, hp, hd, e⟩ | ⟨-, -, hd, e⟩ | ⟨hs, -, -, e⟩ | ⟨hi, -, e⟩ <;> rw [e]
  · have hq : ((s.storeFill n p).enterState n .queued).sc.queue = s.sc.queue := enterState_queue _ _ _
    have hr (m : Fin 8) : (((s.storeFill n p).enterState n .queued).stream m).rush = (s.stream m).rush := by
      rw [enterState_stream, storeFill_stream]
      split <;> rfl
    have he (u : State) : (u.enqueue n).sc.queue =
        if (u.stream n).rush then u.insertRushed n u.sc.queue else u.sc.queue ++ [n] := rfl
    rw [if_pos ⟨hs, hp, hd⟩, he, hr, hq, insertRushed_congr hr]
  · rw [enterState_queue, if_neg (by simp [hd])]
    rfl
  · rw [if_neg (by simp [hs])]
    rfl
  · rw [if_neg (fun k => hi ⟨k.1, k.2.1⟩)]
    rfl

/-- A good fill pointer ahead of take ends the wait of the Composer at fill (R28, R69). -/
theorem takeFill_comp (s : State) (n : Fin 8) (p : Nat) : (s.takeFill n p).comp =
    if (s.stream n).state = .active ∧ s.comp.state = .atFill ∧ p ≠ (s.stream n).take
      then { s.comp with state := .ready, flush := .stopped } else s.comp := by
  rcases takeFill_cases s n p with ⟨hs, -, -, e⟩ | ⟨hs, -, -, e⟩ | ⟨hs, hc, hp, e⟩ | ⟨-, hc, e⟩ <;> rw [e]
  · rw [if_neg (by simp [hs])]
    simp [State.storeFill]
  · rw [if_neg (by simp [hs])]
    simp [State.storeFill]
  · rw [if_pos ⟨hs, hc, hp⟩]
  · rw [if_neg hc]
    rfl

theorem takeFill_sc (s : State) (n : Fin 8) (p : Nat) : (s.takeFill n p).sc.readFailed = s.sc.readFailed := by
  rcases takeFill_cases s n p with ⟨-, -, -, e⟩ | ⟨-, -, -, e⟩ | ⟨-, -, -, e⟩ | ⟨-, -, e⟩ <;> rw [e]
  · exact enterState_readFailed _ _ _
  · exact enterState_readFailed _ _ _
  · rfl
  · rfl

end Sys2Proof.Machine
end

section
/-! SUPPORT. The fields of a descriptor read taken with no request: the fill pointer checked, the flush interval, and the
scan's next step. -/

namespace Sys2Proof.Machine

/-! ## The fill pointer checked (R28) -/

/-- What checking a fill pointer comes to (R28, R41, R42). -/
theorem checkFill_cases (s : State) (n : Fin 8) (p : Nat) :
    (((s.stream n).state = .closed ∨ (s.stream n).state = .faulted) ∧ s.checkFill n p = s) ∨
    (((s.stream n).state = .idle ∨ (s.stream n).state = .queued ∨ (s.stream n).state = .active) ∧
      (s.stream n).badFill p = false ∧ s.checkFill n p = s.takeFill n p) ∨
    (((s.stream n).state = .idle ∨ (s.stream n).state = .queued) ∧ (s.stream n).badFill p = true ∧
      s.checkFill n p = s.faultInactive n .badFill) ∨
    ((s.stream n).state = .active ∧ (s.stream n).badFill p = true ∧ s.checkFill n p = s.faultActive n .badFill) := by
  unfold State.checkFill
  cases hs : (s.stream n).state <;> cases hb : (s.stream n).badFill p <;> simp

theorem checkFill_good {s : State} {n : Fin 8} {p : Nat} (h1 : (s.stream n).state ≠ .closed)
    (h2 : (s.stream n).state ≠ .faulted) (hb : (s.stream n).badFill p = false) : s.checkFill n p = s.takeFill n p := by
  rcases checkFill_cases s n p with ⟨h, -⟩ | ⟨-, -, e⟩ | ⟨-, h, -⟩ | ⟨-, h, -⟩
  · exact (h.elim h1 h2).elim
  · exact e
  · rw [hb] at h; cases h
  · rw [hb] at h; cases h

theorem checkFill_inactive {s : State} {n : Fin 8} {p : Nat} (h : (s.stream n).state = .idle ∨ (s.stream n).state = .queued)
    (hb : (s.stream n).badFill p = true) : s.checkFill n p = s.faultInactive n .badFill := by
  rcases h with h | h <;> simp [State.checkFill, h, hb]

theorem checkFill_active {s : State} {n : Fin 8} {p : Nat} (h : (s.stream n).state = .active)
    (hb : (s.stream n).badFill p = true) : s.checkFill n p = s.faultActive n .badFill := by
  simp [State.checkFill, h, hb]

theorem checkFill_ignored {s : State} {n : Fin 8} (h : (s.stream n).state = .closed ∨ (s.stream n).state = .faulted)
    (p : Nat) : s.checkFill n p = s := by
  rcases h with h | h <;> simp [State.checkFill, h]

/-- What a fault of a stream that is not ACTIVE leaves (R42). -/
theorem faultInactive_leaves (s : State) (n : Fin 8) (c : FaultCode) :
    (∀ m, (s.faultInactive n c).stream m =
      if n = m then { s.stream m with fault := c, discardStalled := false, state := .faulted } else s.stream m) ∧
    (s.faultInactive n c).sc.queue = s.sc.queue.filter (· ≠ n) ∧
    (s.faultInactive n c).sc.readFailed = s.sc.readFailed ∧
    ((s.stream n).state ≠ .faulted → (s.faultInactive n c).Waits ⟨.descriptor n, true, false, false⟩) := by
  let w := (((s.dequeue n).dropHeld n).dropReads (TransferKind.isRing n)).modStream n fun r =>
    { r with fault := c, discardStalled := false }
  have hw (m : Fin 8) : w.stream m = if n = m then { s.stream m with fault := c, discardStalled := false } else s.stream m :=
    State.stream_modStream (((s.dequeue n).dropHeld n).dropReads (TransferKind.isRing n)) n m _
  refine ⟨fun m => ?_, enterState_queue w n .faulted, enterState_readFailed w n .faulted,
    fun h => enterState_waits (s := w) ?_ (.inr (.inl rfl))⟩
  · rw [State.faultInactive, enterState_stream, hw]
    split <;> rfl
  · rw [hw, if_pos rfl]; exact h

/-- A check of the fill pointer leaves the other streams, but for what their pages change. -/
theorem checkFill_others (s : State) {n m : Fin 8} (h : m ≠ n) (p : Nat) :
    ((s.checkFill n p).stream m).bare = (s.stream m).bare := by
  rcases checkFill_cases s n p with ⟨-, e⟩ | ⟨-, -, e⟩ | ⟨-, -, e⟩ | ⟨-, -, e⟩ <;> rw [e]
  · rw [takeFill_stream, if_neg (Ne.symm h)]
  · rw [(faultInactive_leaves s n .badFill).1, if_neg (Ne.symm h)]
  · rw [(faultActive_leaves s n .badFill).1, if_neg (Ne.symm h)]

/-- A check of the fill pointer moves nothing of the Composer that would go on by itself. -/
theorem checkFill_composed {s : State} (h : s.Composed) (n : Fin 8) (p : Nat) : (s.checkFill n p).Composed := by
  rcases checkFill_cases s n p with ⟨-, e⟩ | ⟨-, -, e⟩ | ⟨-, -, e⟩ | ⟨-, -, e⟩ <;> rw [e]
  · exact h
  · refine ⟨?_, (takeFill_sc s n p).trans h.readFailed, by simpa using h.noCheck⟩
    rw [takeFill_comp]
    split
    · rfl
    · exact h.waits
  · exact ⟨by simpa using h.waits, (faultInactive_leaves s n .badFill).2.2.1.trans h.readFailed, by simpa using h.noCheck⟩
  · exact faultActive_composed s n .badFill

/-! ## The flush interval taken (R71) and the scan's next step -/

/-- What the flush interval `k` of stream `n` and the scan's next step leave of `f`. -/
structure State.FieldsTaken (f : State) (n : Fin 8) (k : Nat) (u : State) : Prop where
  stream : ∀ m, u.stream m = if n = m then { f.stream m with flushSecs := k } else f.stream m
  queue : u.sc.queue = f.sc.queue
  buffer : u.sc.buffer = f.sc.buffer
  readFailed : u.sc.readFailed = f.sc.readFailed
  comp : ∃ g, u.comp = { f.comp with flush := g } ∧ (f.comp.flush = .stopped → g = .stopped)
  form : u.form = f.form
  store : u.store = f.store
  hostMem : u.hostMem = f.hostMem
  engine : u.engine = f.engine
  waits : ∀ o, f.Waits o → u.Waits o
  reporting : ∀ m, u.writer.reporting m = f.writer.reporting m
  setting : u.regs.SameSetting f.regs

theorem takeInterval_taken (s : State) (n : Fin 8) (k : Nat) : s.FieldsTaken n k (s.takeInterval n k) := by
  have hs : (s.takeInterval n k).sc = (s.modStream n fun r => { r with flushSecs := k }).sc := by
    unfold State.takeInterval
    dsimp only
    split
    · split <;> rfl
    · rfl
  have hc : ∃ g, (s.takeInterval n k).comp = { s.comp with flush := g } ∧ (s.comp.flush = .stopped → g = .stopped) := by
    unfold State.takeInterval
    dsimp only
    split
    · split
      · exact ⟨s.comp.flush, rfl, id⟩
      · exact ⟨.stopped, rfl, fun _ => rfl⟩
    · exact ⟨s.comp.flush, rfl, id⟩
  have hw : (s.takeInterval n k).writer = s.writer := by simp
  refine ⟨fun m => ?_, by rw [hs]; rfl, by rw [hs]; rfl, by rw [hs]; rfl, hc, by simp, by simp, by simp, by simp,
    fun o h => h.congr hw, fun m => by rw [hw], by rw [(by simp : (s.takeInterval n k).regs = s.regs)]; exact .refl _⟩
  rw [State.stream_congr hs m, State.stream_modStream]

theorem State.FieldsTaken.scanAfter {f u : State} {n : Fin 8} {k : Nat} (h : f.FieldsTaken n k u) :
    f.FieldsTaken n k (u.scanAfter n) := by
  have a := scanAfter_step u n
  obtain ⟨g, hg, hst⟩ := h.comp
  refine ⟨fun m => (stream_streams a.streams m).trans (h.stream m), a.queue.trans h.queue, a.buffer.trans h.buffer,
    a.readFailed.trans h.readFailed, ⟨g, by simpa using hg, hst⟩, by simpa using h.form, by simpa using h.store,
    by simpa using h.hostMem, by simpa using h.engine, fun o ho => a.waits o (h.waits o ho),
    fun m => (a.reporting m).trans (h.reporting m), (scanAfter_undisturbed u n).setting.trans h.setting⟩

theorem State.FieldsTaken.composed {f u : State} {n : Fin 8} {k : Nat} (h : f.FieldsTaken n k u) (hc : f.Composed) :
    u.Composed := by
  obtain ⟨g, hg, -⟩ := h.comp
  exact ⟨by rw [hg]; exact hc.waits, h.readFailed.trans hc.readFailed, by rw [h.form]; exact hc.noCheck⟩

/-- The fields of a read of the descriptor taken: the fill pointer `p` checked and the flush interval stored. -/
theorem takeFields_taken (w : State) (n : Fin 8) (x : Taken) :
    (w.checkFill n x.fill).FieldsTaken n x.flush ((w.takeFields n x).scanAfter n) :=
  (takeInterval_taken (w.checkFill n x.fill) n x.flush).scanAfter

theorem takeDescriptor_none {s : State} {n : Fin 8} {b : List Byte} (h : (s.stream n).clearOwed = false)
    (hc : le16 b 4 = 0) : s.takeDescriptor n b = (s.takeFields n (takenOf b)).scanAfter n := by
  have e : (takenOf b).code = .none := congrArg requestCode hc
  simp [State.takeDescriptor, h, e]

/-- DESCRIPTOR_READ with no request and no clear owed. -/
theorem exec_descriptorTaken {s : State} {n : Fin 8} {data : List Byte} (h : s.OnBus (.descriptor n) 8)
    (hd : data.length = 8) (hw : (s.stream n).clearOwed = false) (hc : le16 data 4 = 0) : ∃ q,
    exec (.descriptorRead data) s =
      .next (State.settle s (((s.endTransfer q).takeFields n (takenOf data)).scanAfter n)) := by
  obtain ⟨q, e⟩ := exec_descriptorRead h rfl hd
  exact ⟨q, e.trans (congrArg (fun u => Host.Outcome.next (State.settle s u))
    (takeDescriptor_none (s := s.endTransfer q) hw hc))⟩

end Sys2Proof.Machine
end

section
/-! SUPPORT. The settlement after a descriptor read has been taken: what becomes of the stream, of the Job Queue and of
the scan. -/

namespace Sys2Proof.Machine

/-! ## The settlement of one stream -/

/-- A settlement changes of a record at most the state and the rush flag, by the grant, besides what it keeps itself. -/
theorem settle_stream (old : State) {u : State} (hb : u.regs.resetBusy = false) (hc : u.Composed) (m : Fin 8) :
    ∃ st rush, ((State.settle old u).stream m).core = { u.stream m with state := st, rush := rush }.core := by
  obtain ⟨-, -, -, h⟩ := State.settle_composed old hb hc
  exact ⟨_, _, (h.core m).trans (by rw [(grant_stream u m).1])⟩

theorem settle_unqueued (old : State) {u : State} (hb : u.regs.resetBusy = false) (hc : u.Composed) {m : Fin 8}
    (hm : m ∉ u.sc.queue) :
    ((State.settle old u).stream m).core = (u.stream m).core ∧ m ∉ (State.settle old u).sc.queue := by
  obtain ⟨-, -, -, h⟩ := State.settle_composed old hb hc
  obtain ⟨h1, h2⟩ := (grant_stream u m).2 hm
  exact ⟨by rw [h.core, h1], by rw [h.queue]; exact h2⟩

/-- With an empty Job Queue but for `n`, no owner and RUN 1 a settlement grants `n`. -/
theorem settle_grants (old : State) {u : State} {n : Fin 8} (hb : u.regs.resetBusy = false) (hc : u.Composed)
    (ho : u.owner = none) (hq : u.sc.queue = [n]) (hr : u.regs.run = true) :
    ((State.settle old u).stream n).state = .active ∧ (State.settle old u).sc.queue = [] ∧
      (State.settle old u).comp.state = .ready := by
  obtain ⟨-, -, h3, h4⟩ := State.settle_composed old hb hc
  have hg := grant_head ho hq hr
  rw [hg] at h3 h4
  have hn : ({ u with sc := { u.sc with queue := [] } }.modStream n fun r =>
      { r with state := .active, rush := false }).stream n = { u.stream n with state := .active, rush := false } :=
    State.stream_modStream_same _ n _
  exact ⟨(congrArg StreamRec.state (h4.core n) :).trans (congrArg StreamRec.state hn), h4.queue, by rw [h3]⟩

/-! ## A fill pointer taken or refused -/

section
variable {s w u : State} {n : Fin 8} {p k : Nat} (hu : (w.checkFill n p).FieldsTaken n k u)
include hu

theorem fieldsTaken_others {m : Fin 8} (h : m ≠ n) : (u.stream m).bare = (w.stream m).bare := by
  rw [hu.stream, if_neg (Ne.symm h), checkFill_others w h p]

theorem fieldsTaken_kept (h : (w.stream n).state = .closed ∨ (w.stream n).state = .faulted) :
    u.stream n = { w.stream n with flushSecs := k } := by
  rw [hu.stream, if_pos rfl, checkFill_ignored h]

theorem fieldsTaken_good (h1 : (w.stream n).state ≠ .closed) (h2 : (w.stream n).state ≠ .faulted)
    (hb : (w.stream n).badFill p = false) :
    (∀ m, u.stream m = if n = m then { (w.stream m).filled p with flushSecs := k } else w.stream m) ∧
      u.sc.queue = (w.takeFill n p).sc.queue ∧ ∃ g, u.comp = { (w.takeFill n p).comp with flush := g } ∧
        ((w.takeFill n p).comp.flush = .stopped → g = .stopped) := by
  have e := checkFill_good h1 h2 hb
  refine ⟨fun m => ?_, by rw [hu.queue, e], by rw [← e]; exact hu.comp⟩
  rw [hu.stream, e, takeFill_stream]
  split <;> rfl

theorem fieldsTaken_inactive (h : (w.stream n).state = .idle ∨ (w.stream n).state = .queued)
    (hb : (w.stream n).badFill p = true) :
    u.stream n = { w.stream n with fault := .badFill, discardStalled := false, state := .faulted, flushSecs := k } ∧
      n ∉ u.sc.queue ∧ u.Waits ⟨.descriptor n, true, false, false⟩ := by
  have e := checkFill_inactive h hb
  obtain ⟨h1, h2, -, h4⟩ := faultInactive_leaves w n .badFill
  refine ⟨?_, by rw [hu.queue, e, h2]; simp, hu.waits _ ?_⟩
  · rw [hu.stream, if_pos rfl, e, h1, if_pos rfl]
  · rw [e]
    exact h4 (by rcases h with h | h <;> simp [h])

theorem fieldsTaken_active (h : (w.stream n).state = .active) (hb : (w.stream n).badFill p = true) :
    (u.stream n).bare = { (w.stream n).bare with state := .faulted, fault := .badFill, flushSecs := k } ∧
      u.sc.queue = w.sc.queue ∧ u.sc.buffer = [] ∧ u.comp.waits = false ∧ u.Composed ∧
      u.Waits ⟨.descriptor n, true, false, false⟩ := by
  have e := checkFill_active h hb
  obtain ⟨h1, h2, h3, -, -⟩ := faultActive_leaves w n .badFill
  have hc : u.Composed := hu.composed (by rw [e]; exact faultActive_composed w n .badFill)
  refine ⟨?_, by rw [hu.queue, e, h2], by rw [hu.buffer, e, h3], hc.waits, hc, hu.waits _ ?_⟩
  · have hn := h1 n
    rw [if_pos rfl, ← e] at hn
    rw [hu.stream, if_pos rfl]
    exact (congrArg (fun r : StreamRec => { r with flushSecs := k }) hn :)
  · rw [e]
    exact faultActive_waits (by simp [h]) .badFill

end

/-! ## Where the scan goes on -/

/-- The scan after the last descriptor (R7 to R9). -/
theorem scanAfter_last {s f : State} {n : Fin 8} (hv : f.sc.view = s.sc.view) (hr : f.regs = s.regs)
    (h : n.val + 1 = 8 ∨ s.sc.streamCount ≤ n.val + 1) (hcut : s.sc.cut = false) :
    (s.sc.dirOwed = true → (f.scanAfter n).sc.phase = .directory ∧ (f.scanAfter n).sc.scan = s.sc.scan) ∧
    (s.sc.dirOwed = false → s.sc.scan ≠ .scanningOwed → (f.scanAfter n).sc.phase = .none ∧
      (f.scanAfter n).sc.scan = .noScan ∧ (f.scanAfter n).regs.sweepTimer =
        if s.regs.run = true ∧ s.hasArea = true ∧ s.regs.sweepInterval ≠ 0
          then some (s.regs.sweepInterval.toNat * 10) else none) ∧
    (s.sc.dirOwed = false → s.sc.scan = .scanningOwed → s.regs.run = true → (f.scanAfter n).sc.phase = .header ∧
      (f.scanAfter n).sc.scan = .scanning ∧ (f.scanAfter n).regs.sweepTimer = none) ∧
    (s.sc.dirOwed = false → s.sc.recordOwed = true →
      (f.scanAfter n).sc.recordOwed = false ∧ (f.scanAfter n).Owes ⟨.deviceRecord, false, false, false⟩) := by
  have h1 : f.sc.streamCount = s.sc.streamCount := congrArg ScanView.streamCount hv
  have h2 : f.sc.cut = s.sc.cut := congrArg ScanView.cut hv
  have h3 : f.sc.dirOwed = s.sc.dirOwed := congrArg ScanView.dirOwed hv
  have h4 : f.sc.scan = s.sc.scan := congrArg ScanView.scan hv
  have h5 : f.sc.recordOwed = s.sc.recordOwed := congrArg ScanView.recordOwed hv
  obtain ⟨e1, e2⟩ := endScan_scan f
  rw [scanAfter_tail (by rw [h1]; exact h) (h2.trans hcut)]
  refine ⟨fun hd => ?_, fun hd hs => ?_, fun hd hs hrun => ?_, fun hd hro => ?_⟩
  · rw [← h4]
    exact scanTail_directory (h3.trans hd)
  · rw [scanTail_ends (h3.trans hd)]
    obtain ⟨k1, k2, k3⟩ := e1 (by rw [h4]; exact hs)
    rw [State.hasArea, hr] at k3
    exact ⟨k2, k1, k3⟩
  · rw [scanTail_ends (h3.trans hd)]
    obtain ⟨k1, k2, k3⟩ := e2 (by rw [h4]; exact hs) (by rw [hr]; exact hrun)
    exact ⟨k2, k1, k3⟩
  · rw [scanTail_ends (h3.trans hd)]
    exact ⟨(endScan_sc f).2.2.2.2, endScan_owes (h5.trans hro)⟩

end Sys2Proof.Machine
end

section
/-! SUPPORT. The page side of a fault where the Composer waits, and the statement about the descriptor read. -/

namespace Sys2Proof.Machine

/-! ## The slot that a close leaves (R104, R110) -/

theorem closedSlot_keeps (s : State) (row : Nat) (sl : Slot) :
    (s.closedSlot row sl).state = sl.state ∧ (s.closedSlot row sl).split = sl.split ∧
      (s.closedSlot row sl).copy = sl.copy ∧ (s.closedSlot row sl).jobEnds = sl.jobEnds := by
  unfold State.closedSlot
  dsimp only
  split
  · unfold Slot.fillHeader
    (repeat' split) <;> exact ⟨rfl, rfl, rfl, rfl⟩
  · exact ⟨rfl, rfl, rfl, rfl⟩

theorem closeSteps_slot (s : State) (i : Fin 4) (row : Nat) :
    (s.closeSteps i row).slot i = s.closedSlot row (s.slot i) := by
  unfold State.closeSteps
  dsimp only
  split
  · exact State.slot_modSlot_same _ i _
  · exact State.slot_modSlot_same (s.modStream _ _) i _

/-- A page with no row sent that is closed for good (R110). -/
theorem closeFinal_slot {s : State} {i : Fin 4} (hs : (s.slot i).state = .composing) (hp : (s.slot i).split = 0)
    (e : JobEnd) : ((s.closeFinal i (some e)).slot i).state = .closed ∧ ((s.closeFinal i (some e)).slot i).mark = false ∧
      ((s.closeFinal i (some e)).slot i).entry = some ⟨0, (s.slot i).copy.length⟩ ∧
      ((s.closeFinal i (some e)).slot i).jobEnds = (s.slot i).jobEnds ++ [e] := by
  obtain ⟨h1, h2, h3, h4⟩ := closedSlot_keeps s (s.slot i).copy.length (s.slot i)
  have hfin : (s.closedSlot (s.slot i).copy.length (s.slot i)).finalEntry =
      { s.closedSlot (s.slot i).copy.length (s.slot i) with
        mark := false, entry := some ⟨0, (s.slot i).copy.length⟩, state := .closed } := by
    unfold Slot.finalEntry
    rw [h1.trans hs]
    dsimp only
    rw [h2.trans hp, h3, if_pos rfl]
  rw [State.closeFinal, State.slot_modSlot_same, closeSteps_slot, hfin]
  exact ⟨rfl, rfl, rfl, by rw [h4]; rfl⟩

/-! ## The page side of a fault with a JOB taken (R41, R68) -/

theorem faultActive_store (s : State) (n : Fin 8) (c : FaultCode) :
    (s.faultActive n c).store = (s.abandonLoad.faultPage n c).store := by
  simp [State.faultActive]

/-- A page of the job that holds something is closed as its last. -/
theorem faultPage_closes {s : State} {n : Fin 8} {c : FaultCode} {j : JobInfo} {i : Fin 4} (hj : s.comp.job = some j)
    (hs : j.started = true) (hi : s.composing = some i) (he : (s.slot i).strikes ≠ [] ∨ 1 < s.comp.cursor.getD 1) :
    (s.faultPage n c).store = (s.closeFinal i (some ⟨j.tag, .faulted⟩)).store := by
  have hp : s.pageEmpty i = false := by
    rw [State.pageEmpty, Bool.and_eq_false_iff]
    refine he.imp (fun h => ?_) fun h => ?_
    · simpa using h
    · simp; omega
  simp [State.faultPage, hj, hs, hi, State.endPage, hp]

/-- In a turn that waits for a slot the page closed in it ends the job. -/
theorem faultPage_ends {s : State} {n : Fin 8} {c : FaultCode} {j : JobInfo} {k : Fin 4} (hj : s.comp.job = some j)
    (hs : j.started = true) (hi : s.composing = none) (hk : s.newestSlot n none = some k) :
    (s.faultPage n c).store =
      (s.modSlot k fun sl => { sl with jobEnds := sl.jobEnds ++ [⟨j.tag, .faulted⟩] }).store := by
  simp [State.faultPage, hj, hs, hi, hk]

/-- A JOB that waits for its first slot marks no page; its report is owed behind the others. -/
theorem faultPage_unstarted {s : State} {n : Fin 8} {c : FaultCode} {j : JobInfo} (hj : s.comp.job = some j)
    (hs : j.started = false) : s.faultPage n c =
      s.modStream n fun r => { r with reports := r.reports ++ [⟨j.tag, .faulted, true, 0⟩] } := by
  simp [State.faultPage, hj, hs]

/-- The report of a JOB that was waiting for its first slot, and the Status Writer after its fault. -/
theorem faultActive_unstarted {s : State} {n : Fin 8} {c : FaultCode} {j : JobInfo} (hj : s.comp.job = some j)
    (hs : j.started = false) : (s.faultActive n c).store = s.store ∧
      ((s.faultActive n c).stream n).reports = (s.stream n).reports ++ [⟨j.tag, .faulted, true, 0⟩] ∧
      (s.faultActive n c).writer.reporting n = s.writer.reporting n := by
  have hp := faultPage_unstarted (s := s.abandonLoad) (n := n) (c := c) (by simpa using hj) hs
  have hsa : s.abandonLoad.stream n = s.stream n := State.stream_congr (by simp) n
  refine ⟨by rw [faultActive_store, hp]; simp, ?_, ?_⟩
  · rw [State.faultActive, hp, giveUp_stream, if_pos rfl, State.stream_modStream_same, State.stream_modStream_same, hsa]
  · rw [State.faultActive, hp]
    exact (enterState_reporting _ n n .faulted).trans (congrArg (fun w : StatusWriter => w.reporting n)
      (by simp : s.abandonLoad.writer = s.writer))

theorem grant_keepsComposer (s : State) (h : s.comp.waits = false) :
    s.grant.comp.waits = false ∧ s.grant.sc.buffer = s.sc.buffer := by
  unfold State.grant
  split
  · split
    · exact ⟨rfl, rfl⟩
    · exact ⟨h, rfl⟩
  · exact ⟨h, rfl⟩

/-- The bad fill pointer of the ACTIVE stream, where the settlement finds it outside the Job Queue. -/
theorem settle_badFill {s w u : State} {n : Fin 8} {p k : Nat} (hu : (w.checkFill n p).FieldsTaken n k u)
    (hsc : w.sc = s.sc) (hub : u.regs.resetBusy = false) (ha : (s.stream n).state = .active)
    (hb : (s.stream n).badFill p = true) (hq : n ∉ s.sc.queue) :
    ((State.settle s u).stream n).state = .faulted ∧ ((State.settle s u).stream n).fault = .badFill ∧
      ((State.settle s u).stream n).take = (s.stream n).take ∧ ((State.settle s u).stream n).fill = (s.stream n).fill ∧
      (State.settle s u).comp.waits = false ∧ (State.settle s u).sc.buffer = [] ∧
      (State.settle s u).Owes ⟨.descriptor n, true, false, false⟩ ∧
      (State.settle s u).store = (w.faultActive n .badFill).store := by
  have hw : w.stream n = s.stream n := State.stream_congr hsc n
  obtain ⟨a1, a2, a3, a4, a5, a6⟩ := fieldsTaken_active hu (by rw [hw]; exact ha) (by rw [hw]; exact hb)
  obtain ⟨k1, k2, k3, k4⟩ := State.settle_composed s hub a5
  obtain ⟨g1, g2⟩ := grant_keepsComposer u a4
  obtain ⟨hcore, -⟩ := settle_unqueued s hub a5 (m := n) (by rw [a2, hsc]; exact hq)
  rw [hw] at a1
  refine ⟨(congrArg StreamRec.state hcore :).trans (congrArg StreamRec.state a1 :),
    (congrArg StreamRec.fault hcore :).trans (congrArg StreamRec.fault a1 :),
    (congrArg StreamRec.take hcore :).trans (congrArg StreamRec.take a1 :),
    (congrArg StreamRec.fill hcore :).trans (congrArg StreamRec.fill a1 :), by rw [k3]; exact g1,
    by rw [k4.buffer, g2, a3], a6.owes.settle s hub a5, k1.trans (hu.store.trans ?_)⟩
  rw [checkFill_active (by rw [hw]; exact ha) (by rw [hw]; exact hb)]

/-- The page side of that fault, by where the Composer waits (R41, R68). -/
theorem badFill_pages {s w : State} {n : Fin 8} {j : JobInfo} (hcomp : w.comp = s.comp) (hst : w.store = s.store)
    (hj : s.comp.job = some j) {t : State} (ht : t.store = (w.faultActive n .badFill).store) :
    (∀ i, s.comp.state = .waitStrike → j.started = true → s.composing = some i →
      (s.slot i).strikes ≠ [] ∨ 1 < s.comp.cursor.getD 1 → (s.slot i).state = .composing → (s.slot i).split = 0 →
      (t.slot i).state = .closed ∧ (t.slot i).mark = false ∧ (t.slot i).entry = some ⟨0, (s.slot i).copy.length⟩ ∧
        (t.slot i).jobEnds = (s.slot i).jobEnds ++ [⟨j.tag, .faulted⟩]) ∧
    (∀ k, s.comp.state = .waitSlot → j.started = true → s.composing = none → s.newestSlot n none = some k →
      t.slot k = { s.slot k with jobEnds := (s.slot k).jobEnds ++ [⟨j.tag, .faulted⟩] } ∧
        t.store.imaging = s.store.imaging ∧ ∀ k', k' ≠ k → t.slot k' = s.slot k') := by
  have hja : w.abandonLoad.comp.job = some j := by simpa [hcomp] using hj
  have hsa : w.abandonLoad.store = s.store := by simpa using hst
  have hslot (i : Fin 4) : w.abandonLoad.slot i = s.slot i := State.slot_congr hsa i
  have hcur : w.abandonLoad.comp.cursor = s.comp.cursor := by simp [hcomp]
  have hcmp : w.abandonLoad.composing = s.composing := by simp only [State.composing, hslot]
  have hnew : w.abandonLoad.newestSlot n none = s.newestSlot n none := by simp only [State.newestSlot, hsa, hslot]
  rw [faultActive_store] at ht
  refine ⟨fun i _ hs hi he hc hp => ?_, fun k _ hs hi hk => ?_⟩
  · have h := closeFinal_slot (s := w.abandonLoad) (i := i) (by rw [hslot]; exact hc) (by rw [hslot]; exact hp)
      ⟨j.tag, .faulted⟩
    rw [hslot] at h
    rwa [State.slot_congr (ht.trans (faultPage_closes hja hs (by rw [hcmp]; exact hi)
      (by rw [hslot, hcur]; exact he))) i]
  · have h := ht.trans (faultPage_ends hja hs (by rw [hcmp]; exact hi) (by rw [hnew]; exact hk))
    refine ⟨?_, ?_, fun k' hk' => ?_⟩
    · rw [State.slot_congr h k, State.slot_modSlot_same, hslot]
    · rw [h, ← hsa]; rfl
    · rw [State.slot_congr h k', State.slot_modSlot, if_neg (Ne.symm hk'), hslot]

/-- A JOB that waits for its first slot when the fill pointer is bad: its report is made at once, and no page is marked. -/
theorem badFill_unstarted {s w u : State} {n : Fin 8} {j : JobInfo} {p k : Nat}
    (hu : (w.checkFill n p).FieldsTaken n k u) (hsc : w.sc = s.sc) (hcomp : w.comp = s.comp) (hst : w.store = s.store)
    (hwr : w.writer = s.writer) (hub : u.regs.resetBusy = false) (ha : (s.stream n).state = .active)
    (hb : (s.stream n).badFill p = true) (hq : n ∉ s.sc.queue) (hj : s.comp.job = some j) (hs : j.started = false)
    {t : State} (ht : t = State.settle s u) (hts : t.store = (w.faultActive n .badFill).store) :
    t.store = s.store ∧ ((s.stream n).reports = [] → s.writer.reporting n = false → (t.stream n).jobTag = j.tag ∧
      (t.stream n).jobOutcome = .faulted ∧ (t.stream n).jobPages = 0 ∧ t.Owes ⟨.descriptor n, true, true, false⟩) := by
  have hw : w.stream n = s.stream n := State.stream_congr hsc n
  have e : w.checkFill n p = w.faultActive n .badFill := checkFill_active (by rw [hw]; exact ha) (by rw [hw]; exact hb)
  obtain ⟨f1, f2, f3⟩ := faultActive_unstarted (s := w) (n := n) (c := .badFill) (by rw [hcomp]; exact hj) hs
  refine ⟨hts.trans (f1.trans hst), fun hr hrw => ?_⟩
  obtain ⟨-, a2, -, -, a5, -⟩ := fieldsTaken_active hu (by rw [hw]; exact ha) (by rw [hw]; exact hb)
  have hn := ((grant_stream u n).2 (by rw [a2, hsc]; exact hq)).1
  have hrep : (u.grant.stream n).reports = ⟨j.tag, .faulted, true, 0⟩ :: [] := by
    rw [hn, hu.stream, if_pos rfl, e]
    exact f2.trans (by rw [hw, hr]; rfl)
  have hreporting : u.writer.reporting n = false := by rw [hu.reporting, e, f3, hwr, hrw]
  obtain ⟨⟨r1, r2, r3, -⟩, r4, -⟩ := settle_reports s hub a5 hrep rfl hreporting
  rw [ht]
  exact ⟨r1, r2, r3, r4⟩

/-- The bad fill pointer of the ACTIVE stream while the Composer waits. -/
theorem waitEndsAtBadFill {n : Fin 8} {data : List Byte} {j : JobInfo} {s : State} (h : s.OnBus (.descriptor n) 8)
    (hd : data.length = 8) (hw : (s.stream n).clearOwed = false) (hc : le16 data 4 = 0)
    (hb : (s.stream n).badFill (le32 data 0) = true) (ho : s.owner = some n) (hq : n ∉ s.sc.queue)
    (hj : s.comp.job = some j) :
    ∃ t, exec (.descriptorRead data) s = .next t ∧ (t.stream n).state = .faulted ∧ (t.stream n).fault = .badFill ∧
      (t.stream n).take = (s.stream n).take ∧ (t.stream n).fill = (s.stream n).fill ∧ t.comp.waits = false ∧
      t.sc.buffer = [] ∧ t.Owes ⟨.descriptor n, true, false, false⟩ ∧
      (∀ i, s.comp.state = .waitStrike → j.started = true → s.composing = some i →
        (s.slot i).strikes ≠ [] ∨ 1 < s.comp.cursor.getD 1 → (s.slot i).state = .composing → (s.slot i).split = 0 →
        (t.slot i).state = .closed ∧ (t.slot i).mark = false ∧
          (t.slot i).entry = some ⟨0, (s.slot i).copy.length⟩ ∧
          (t.slot i).jobEnds = (s.slot i).jobEnds ++ [⟨j.tag, .faulted⟩]) ∧
      (∀ k, s.comp.state = .waitSlot → j.started = true → s.composing = none → s.newestSlot n none = some k →
        t.slot k = { s.slot k with jobEnds := (s.slot k).jobEnds ++ [⟨j.tag, .faulted⟩] } ∧
          t.store.imaging = s.store.imaging ∧ ∀ k', k' ≠ k → t.slot k' = s.slot k') ∧
      (s.comp.state = .waitSlot → j.started = false → t.store = s.store ∧
        ((s.stream n).reports = [] → s.writer.reporting n = false → (t.stream n).jobTag = j.tag ∧
          (t.stream n).jobOutcome = .faulted ∧ (t.stream n).jobPages = 0 ∧
          t.Owes ⟨.descriptor n, true, true, false⟩)) ∧
      t.hostMem = s.hostMem := by
  obtain ⟨q, hexec⟩ := exec_descriptorTaken h hd hw hc
  have ha : (s.stream n).state = .active := ((owner_some_iff s n).mp ho).1
  have hu := takeFields_taken (s.endTransfer q) n (takenOf data)
  have hmem : (((s.endTransfer q).takeFields n (takenOf data)).scanAfter n).hostMem = s.hostMem := by simp
  have hub : (((s.endTransfer q).takeFields n (takenOf data)).scanAfter n).regs.resetBusy = false :=
    ((scanAfter_undisturbed _ n).setting.resetBusy.trans (by simp)).trans h.1
  have hfill : (takenOf data).fill = le32 data 0 := rfl
  have hsc : (s.endTransfer q).sc = s.sc := rfl
  have hcomp : (s.endTransfer q).comp = s.comp := rfl
  have hst : (s.endTransfer q).store = s.store := rfl
  have hwr : (s.endTransfer q).writer = s.writer := rfl
  rw [hfill] at hu
  generalize ((s.endTransfer q).takeFields n (takenOf data)).scanAfter n = u at *
  generalize s.endTransfer q = w at *
  obtain ⟨b1, b2, b3, b4, b5, b6, b7, b8⟩ := settle_badFill hu hsc hub ha hb hq
  obtain ⟨p1, p2⟩ := badFill_pages (s := s) hcomp hst hj b8
  exact ⟨_, hexec, b1, b2, b3, b4, b5, b6, b7, p1, p2,
    fun _ hs => badFill_unstarted hu hsc hcomp hst hwr hub ha hb hq hj hs rfl b8, by simpa using hmem⟩

end Sys2Proof.Machine
end

section
/-! SUPPORT. The statement about the descriptor read that takes the fill pointer. -/

namespace Sys2Proof.Machine

section
variable {s w u : State} {n : Fin 8} {p k : Nat} (hu : (w.checkFill n p).FieldsTaken n k u) (hsc : w.sc = s.sc)
  (hub : u.regs.resetBusy = false) (hc : u.Composed)
include hu hsc

theorem taken_owner (h1 : (s.stream n).state ≠ .active) (h2 : (u.stream n).state ≠ .active) :
    u.owner = none ↔ s.owner = none := by
  refine owner_none_congr fun m => ?_
  by_cases hm : m = n
  · subst hm; exact ⟨fun e => absurd e h2, fun e => absurd e h1⟩
  · have e : (u.stream m).state = (w.stream m).state := (congrArg StreamRec.state (fieldsTaken_others hu hm) :)
    rw [e, State.stream_congr hsc m]

/-- A good fill pointer that wakes an IDLE stream: what the stream and the Job Queue are then. -/
theorem taken_wakes (hi : (s.stream n).state = .idle) (hb : (s.stream n).badFill p = false) (hp : p ≠ (s.stream n).take) :
    u.stream n = { (s.stream n).filled p with flushSecs := k } ∧ (u.stream n).state = .queued ∧
      u.sc.queue = (if (s.stream n).discard = false then
        if (s.stream n).rush then s.insertRushed n s.sc.queue else s.sc.queue ++ [n] else s.sc.queue) := by
  have hw (m : Fin 8) : w.stream m = s.stream m := State.stream_congr hsc m
  obtain ⟨g1, g2, -⟩ := fieldsTaken_good hu (by rw [hw, hi]; exact nofun) (by rw [hw, hi]; exact nofun) (by rw [hw]; exact hb)
  have hn : u.stream n = { (s.stream n).filled p with flushSecs := k } := by rw [g1, if_pos rfl, hw]
  refine ⟨hn, ?_, ?_⟩
  · rw [hn]
    simp [StreamRec.filled, hi, hp]
  · rw [g2, takeFill_queue, hw, hsc, insertRushed_congr (s := w) (t := s) (fun m => by rw [hw m]) n]
    simp [hi, hp]

include hub hc

/-- With an owner a stream that wakes is QUEUED where it entered the Job Queue. -/
theorem taken_queued (hi : (s.stream n).state = .idle) (hb : (s.stream n).badFill p = false)
    (hp : p ≠ (s.stream n).take) (ho : s.owner ≠ none) :
    ((State.settle s u).stream n).state = .queued ∧ ((State.settle s u).stream n).rush = (s.stream n).rush ∧
      (State.settle s u).sc.queue = (if (s.stream n).discard = false then
        if (s.stream n).rush then s.insertRushed n s.sc.queue else s.sc.queue ++ [n] else s.sc.queue) := by
  obtain ⟨h1, h2, h3⟩ := taken_wakes hu hsc hi hb hp
  have hown := taken_owner hu hsc (by rw [hi]; exact nofun) (by rw [h2]; exact nofun)
  have a := settle_settled s hub hc (.inl (hown.not.mpr ho))
  have hcore := a.core n
  refine ⟨(congrArg StreamRec.state hcore :).trans h2, (congrArg StreamRec.rush hcore :).trans ?_, a.queue.trans h3⟩
  rw [h1]
  rfl

/-- A discarding stream that wakes stays out of the Job Queue. -/
theorem taken_discards (hrun : u.regs.run = s.regs.run) (hg : s.GrantsNothing) (hi : (s.stream n).state = .idle)
    (hd : (s.stream n).discard = true)
    (hb : (s.stream n).badFill p = false) (hp : p ≠ (s.stream n).take) :
    ((State.settle s u).stream n).state = .queued ∧ ((State.settle s u).stream n).discard = true ∧
      (State.settle s u).sc.queue = s.sc.queue := by
  obtain ⟨h1, h2, h3⟩ := taken_wakes hu hsc hi hb hp
  rw [if_neg (by simp [hd])] at h3
  have hown := taken_owner hu hsc (by rw [hi]; exact nofun) (by rw [h2]; exact nofun)
  have hug : u.GrantsNothing := hg.imp hown.not.mpr (Or.imp (fun e => h3.trans e) fun e => hrun.trans e)
  have a := settle_settled s hub hc hug
  have hcore := a.core n
  refine ⟨(congrArg StreamRec.state hcore :).trans h2, (congrArg StreamRec.discard hcore :).trans ?_, a.queue.trans h3⟩
  rw [h1]
  exact hd

/-- A stream that wakes alone while RUN is 1 is granted at once. -/
theorem taken_granted (hrun : u.regs.run = s.regs.run) (hi : (s.stream n).state = .idle)
    (hd : (s.stream n).discard = false) (hb : (s.stream n).badFill p = false) (hp : p ≠ (s.stream n).take) (ho : s.owner = none) (hq : s.sc.queue = [])
    (hr : s.regs.run = true) : ((State.settle s u).stream n).state = .active ∧ (State.settle s u).sc.queue = [] ∧
      (State.settle s u).comp.state = .ready := by
  obtain ⟨-, h2, h3⟩ := taken_wakes hu hsc hi hb hp
  have hown := taken_owner hu hsc (by rw [hi]; exact nofun) (by rw [h2]; exact nofun)
  refine settle_grants s hub hc (hown.mpr ho) ?_ (hrun.trans hr)
  rw [h3, if_pos hd, hq]
  split <;> rfl

/-- A fill pointer ahead of take ends the Composer's stay at fill (R69). -/
theorem taken_atFill (hcomp : w.comp = s.comp) (ha : (s.stream n).state = .active) (hb : (s.stream n).badFill p = false)
    (hp : p ≠ (s.stream n).take) (hf : s.comp.state = .atFill) :
    (State.settle s u).comp.state = .ready ∧ (State.settle s u).comp.flush = .stopped := by
  have hw (m : Fin 8) : w.stream m = s.stream m := State.stream_congr hsc m
  obtain ⟨g1, -, g, hg, hstop⟩ := fieldsTaken_good hu (by rw [hw, ha]; exact nofun) (by rw [hw, ha]; exact nofun)
    (by rw [hw]; exact hb)
  have htc : (w.takeFill n p).comp = { s.comp with state := .ready, flush := .stopped } := by
    rw [takeFill_comp, hw, hcomp, if_pos ⟨ha, hf, hp⟩]
  have hact : (u.stream n).state = .active := by
    rw [g1, if_pos rfl, hw]
    simp [StreamRec.filled, ha]
  have hown : u.owner ≠ none := fun e => (owner_none_iff u).mp e n hact
  obtain ⟨-, -, h3, -⟩ := State.settle_composed s hub hc
  rw [h3, State.grant_none (.inl hown), hg, htc]
  rw [htc] at hstop
  exact ⟨rfl, hstop rfl⟩

/-- What a settlement shows of the record taken, but for its state and its rush flag. -/
theorem taken_fields : ((State.settle s u).stream n).flushSecs = k ∧
    ((s.stream n).state = .closed ∨ (s.stream n).state = .faulted →
      ((State.settle s u).stream n).fill = (s.stream n).fill) ∧
    ((s.stream n).state ≠ .closed → (s.stream n).state ≠ .faulted → (s.stream n).badFill p = false →
      ((State.settle s u).stream n).fill = p) ∧
    ∀ m, m ≠ n → ((State.settle s u).stream m).fill = (s.stream m).fill ∧
      ((State.settle s u).stream m).take = (s.stream m).take ∧ ((State.settle s u).stream m).fault = (s.stream m).fault := by
  have hw (m : Fin 8) : w.stream m = s.stream m := State.stream_congr hsc m
  have fields (m : Fin 8) : ((State.settle s u).stream m).flushSecs = (u.stream m).flushSecs ∧
      ((State.settle s u).stream m).fill = (u.stream m).fill ∧ ((State.settle s u).stream m).take = (u.stream m).take ∧
      ((State.settle s u).stream m).fault = (u.stream m).fault := by
    obtain ⟨st, rush, h⟩ := settle_stream s hub hc m
    exact ⟨(congrArg StreamRec.flushSecs h :), (congrArg StreamRec.fill h :), (congrArg StreamRec.take h :),
      (congrArg StreamRec.fault h :)⟩
  obtain ⟨f1, f2, -⟩ := fields n
  refine ⟨?_, fun h => ?_, fun h1 h2 hb => ?_, fun m hm => ?_⟩
  · rw [f1, hu.stream, if_pos rfl]
  · rw [f2, fieldsTaken_kept hu (by rw [hw]; exact h), ← hw]
  · obtain ⟨g1, -⟩ := fieldsTaken_good hu (by rw [hw]; exact h1) (by rw [hw]; exact h2) (by rw [hw]; exact hb)
    rw [f2, g1, if_pos rfl]
    rfl
  · obtain ⟨-, k2, k3, k4⟩ := fields m
    have e := fieldsTaken_others hu hm
    rw [hw m] at e
    exact ⟨k2.trans (congrArg StreamRec.fill e :), k3.trans (congrArg StreamRec.take e :),
      k4.trans (congrArg StreamRec.fault e :)⟩

/-- A bad fill pointer faults an IDLE or QUEUED stream (R28, R42). -/
theorem taken_bad (hi : (s.stream n).state = .idle ∨ (s.stream n).state = .queued) (hb : (s.stream n).badFill p = true) :
    ((State.settle s u).stream n).state = .faulted ∧ ((State.settle s u).stream n).fault = .badFill ∧
      ((State.settle s u).stream n).fill = (s.stream n).fill ∧ n ∉ (State.settle s u).sc.queue ∧
      (State.settle s u).Owes ⟨.descriptor n, true, false, false⟩ := by
  have hw : w.stream n = s.stream n := State.stream_congr hsc n
  obtain ⟨g1, g2, g3⟩ := fieldsTaken_inactive hu (by rw [hw]; exact hi) (by rw [hw]; exact hb)
  obtain ⟨hcore, hq⟩ := settle_unqueued s hub hc g2
  rw [hw] at g1
  rw [g1] at hcore
  exact ⟨(congrArg StreamRec.state hcore :), (congrArg StreamRec.fault hcore :), (congrArg StreamRec.fill hcore :), hq,
    settle_keepsOwed s u _ g3.owes⟩

end

theorem takenOf_flush (b : List Byte) : (takenOf b).flush = min (le16 b 6) 60 := rfl

/-- Settles O24: the clauses about the stream, then those about the scan, each read off what the taken fields leave. -/
theorem descriptorReadTakesTheFillPointer : Obligations.DescriptorReadTakesTheFillPointer := by
  unfold Obligations.DescriptorReadTakesTheFillPointer
  refine ⟨newestSlot_iff, fun r p => badFill_iff, fun n data j s h hd hw hc hb ho _ hq _ hj =>
    waitEndsAtBadFill h hd hw hc hb ho hq hj, fun n data s h hd hcomp hw hc => ?_⟩
  obtain ⟨q, hexec⟩ := exec_descriptorTaken h hd hw hc
  have hv : ((s.endTransfer q).takeFields n (takenOf data)).sc.view = s.sc.view := State.takeFields_view _ n _
  have hr : ((s.endTransfer q).takeFields n (takenOf data)).regs = s.regs := by simp
  have hmem : ((s.endTransfer q).takeFields n (takenOf data)).hostMem = s.hostMem := by simp
  have hu := takeFields_taken (s.endTransfer q) n (takenOf data)
  have hcf := checkFill_composed (s := s.endTransfer q) ⟨hcomp.waits, hcomp.readFailed, hcomp.noCheck⟩ n (le32 data 0)
  have hsc : (s.endTransfer q).sc = s.sc := rfl
  have hco : (s.endTransfer q).comp = s.comp := rfl
  rw [show (takenOf data).fill = le32 data 0 from rfl, takenOf_flush] at hu
  generalize (s.endTransfer q).takeFields n (takenOf data) = f at *
  generalize s.endTransfer q = w at *
  have hset : (f.scanAfter n).regs.SameSetting s.regs := hr ▸ (scanAfter_undisturbed f n).setting
  have huc := hu.composed hcf
  have hub : (f.scanAfter n).regs.resetBusy = false := hset.resetBusy.trans h.1
  have htv : (State.settle s (f.scanAfter n)).sc.view = (f.scanAfter n).sc.view := State.settle_view _ _
  have hmem' : (f.scanAfter n).hostMem = s.hostMem := by simpa using hmem
  have htimer : (State.settle s (f.scanAfter n)).regs.sweepTimer = (f.scanAfter n).regs.sweepTimer := by simp
  have hkeeps := settle_keepsOwed s (f.scanAfter n)
  have hrun := hset.run
  have hnext (m : Fin 8) (hm : m.val = n.val + 1) (hlt : m.val < s.sc.streamCount) (hcut : s.sc.cut = false) :
      (f.scanAfter n).sc.phase = .descriptor m :=
    scanAfter_next hm (hlt.trans_eq (congrArg ScanView.streamCount hv).symm) ((congrArg ScanView.cut hv).trans hcut)
  have hlast := scanAfter_last (n := n) hv hr
  generalize f.scanAfter n = u at *
  obtain ⟨f1, f2, f3, f4⟩ := taken_fields hu hsc hub huc
  refine ⟨_, hexec, f1, f2, f3, fun hi hdis hrush hb hp ho => ?_, fun hg hi hdis hb hp =>
    taken_discards hu hsc hub huc hrun hg hi hdis hb hp, fun front back hi hdis hrush hb hp ho hq hf hbk => ?_,
    fun hi hdis hb hp ho hq hrn => taken_granted hu hsc hub huc hrun hi hdis hb hp ho hq hrn,
    fun ha hb hp hf => taken_atFill hu hsc hub huc hco ha hb hp hf, fun hi hb => taken_bad hu hsc hub huc hi hb,
    fun ha hq hb => ?_, fun m hm hlt hcut => (congrArg ScanView.phase htv).trans (hnext m hm hlt hcut),
    fun hn hcut => ?_, f4, by simpa using hmem', by simpa using hrun⟩
  · obtain ⟨k1, -, k3⟩ := taken_queued hu hsc hub huc hi hb hp ho
    exact ⟨k1, by rw [k3, if_pos hdis, if_neg (by simp [hrush])]⟩
  · obtain ⟨k1, k2, k3⟩ := taken_queued hu hsc hub huc hi hb hp ho
    exact ⟨k1, k2.trans hrush, by rw [k3, if_pos hdis, if_pos hrush, hq, insertRushed_behind hf hbk]⟩
  · obtain ⟨b1, b2, b3, b4, -, -, b7, -⟩ := settle_badFill hu hsc hub ha hb hq
    exact ⟨b1, b2, b4, b3, b7⟩
  · obtain ⟨l1, l2, l3, l4⟩ := hlast hn hcut
    refine ⟨fun hdo => ?_, fun hdo hs => ?_, fun hdo hs hrn => ?_, fun hdo hro => ?_⟩
    · exact ⟨(congrArg ScanView.phase htv).trans (l1 hdo).1, (congrArg ScanView.scan htv).trans (l1 hdo).2⟩
    · obtain ⟨k1, k2, k3⟩ := l2 hdo hs
      exact ⟨(congrArg ScanView.phase htv).trans k1, (congrArg ScanView.scan htv).trans k2, htimer.trans k3⟩
    · obtain ⟨k1, k2, k3⟩ := l3 hdo hs hrn
      exact ⟨(congrArg ScanView.phase htv).trans k1, (congrArg ScanView.scan htv).trans k2, htimer.trans k3⟩
    · obtain ⟨k1, k2⟩ := l4 hdo hro
      exact ⟨(congrArg ScanView.recordOwed htv).trans k1, hkeeps _ k2⟩

end Sys2Proof.Machine
end

section
/-! SUPPORT. What the requesters ask for, and what the MTU grants. -/

namespace Sys2Proof.Machine

/-! ## The scan's reads and a form load's (R7, R76) -/

/-- The reads of the control area, each by its phase or step. -/
theorem areaReads {s : State} (ha : s.hasArea = true) :
    (s.sc.phase = .header → s.scanRead = some ⟨.areaHeader, s.regs.areaBase, 64, []⟩) ∧
    (∀ n, s.sc.phase = .descriptor n →
      s.scanRead = some ⟨.descriptor n, s.regs.areaBase + BitVec.ofNat 32 (72 + 64 * n.val), 8, []⟩) ∧
    (∀ n x, s.sc.phase = .openRead n x →
      s.scanRead = some ⟨.openRead n, s.regs.areaBase + BitVec.ofNat 32 (64 + 64 * n.val), 8, []⟩) ∧
    (s.sc.phase = .directory → s.scanRead = some ⟨.fontDirectory, s.regs.areaBase + 576, 64, []⟩) ∧
    ∀ l : Load,
      (l.step = .recordLow →
        s.formRead l = some ⟨.formRecord, s.regs.areaBase + BitVec.ofNat 32 (640 + 128 * l.number), 64, []⟩) ∧
      (l.step = .recordHigh →
        s.formRead l = some ⟨.formRecord, s.regs.areaBase + BitVec.ofNat 32 (704 + 128 * l.number), 64, []⟩) := by
  have descriptorFields (k : Nat) : 64 + 64 * k + 8 = 72 + 64 * k := by omega
  have upperHalf (k : Nat) : 640 + 128 * k + 64 = 704 + 128 * k := by omega
  refine ⟨fun h => ?_, fun n h => ?_, fun n x h => ?_, fun h => ?_, fun l => ⟨fun h => ?_, fun h => ?_⟩⟩
  · simp [State.scanRead, ha, h, readOf, State.areaAt, addrAt]
  · simp only [State.scanRead, ha, h, readOf, State.areaAt, addrAt, descriptorOffset, descriptorFields, if_true]
  · simp only [State.scanRead, ha, h, readOf, State.areaAt, addrAt, descriptorOffset, if_true]
  · simp only [State.scanRead, ha, h, if_true]
    rfl
  · simp only [State.formRead, ha, h, readOf, State.areaAt, addrAt, formOffset, if_true]
  · simp only [State.formRead, ha, h, readOf, State.areaAt, addrAt, formOffset, upperHalf, if_true]

/-- The reads of a form's two tables, and none while its check waits (R76). -/
theorem tableReads (l : Load) (s : State) :
    (l.step = .vft → s.formRead l = some ⟨.vft,
      BitVec.ofNat 32 (le32 l.recordBytes 16) + BitVec.ofNat 32 l.vftBytes.length,
      min 64 ((byteAt l.recordBytes 1 + 3) / 4 * 4 - l.vftBytes.length), []⟩) ∧
    (l.step = .translate → s.formRead l = some ⟨.translate,
      BitVec.ofNat 32 (le32 l.recordBytes 20) + BitVec.ofNat 32 l.translateBytes.length,
      min 64 (512 - l.translateBytes.length), []⟩) ∧
    (l.step = .check → s.formRead l = none) := by
  refine ⟨fun h => ?_, fun h => ?_, fun h => ?_⟩ <;> unfold State.formRead <;> rw [h] <;> rfl

/-! ## The ring reads (R29, R32) -/

theorem byteAt_append {b c : List Byte} {k : Nat} (h : k < b.length) : byteAt (b ++ c) k = byteAt b k := by
  rw [byteAt, byteAt, List.getD_append _ _ _ _ h]

/-- A header stands in a record's first 8 bytes. -/
theorem recordHeader_append {b : List Byte} (c : List Byte) (h : 8 ≤ b.length) :
    recordHeader (b ++ c) = recordHeader b := by
  have at_ {k : Nat} (hk : k < 8) : byteAt (b ++ c) k = byteAt b k := byteAt_append (by omega)
  simp [recordHeader, le16, at_]

/-- A record whose header stands up to R31 holds the header at least. -/
theorem RecordHeader.sound_length {h : RecordHeader} (hs : h.sound = true) : 8 ≤ h.length := by
  obtain ⟨hk, hl, -⟩ := of_decide_eq_true hs
  rw [hl, RecordHeader.ruleLength]
  cases e : h.kind with
  | unknown => exact absurd e hk
  | line => exact Nat.le_add_right 8 _
  | job | endJob | mark | wrap => simp

/-- No WRAP is in hand in a run of whole records that are none, behind which no whole header of one stands. -/
theorem wrapAhead_records (back : List Byte)
    (hback : back.length < 8 ∨ (recordHeader back).sound = false ∨
      ((recordHeader back).kind ≠ .wrap ∧ back.length < (recordHeader back).length)) :
    ∀ (fuel : Nat) (records : List (List Byte)),
      (∀ b ∈ records, b.length = (recordHeader b).length ∧ (recordHeader b).sound = true ∧
        (recordHeader b).kind ≠ .wrap) → wrapAhead fuel (records.flatten ++ back) = false
  | 0, _, _ => rfl
  | fuel + 1, [], _ => by
    rw [List.flatten_nil, List.nil_append, wrapAhead]
    split
    · rfl
    · rename_i hne
      obtain ⟨hk, hl⟩ : (recordHeader back).kind ≠ .wrap ∧ back.length < (recordHeader back).length := by
        rcases hback with h | h | h
        · exact absurd (.inl h) hne
        · exact absurd (.inr h) hne
        · exact h
      simp [hk, Nat.not_le.mpr hl]
  | fuel + 1, b :: bs, h => by
    obtain ⟨hl, hs, hk⟩ := h b List.mem_cons_self
    have h8 : 8 ≤ b.length := hl ▸ RecordHeader.sound_length hs
    have ih := wrapAhead_records back hback fuel bs fun c hc => h c (List.mem_cons_of_mem _ hc)
    rw [List.flatten_cons, List.append_assoc, wrapAhead, recordHeader_append _ h8, ← hl, List.drop_left, ih]
    simp [hs, hk]

/-- What the ACTIVE stream reads ahead: a multiple of 4, as near `most` as one comes (R29). -/
theorem ringReadOf_active {n : Fin 8} {s : State} {most : Nat} (ha : (s.stream n).state = .active)
    (hf : s.sc.readFailed = false) (hw : s.wrapInHand = false) (hlen : s.aheadLength n = most / 4 * 4) :
    (most < 4 → s.ringReadOf n = none) ∧
    (4 ≤ most → ∃ len, len % 4 = 0 ∧ len ≤ most ∧ most < len + 4 ∧
      s.ringReadOf n = some ⟨.ring n, (s.stream n).ringBase +
        BitVec.ofNat 32 (((s.stream n).take + s.sc.buffer.length) % (s.stream n).ringSize), len, []⟩) := by
  refine ⟨fun h => ?_, fun h => ⟨most / 4 * 4, by omega, by omega, by omega, ?_⟩⟩
  · have short : ¬4 ≤ s.aheadLength n := by omega
    simp [State.ringReadOf, ha, short]
  · have enough : 4 ≤ s.aheadLength n := by omega
    simp only [State.ringReadOf, ha, hf, hw, enough, and_self, if_true]
    rw [hlen]
    rfl

/-- What a discard reads: 16 bytes at most, held apart from the read buffer (R29; log 16). -/
theorem ringReadOf_discarding {n : Fin 8} {s : State} (hst : (s.stream n).state = .idle ∨ (s.stream n).state = .queued)
    (hd : (s.stream n).discard = true) (hr : s.regs.run = true) (hstall : (s.stream n).discardStalled = false)
    (hh : s.sc.held = none) (h8 : 8 ≤ (s.stream n).span) :
    s.ringReadOf n = some ⟨.discardRing n, (s.stream n).ringBase + BitVec.ofNat 32 (s.stream n).take,
      min (min 16 (s.stream n).span) ((s.stream n).ringSize - (s.stream n).take), []⟩ := by
  have hna : (s.stream n).state ≠ .active := by rcases hst with h | h <;> rw [h] <;> exact nofun
  have hdis : s.discarding n = true := by simp [State.discarding, hd, hr, hst]
  unfold State.ringReadOf
  dsimp only
  rw [if_neg hna, if_pos ⟨hdis, hstall, hh, h8⟩]
  rfl

/-! ## The Stream Reader's turns (R29; log 15) -/

/-- Every stream has its turn, and those before it stand nearer to the one last served. -/
theorem streamsAfter_turns : ∀ last n : Fin 8, n ∈ streamsAfter last ∧
    ∀ m ∈ (streamsAfter last).takeWhile (· ≠ n), (m.val + 7 - last.val) % 8 < (n.val + 7 - last.val) % 8 := by decide

/-- The first element of a list that `f` maps to something, when nothing before it is. -/
theorem findSome?_takeWhile {α β : Type} [DecidableEq α] {f : α → Option β} {a : α} {b : β} :
    ∀ {l : List α}, a ∈ l → f a = some b → (∀ c ∈ l.takeWhile (· ≠ a), f c = none) → l.findSome? f = some b
  | c :: l, hm, ha, h => by
    by_cases e : c = a
    · subst e; simp [ha]
    · have hc : f c = none := h c (by simp [e])
      have hm' : a ∈ l := by simpa [Ne.symm e] using hm
      rw [List.findSome?_cons, hc]
      exact findSome?_takeWhile hm' ha fun d hd =>
        h d (by rw [List.takeWhile_cons_of_pos (by simpa using e)]; exact List.mem_cons_of_mem _ hd)

theorem recordRead_turn {s : State} {n : Fin 8} {r : Request} (hn : s.ringReadOf n = some r)
    (hfirst : ∀ m : Fin 8, (m.val + 7 - s.sc.lastStream.val) % 8 < (n.val + 7 - s.sc.lastStream.val) % 8 →
      s.ringReadOf m = none) : s.recordRead = some (n, r) := by
  obtain ⟨hmem, hbefore⟩ := streamsAfter_turns s.sc.lastStream n
  exact findSome?_takeWhile hmem (by rw [hn]; rfl) fun m hm => by rw [hfirst m (hbefore m hm)]; rfl

/-- A requester whose place is EMPTY asks (R154). -/
theorem askNext_empty (s : State) :
    (s.mtu.reader = .empty → s.askNext .streamReader = s.askReader) ∧
    (s.mtu.loader = .empty → s.askNext .formLoader = s.askLoader) ∧
    (s.mtu.filler = .empty → s.askNext .glyphFiller = s.askFiller) ∧
    (s.mtu.writer = .empty → s.askNext .statusWriter = s.askWriter) := by
  refine ⟨fun h => ?_, fun h => ?_, fun h => ?_, fun h => ?_⟩ <;>
    exact if_pos (by simp [TransferUnit.place, h, Place.isEmpty])

/-- The Stream Reader's next read, in its turn. -/
theorem askReader_turns {s : State} (he : s.mtu.reader = .empty) {r : Request} :
    (s.scanRead = some r → (∀ n, s.ringReadOf n = none) ∨ s.sc.lastWasScan = false →
      (s.askNext .streamReader).mtu.reader = .pending r) ∧
    (∀ n, s.ringReadOf n = some r → s.scanRead = none ∨ s.sc.lastWasScan = true →
      (∀ m : Fin 8, (m.val + 7 - s.sc.lastStream.val) % 8 < (n.val + 7 - s.sc.lastStream.val) % 8 →
        s.ringReadOf m = none) →
      (s.askNext .streamReader).mtu.reader = .pending r ∧ (s.askNext .streamReader).sc.lastStream = n) := by
  have hask : s.askNext .streamReader = s.askReader := (askNext_empty s).1 he
  rw [hask]
  refine ⟨fun hs h => ?_, fun n hn h hfirst => ?_⟩
  · have hrec : s.recordRead = none ∨ s.sc.lastWasScan = false := h.imp recordRead_none id
    unfold State.askReader
    rw [hs]
    cases hr : s.recordRead with
    | none => rfl
    | some p =>
      have hl : s.sc.lastWasScan = false := hrec.resolve_left (by rw [hr]; exact nofun)
      simp [hl, State.issue, TransferUnit.setPlace]
  · have hrec := recordRead_turn hn hfirst
    unfold State.askReader
    rw [hrec]
    cases hs : s.scanRead with
    | none => exact ⟨rfl, rfl⟩
    | some p =>
      have hl : s.sc.lastWasScan = true := h.resolve_left (by rw [hs]; exact nofun)
      simp [hl, State.issue, TransferUnit.setPlace]

/-! ## The other requesters -/

theorem askLoader_load {s : State} {l : Load} {r : Request} (he : s.mtu.loader = .empty) (hf : s.form = .loading l)
    (hr : s.formRead l = some r) : (s.askNext .formLoader).mtu.loader = .pending r := by
  rw [(askNext_empty s).2.1 he]
  simp [State.askLoader, hf, hr, State.issue, TransferUnit.setPlace]

theorem askFiller_fill {s : State} {f : Fill} {r : Request} (he : s.mtu.filler = .empty) (hf : s.cache.fill = some f)
    (hr : s.fillRead f = some r) : (s.askNext .glyphFiller).mtu.filler = .pending r := by
  rw [(askNext_empty s).2.2.1 he]
  simp [State.askFiller, hf, hr, State.issue, TransferUnit.setPlace]

theorem askFiller_flush {s : State} (he : s.mtu.filler = .empty) (hf : s.cache.fill = none)
    (hfl : s.cache.flush = .reading) (ha : s.hasArea = true) :
    (s.askNext .glyphFiller).mtu.filler = .pending ⟨.flushDirectory, s.regs.areaBase + 576, 64, []⟩ := by
  rw [(askNext_empty s).2.2.1 he]
  simp only [State.askFiller, hf, hfl, ha, and_self, if_true]
  rfl

/-- The Status Writer issues the head of its list (R160). -/
theorem askWriter_head {s : State} {o : Owed} {rest : List Owed} (he : s.mtu.writer = .empty) (ha : s.hasArea = true)
    (hi : s.writer.issued = none) (hw : s.writer.waiting = o :: rest) :
    (s.askNext .statusWriter).mtu.writer = .pending (s.writeOf o.kind) ∧
      (s.askNext .statusWriter).writer.issued = some o ∧ (s.askNext .statusWriter).writer.waiting = rest := by
  rw [(askNext_empty s).2.2.2 he]
  simp only [State.askWriter, ha, hi, hw, if_true]
  refine ⟨?_, by simp [State.issue], by simp [State.issue]⟩
  rw [(State.showCounts_keeps _ _).2.2.2.2.2.2.2.1]
  rfl

/-- A device record write goes on with the record's second half (R154). -/
theorem askWriter_secondHalf {s : State} {o : Owed} (he : s.mtu.writer = .empty) (ha : s.hasArea = true)
    (hi : s.writer.issued = some o) (hs : s.writer.secondHalf = true) :
    (s.askNext .statusWriter).mtu.writer = .pending s.secondHalf := by
  rw [(askNext_empty s).2.2.2 he]
  simp [State.askWriter, ha, hi, hs, State.issue, TransferUnit.setPlace]

/-! ## The MTU's grants (R155, R156) -/

/-- The first pending place of the round is granted, and the pointer names the next. -/
theorem arbitrate_round {q : Requester} {r : Request} {s : State} (hf : s.mtu.inFlight = none)
    (hq : s.mtu.place q = .pending r)
    (hu : ¬(s.engine.state = .feeding ∧ s.engine.cond.inMotion = true ∧ s.engine.bandRoom = 2 ∧
      (∃ f, s.cache.fill = some f ∧ f.wanted = true) ∧ ∃ r', s.mtu.filler = .pending r'))
    (hfirst : ∀ p ∈ s.mtu.pointer.round.takeWhile (· ≠ q), ∀ r', s.mtu.place p ≠ .pending r') :
    s.arbitrate.mtu.inFlight = some ⟨q, r, true⟩ ∧ s.arbitrate.mtu.limit = some 1 ∧
      s.arbitrate.mtu.place q = .granted ∧ s.arbitrate.mtu.pointer = q.next ∧
      ∀ p, p ≠ q → s.arbitrate.mtu.place p = s.mtu.place p := by
  have calm : ¬(s.urgent = true ∧ s.mtu.filler.isPending = true) := fun h => hu <| by
    obtain ⟨h1, h2, h3, h4⟩ := (urgent_iff s).mp h.1
    exact ⟨h1, h2, h3, h4, (isPending_iff _).mp h.2⟩
  rw [arbitrate_grants hf hq calm hfirst]
  obtain ⟨g1, g2, g3, g4⟩ := grantBus_pending hq q.next
  exact ⟨g1, g2, (g4 q).trans (if_pos rfl), g3, fun p hp => (g4 p).trans (if_neg hp.symm)⟩

/-- Under urgency the Glyph Filler goes first, the pointer staying. -/
theorem arbitrate_urgent {r : Request} {f : Fill} {s : State} (hf : s.mtu.inFlight = none)
    (hp : s.mtu.filler = .pending r) (he : s.engine.state = .feeding) (hm : s.engine.cond.inMotion = true)
    (hb : s.engine.bandRoom = 2) (hc : s.cache.fill = some f) (hw : f.wanted = true) :
    s.arbitrate.mtu.inFlight = some ⟨.glyphFiller, r, true⟩ ∧ s.arbitrate.mtu.limit = some 1 ∧
      s.arbitrate.mtu.filler = .granted ∧ s.arbitrate.mtu.pointer = s.mtu.pointer := by
  have hu : s.urgent = true := (urgent_iff s).mpr ⟨he, hm, hb, f, hc, hw⟩
  have e : s.arbitrate = s.grantBus .glyphFiller s.mtu.pointer := by
    simp [State.arbitrate, hf, hu, hp, Place.isPending]
  rw [e]
  obtain ⟨g1, g2, g3, g4⟩ := grantBus_pending (s := s) (q := .glyphFiller) hp s.mtu.pointer
  exact ⟨g1, g2, (g4 .glyphFiller).trans (if_pos rfl), g3⟩

end Sys2Proof.Machine
end

section
/-! SUPPORT. Writes that end, and the statement about the requests asked for, granted and ended. -/

namespace Sys2Proof.Machine

/-! ## A write that completes (R157) -/

/-- A wanted write that completes is acted on with the bus free of it and its bytes in host memory. -/
theorem completed_write {s : State} {k : TransferKind} (h : s.WritingOnBus k) {p : TransferKind → Bool}
    (hp : p k = true) (act : TransferKind → State → State) :
    ∃ x w, s.mtu.inFlight = some x ∧ s.completed p [] act = act k w ∧
      w = { s.endTransfer x.who with hostMem := s.hostMem.writeRun x.request.addr x.request.data } ∧
      x.request.data.length = x.request.len := by
  obtain ⟨hb, x, hx, hw, rfl, hlen⟩ := h
  refine ⟨x, _, hx, ?_, rfl, hlen⟩
  unfold State.completed
  rw [hx]
  simp only [hp, hlen, hw, hb, List.length_nil, Nat.zero_add, and_self, if_true]
  rfl

theorem addrAt_zero (a : Word32) : addrAt a 0 = a := by
  simp [addrAt]

theorem addrAt_toNat {a : Word32} {k : Nat} (h : a.toNat + k < 2 ^ 32) : (addrAt a k).toNat = a.toNat + k := by
  rw [addrAt, BitVec.toNat_add, BitVec.toNat_ofNat]
  omega

/-- A run that does not wrap is read back byte for byte. -/
theorem Memory.read_writeRun {m : Memory} {a : Word32} {bs : List Byte} (h : a.toNat + bs.length ≤ 2 ^ 32) :
    ∀ k < bs.length, Memory.read (Memory.writeRun m a bs) (a.toNat + k) = bs[k]? := by
  induction bs generalizing m a with
  | nil => intro k hk; exact absurd hk (Nat.not_lt_zero k)
  | cons b bs ih =>
    rw [List.length_cons] at h
    intro k hk
    have rest (j : Nat) (hj : j < bs.length) : (addrAt (a + 1) j).toNat = a.toNat + (j + 1) := by
      rw [← addrAt_succ]
      exact addrAt_toNat (by omega)
    cases k with
    | zero =>
      rw [Memory.writeRun, Memory.read_writeRun_out _ _ _ fun j hj => by rw [rest j hj]; omega]
      exact Memory.read_write _ _
    | succ k =>
      have hk' : k < bs.length := Nat.lt_of_succ_lt_succ hk
      have h1 : (a + 1).toNat = a.toNat + 1 := by
        rw [← addrAt_zero (a + 1)]
        exact rest 0 (by omega)
      have e := ih (m := Memory.write m a.toNat b) (a := a + 1) (by omega) k hk'
      rw [h1] at e
      rw [Memory.writeRun, List.getElem?_cons_succ, ← e, Nat.add_right_comm]
      rfl

/-! ## Events raised (R11) -/

theorem raise_bit {s : State} {b : BitVec 11} {k : Nat} (hb : s.regs.resetBusy = false) (h : b.getLsbD k = true) :
    (s.raise b).regs.events.getLsbD k = true := by
  simp [State.raise, hb, h]

theorem streamBit_bit : ∀ n : Fin 8, (streamBit n).getLsbD n.val = true := by decide

theorem memfaultBit_bit : memfaultBit.getLsbD 10 = true := by decide

/-! ## What a settlement makes of the Status Writer's list (R160) -/

/-- A property of the Status Writer outlasts a fold whose steps ask for writes of kinds that keep it. -/
theorem foldl_writer {P : StatusWriter → Prop} {f : State → Fin 8 → State}
    (h : ∀ (s : State) (n : Fin 8), P s.writer → P (f s n).writer) (l : List (Fin 8)) {s : State} (hs : P s.writer) :
    P (l.foldl f s).writer := by
  induction l generalizing s with
  | nil => exact hs
  | cons a l ih => exact ih (h s a hs)

/-- A property of the Status Writer outlasts its turn when the requests of that turn keep it: those for descriptor
writes, and the one for a device record write where one is made. -/
theorem settleStatus_writer {P : StatusWriter → Prop} (old : State) {s : State} (hs : P s.writer)
    (descriptor : ∀ (v : State) (n : Fin 8) (e r : Bool), P v.writer → P (v.ask ⟨.descriptor n, e, r, false⟩).writer)
    (record : s.recordItems ≠ old.recordItems ∨ (s.atBoundary = true ∧ s.boundaryCounts ≠ s.counts.shown) →
      ∀ v : State, P v.writer → P v.askRecord.writer) : P (State.settleStatus old s).writer := by
  have changed : P (State.askChanged old s.syncWaits).writer := foldl_writer (fun v n hv => by
    split
    · exact hv
    · exact descriptor v n false false hv) _ (show P s.syncWaits.writer from hs)
  have reports : P (allStreams.foldl (State.makeReport old) (State.askChanged old s.syncWaits)).writer :=
    foldl_writer (fun v n hv => by
      rcases makeReport_cases old v n with e | ⟨p, rest, -, -, -, e⟩ <;> rw [e]
      · exact hv
      · exact descriptor _ n true true hv) _ changed
  unfold State.settleStatus State.askRecordChanged
  dsimp only
  split
  · rename_i h
    refine record ?_ _ reports
    simpa [State.recordItems, State.atBoundary, State.boundaryCounts, State.slot] using h
  · exact reports

/-- A property of the Status Writer outlasts the bus when issuing the head of its list keeps it. -/
theorem serveBus_writer {P : StatusWriter → Prop} {s : State} (hs : P s.writer)
    (issue : ∀ (w : StatusWriter) (o : Owed) (rest : List Owed) (f g : Bool), w.issued = none → w.waiting = o :: rest →
      P w → P { w with issued := some o, waiting := rest, failureIssued := f, failureWaits := g }) :
    P s.serveBus.writer := by
  have write (u : State) (hu : P u.writer) : P u.askWriter.writer := by
    unfold State.askWriter
    split
    · split
      · split <;> exact hu
      · rename_i o rest hi hw
        have k := issue u.writer o rest
        cases ho : o.kind with
        | deviceRecord => exact k _ _ hi hw hu
        | descriptor n => exact k _ _ hi hw hu
        | requestField n => exact k _ _ hi hw hu
      · exact hu
    · exact hu
  have next (q : Requester) (u : State) (hu : P u.writer) : P (u.askNext q).writer := by
    unfold State.askNext
    split
    · cases q with
      | streamReader => simpa using hu
      | formLoader => simpa using hu
      | glyphFiller => simpa using hu
      | statusWriter => exact write u hu
    · exact hu
  have h0 : P s.arbitrate.writer := by simpa using hs
  simpa [State.serveBus] using next .statusWriter _ (next .glyphFiller _ (next .formLoader _ (next .streamReader _ h0)))

/-- A settlement leaves the write that is issued, and its half. -/
theorem settle_issued (old : State) {u : State} {o : Owed} (hb : u.regs.resetBusy = false) (hc : u.Composed) :
    (State.settle old u).writer.secondHalf = u.writer.secondHalf ∧
      (u.writer.issued = some o → (State.settle old u).writer.issued = some o) := by
  obtain ⟨v, -, h2, e⟩ := settle_status old hb hc
  rw [e, ← h2]
  refine ⟨?_, fun ho => ?_⟩
  · exact serveBus_writer (P := fun w => w.secondHalf = v.writer.secondHalf)
      (settleStatus_writer (P := fun w => w.secondHalf = v.writer.secondHalf) old rfl (fun _ _ _ _ h => h) fun _ _ h => h)
      fun _ _ _ _ _ _ _ h => h
  · exact serveBus_writer (P := fun w => w.issued = some o)
      (settleStatus_writer (P := fun w => w.issued = some o) old ho (fun _ _ _ _ h => h) fun _ _ h => h)
      fun w _ _ _ _ hn _ h => by rw [hn] at h; cases h

end Sys2Proof.Machine
end

section
/-! SUPPORT. The statement about the requests asked for, granted and ended. -/

namespace Sys2Proof.Machine

/-- What a descriptor write's end leaves (R12, R21, R161, R162). -/
theorem descriptorWritten_leaves {w : State} {o : Owed} (n : Fin 8) (hb : w.regs.resetBusy = false)
    (hi : w.writer.issued = some o) :
    (o.event = true → (w.descriptorWritten n).regs.events.getLsbD n.val = true) ∧
      (o.result = true → (w.descriptorWritten n).Owes ⟨.requestField n, false, false, false⟩) := by
  have e : w.descriptorWritten n = if o.result then
      (if o.event then w.endWrite.raise (streamBit n) else w.endWrite).ask ⟨.requestField n, false, false, false⟩
      else if o.event then w.endWrite.raise (streamBit n) else w.endWrite := by
    rw [State.descriptorWritten, hi]
  rw [e]
  refine ⟨fun he => ?_, fun hr => ?_⟩
  · have raised : (w.endWrite.raise (streamBit n)).regs.events.getLsbD n.val = true := raise_bit hb (streamBit_bit n)
    rw [if_pos he]
    split <;> exact raised
  · rw [if_pos hr]
    exact State.ask_owes _ _

/-- What a settlement leaves where the streams, the Composer, the form and the slots stand as they did. -/
theorem settle_unmoved {s u : State} (hc : s.Composed) (hb : u.regs.resetBusy = false) (hr : u.regs.run = s.regs.run)
    (hsc : u.sc = s.sc) (hcomp : u.comp = s.comp) (hform : u.form = s.form) (hstore : u.store = s.store) :
    (State.settle s u).store = s.store ∧ (State.settle s u).form = s.form ∧ (State.settle s u).sc.view = s.sc.view ∧
      (s.GrantsNothing → (∀ m, ((State.settle s u).stream m).core = (s.stream m).core) ∧
        (State.settle s u).comp = s.comp) := by
  have huc : u.Composed := ⟨by rw [hcomp]; exact hc.waits, by rw [hsc]; exact hc.readFailed, by rw [hform]; exact hc.noCheck⟩
  obtain ⟨a1, a2, -, -⟩ := State.settle_composed s hb huc
  refine ⟨a1.trans hstore, a2.trans hform, by rw [State.settle_view, hsc], fun hg => ?_⟩
  have hug : u.GrantsNothing := hg.imp (fun ho => by rwa [State.owner_congr hsc])
    (Or.imp (fun hq => by rw [hsc]; exact hq) fun h => hr.trans h)
  have a := settle_settled s hb huc hug
  exact ⟨fun m => by rw [a.core, State.stream_congr hsc m], a.comp.trans hcomp⟩

/-! ## DESCRIPTOR_WRITE -/

theorem descriptorWrite_ends {s : State} {n : Fin 8} {o : Owed} {x : Transfer} (hc : s.Composed)
    (h : s.WritingOnBus (.descriptorWrite n)) (hi : s.writer.issued = some o) (hx : s.mtu.inFlight = some x) :
    ∃ t, exec .descriptorWrite s = .next t ∧ (o.event = true → t.regs.events.getLsbD n.val = true) ∧
      (o.result = true → t.Owes ⟨.requestField n, false, false, false⟩) ∧
      (x.request.addr.toNat + x.request.len ≤ 2 ^ 32 → ∀ k, k < x.request.len →
        t.hostMem.read (x.request.addr.toNat + k) = x.request.data[k]?) ∧
      t.store = s.store ∧ t.form = s.form ∧ t.sc.view = s.sc.view ∧
      (s.GrantsNothing → (∀ m, (t.stream m).core = (s.stream m).core) ∧ t.comp = s.comp) := by
  obtain ⟨y, w, hy, e, hw, hlen⟩ := completed_write h (p := TransferKind.isDescriptorWrite) rfl
    fun k s => s.takeDescriptorWrite k
  obtain rfl : x = y := Option.some.inj (hx.symm.trans hy)
  have hb : w.regs.resetBusy = false := by rw [hw]; exact h.1
  obtain ⟨l1, l2⟩ := descriptorWritten_leaves n hb (by rw [hw]; exact hi)
  have hu := (descriptorWritten_undisturbed w n).setting
  have hsc : (w.descriptorWritten n).sc = s.sc := by simp [hw, State.endTransfer]
  have hcomp : (w.descriptorWritten n).comp = s.comp := by simp [hw, State.endTransfer]
  have hform : (w.descriptorWritten n).form = s.form := by simp [hw, State.endTransfer]
  have hstore : (w.descriptorWritten n).store = s.store := by simp [hw, State.endTransfer]
  have hmem : (w.descriptorWritten n).hostMem = s.hostMem.writeRun x.request.addr x.request.data := by simp [hw]
  have hrun : w.regs.run = s.regs.run := by rw [hw]; rfl
  refine ⟨_, (congrArg (fun v => Host.Outcome.next (State.settle s v)) e : exec .descriptorWrite s = _), ?_⟩
  dsimp only [State.takeDescriptorWrite]
  generalize w.descriptorWritten n = u at *
  refine ⟨fun he => (settle_undisturbed s u).raises.events _ (l1 he), fun hr => settle_keepsOwed s u _ (l2 hr),
    fun hwrap k hk => ?_, settle_unmoved hc (hu.resetBusy.trans hb) (hu.run.trans hrun) hsc hcomp hform hstore⟩
  rw [(State.settle_keeps s u).2.1, hmem]
  exact Memory.read_writeRun (by omega) k (by omega)

/-! ## DEVICE_RECORD_WRITE -/

theorem deviceRecordWrite_ends {s : State} {o : Owed} (hc : s.Composed)
    (h : s.WritingOnBus .deviceRecord ∨ s.WritingOnBus .deviceRecordHigh) (hi : s.writer.issued = some o) :
    ∃ t, exec .deviceRecordWrite s = .next t ∧
      (s.writer.secondHalf = false → t.writer.secondHalf = true ∧ t.writer.issued = some o) ∧
      (s.writer.secondHalf = true → t.writer.secondHalf = false) ∧ t.store = s.store ∧ t.form = s.form ∧
      t.sc.view = s.sc.view ∧
      (s.GrantsNothing → (∀ m, (t.stream m).core = (s.stream m).core) ∧ t.comp = s.comp) := by
  have hb : s.regs.resetBusy = false := h.elim (·.1) (·.1)
  have ends (k : TransferKind) (hk : k.isDeviceRecord = true) (h : s.WritingOnBus k) : ∃ (q : Requester) (w : State),
      s.completed TransferKind.isDeviceRecord [] (fun _ s => s.deviceRecordWritten) = w.deviceRecordWritten ∧
        w = { s.endTransfer q with hostMem := w.hostMem } := by
    obtain ⟨y, w, -, e, rfl, -⟩ := completed_write h (p := TransferKind.isDeviceRecord) hk fun _ s => s.deviceRecordWritten
    exact ⟨y.who, _, e, rfl⟩
  obtain ⟨q, w, e, hw⟩ := h.elim (ends _ rfl) (ends _ rfl)
  have hwriter : w.writer = s.writer := by rw [hw]; rfl
  have hregs : w.deviceRecordWritten.regs = s.regs := by rw [hw]; simp [State.endTransfer]
  have hsc : w.deviceRecordWritten.sc = s.sc := by rw [hw]; simp [State.endTransfer]
  have hcomp : w.deviceRecordWritten.comp = s.comp := by rw [hw]; simp [State.endTransfer]
  have hform : w.deviceRecordWritten.form = s.form := by rw [hw]; simp [State.endTransfer]
  have hstore : w.deviceRecordWritten.store = s.store := by rw [hw]; simp [State.endTransfer]
  have first : s.writer.secondHalf = false →
      w.deviceRecordWritten.writer.secondHalf = true ∧ w.deviceRecordWritten.writer.issued = some o := fun hs => by
    rw [State.deviceRecordWritten, hwriter, hs]
    exact ⟨rfl, hi⟩
  have second : s.writer.secondHalf = true → w.deviceRecordWritten.writer.secondHalf = false := fun hs => by
    rw [State.deviceRecordWritten, hwriter, hs]
    rfl
  refine ⟨_, (congrArg (fun v => Host.Outcome.next (State.settle s v)) e : exec .deviceRecordWrite s = _), ?_⟩
  generalize w.deviceRecordWritten = u at *
  have hub : u.regs.resetBusy = false := by rw [hregs]; exact hb
  have huc : u.Composed := ⟨by rw [hcomp]; exact hc.waits, by rw [hsc]; exact hc.readFailed, by rw [hform]; exact hc.noCheck⟩
  obtain ⟨k1, k2⟩ := settle_issued s (o := o) hub huc
  exact ⟨fun hs => ⟨k1.trans (first hs).1, k2 (first hs).2⟩, fun hs => k1.trans (second hs),
    settle_unmoved hc hub (by rw [hregs]) hsc hcomp hform hstore⟩

/-! ## REQUEST_FIELD_WRITE -/

/-- The end of a request's action: the fields held are taken, and the scan's next step (R7, R21). -/
theorem actionEnds_acting {s : State} {n : Fin 8} {x : Taken} (h : s.sc.phase = .acting n x) :
    s.actionEnds = (s.takeFields n x).scanAfter n := by
  rw [State.actionEnds, h]

/-- Checking a fill pointer leaves clear owed of every stream. -/
theorem checkFill_clearOwed (s : State) (n : Fin 8) (p : Nat) (m : Fin 8) :
    ((s.checkFill n p).stream m).clearOwed = (s.stream m).clearOwed := by
  by_cases hm : m = n
  · subst hm
    rcases checkFill_cases s m p with ⟨-, e⟩ | ⟨-, -, e⟩ | ⟨-, -, e⟩ | ⟨-, -, e⟩ <;> rw [e]
    · rw [takeFill_stream, if_pos rfl]
      rfl
    · rw [(faultInactive_leaves s m .badFill).1, if_pos rfl]
    · have h := (faultActive_leaves s m .badFill).1 m
      rw [if_pos rfl] at h
      exact (congrArg StreamRec.clearOwed h :)
  · exact (congrArg StreamRec.clearOwed (checkFill_others s hm p) :)

/-- The fields of stream `n` that a settlement shows as the fields taken left them. -/
theorem settle_takenFields (old : State) {v u : State} {n : Fin 8} {p k : Nat} (hu : (v.checkFill n p).FieldsTaken n k u)
    (hb : u.regs.resetBusy = false) (hc : u.Composed) :
    ((State.settle old u).stream n).clearOwed = (v.stream n).clearOwed ∧
      ((State.settle old u).stream n).flushSecs = k ∧
      ((v.stream n).state ≠ .closed → (v.stream n).state ≠ .faulted → (v.stream n).badFill p = false →
        ((State.settle old u).stream n).fill = p) := by
  obtain ⟨st, rush, h⟩ := settle_stream old hb hc n
  have hn := hu.stream n
  rw [if_pos rfl] at hn
  refine ⟨(congrArg StreamRec.clearOwed h :).trans ?_, (congrArg StreamRec.flushSecs h :).trans ?_, fun h1 h2 h3 =>
    (congrArg StreamRec.fill h :).trans ?_⟩
  · exact (congrArg StreamRec.clearOwed hn :).trans (checkFill_clearOwed v n p n)
  · exact (congrArg StreamRec.flushSecs hn :)
  · obtain ⟨g1, -⟩ := fieldsTaken_good hu h1 h2 h3
    have g := g1 n
    rw [if_pos rfl] at g
    exact (congrArg StreamRec.fill g :)

theorem requestFieldWrite_ends {s : State} {n : Fin 8} {x : Taken} (hc : s.Composed)
    (h : s.WritingOnBus (.requestField n)) (hp : s.sc.phase = .acting n x) :
    ∃ t, exec .requestFieldWrite s = .next t ∧ t.regs.events.getLsbD n.val = true ∧
      (t.stream n).clearOwed = false ∧
      ((s.stream n).state ≠ .closed → (s.stream n).state ≠ .faulted → (s.stream n).badFill x.fill = false →
        (t.stream n).fill = x.fill) ∧
      (t.stream n).flushSecs = x.flush ∧
      (∀ m : Fin 8, m.val = n.val + 1 → m.val < s.sc.streamCount → s.sc.cut = false → t.sc.phase = .descriptor m) := by
  obtain ⟨y, w, -, e, hw, -⟩ := completed_write h (p := TransferKind.isRequestField) rfl fun k s => s.takeRequestField k
  have hb : w.regs.resetBusy = false := by rw [hw]; exact h.1
  have hwsc : w.sc = s.sc := by rw [hw]; rfl
  have hwc : w.Composed := ⟨by rw [hw]; exact hc.waits, by rw [hw]; exact hc.readFailed, by rw [hw]; exact hc.noCheck⟩
  have hwritten : w.requestFieldWritten n false =
      ((((w.endWrite.raise (streamBit n)).modStream n fun r => { r with clearOwed := false }).takeFields n x).scanAfter n) :=
    actionEnds_acting (by simpa [State.modStream, hwsc, State.endWrite] using hp)
  refine ⟨_, (congrArg (fun v => Host.Outcome.next (State.settle s v)) e : exec .requestFieldWrite s = _), ?_⟩
  dsimp only [State.takeRequestField]
  clear hw e
  rw [hwritten]
  have raised : (w.endWrite.raise (streamBit n)).regs.events.getLsbD n.val = true := raise_bit hb (streamBit_bit n)
  have hrb : (w.endWrite.raise (streamBit n)).regs.resetBusy = false :=
    (raise_undisturbed w.endWrite (streamBit n)).setting.resetBusy.trans hb
  have hrsc : (w.endWrite.raise (streamBit n)).sc = s.sc := by simpa [State.endWrite] using hwsc
  have hrc : (w.endWrite.raise (streamBit n)).Composed :=
    ⟨by simpa [State.endWrite] using hwc.waits, by simpa [State.endWrite] using hwc.readFailed,
      by simpa [State.endWrite] using hwc.noCheck⟩
  generalize w.endWrite.raise (streamBit n) = r at *
  have hv : (r.modStream n fun r => { r with clearOwed := false }).stream n = { s.stream n with clearOwed := false } := by
    rw [State.stream_modStream_same, State.stream_congr hrsc n]
  have hview : (r.modStream n fun r => { r with clearOwed := false }).sc.view = s.sc.view := by
    rw [← hrsc]; rfl
  have hvc : (r.modStream n fun r => { r with clearOwed := false }).Composed := ⟨hrc.waits, hrc.readFailed, hrc.noCheck⟩
  have hvr : (r.modStream n fun r => { r with clearOwed := false }).regs = r.regs := rfl
  generalize (r.modStream n fun r => { r with clearOwed := false }) = v at *
  have hu := takeFields_taken v n x
  have huc := hu.composed (checkFill_composed hvc n x.fill)
  have hfv : (v.takeFields n x).sc.view = s.sc.view := (State.takeFields_view _ n _).trans hview
  have hfr : (v.takeFields n x).regs = r.regs := by rw [← hvr]; simp
  have hset := scanAfter_undisturbed (v.takeFields n x) n
  have hnext (m : Fin 8) (hm : m.val = n.val + 1) (hlt : m.val < s.sc.streamCount) (hcut : s.sc.cut = false) :
      ((v.takeFields n x).scanAfter n).sc.phase = .descriptor m :=
    scanAfter_next hm (hlt.trans_eq (congrArg ScanView.streamCount hfv).symm) ((congrArg ScanView.cut hfv).trans hcut)
  generalize (v.takeFields n x).scanAfter n = u at *
  have hub : u.regs.resetBusy = false := hset.setting.resetBusy.trans (by rw [hfr]; exact hrb)
  obtain ⟨k1, k2, k3⟩ := settle_takenFields s hu hub huc
  have htv : (State.settle s u).sc.view = u.sc.view := State.settle_view _ _
  refine ⟨(settle_undisturbed s u).raises.events _ (hset.raises.events _ (by rw [hfr]; exact raised)),
    k1.trans (by rw [hv]), fun h1 h2 h3 => k3 ?_ ?_ ?_, k2,
    fun m hm hlt hcut => (congrArg ScanView.phase htv).trans (hnext m hm hlt hcut)⟩
  · rw [hv]; exact h1
  · rw [hv]; exact h2
  · rw [hv]; exact h3

/-- Settles O47: what each requester asks for, what the MTU grants, and how each write ends. -/
theorem writesEndAsOwed : Obligations.WritesEndAsOwed := by
  unfold Obligations.WritesEndAsOwed
  refine ⟨fun s ha => areaReads ha, tableReads, fun n records back s ha hf hbuf hrec hback => ?_,
    fun n s hst hd hr hstall hh h8 => ringReadOf_discarding hst hd hr hstall hh h8, fun r s => ⟨?_, ?_, ?_, ?_, ?_, ?_, ?_⟩,
    fun q r s hf hq hu hfirst => arbitrate_round hf hq hu hfirst,
    fun r f s hf hp he hm hb hc hw => arbitrate_urgent hf hp he hm hb hc hw, fun s hf => arbitrate_busy hf, fun n s hc => ⟨?_, ?_, ?_⟩⟩
  · have noWrap : s.wrapInHand = false := by
      rw [State.wrapInHand, hbuf]
      exact wrapAhead_records back hback _ records hrec
    exact ringReadOf_active ha hf noWrap rfl
  · exact fun he hs h => (askReader_turns he).1 hs h
  · exact fun n he hn h hfirst => (askReader_turns he).2 n hn h hfirst
  · exact fun l he hf hr => askLoader_load he hf hr
  · exact fun f he hf hr => askFiller_fill he hf hr
  · exact fun he hf hfl ha => askFiller_flush he hf hfl ha
  · exact fun o rest he ha hi hw => askWriter_head he ha hi hw
  · exact fun o he ha hi hs => askWriter_secondHalf he ha hi hs
  · intro o x h hi hx
    obtain ⟨t, e, k1, k2, k3, k4⟩ := descriptorWrite_ends hc h hi hx
    exact ⟨t, e, k1, k2, fun _ => k3, k4⟩
  · exact fun x h hp => requestFieldWrite_ends hc h hp
  · exact fun o h hi => deviceRecordWrite_ends hc h hi

end Sys2Proof.Machine
end

section
/-! SUPPORT. The count of glyph faults, and settlements in which a failed ring read may come to a fault. -/

namespace Sys2Proof.Machine

/-! ## The count of glyph faults (R147, R181) -/

theorem judge_faults (c : GlyphCache) (d : Directory) (cell : Cell) (first last : Nat) :
    (c.judge d cell first last).2.faults = c.faults := by
  unfold GlyphCache.judge
  dsimp only
  (repeat' split) <;> rfl

theorem drawCells_faults (d : Directory) (first last : Nat) (cells : List Cell) (m : DotMap) (c : GlyphCache) :
    (drawCells d first last cells m c).2.2.faults = c.faults := by
  induction cells generalizing m c with
  | nil => rfl
  | cons cell cells ih =>
    have h := judge_faults c d cell first last
    unfold drawCells
    split
    · rename_i keys c' e
      rw [e] at h
      exact (ih _ c').trans h
    · rename_i c' e
      rw [e] at h
      exact h

theorem putInForce_faults (c : GlyphCache) : c.putInForce.faults = c.faults := by
  unfold GlyphCache.putInForce
  split <;> rfl

theorem beginFlush_faults (c : GlyphCache) : c.beginFlush.faults = c.faults := by
  unfold GlyphCache.beginFlush
  split <;> rfl

theorem cacheBoundary_faults (s : State) : s.cacheBoundary.cache.faults = s.cache.faults := by
  unfold State.cacheBoundary GlyphCache.atBoundary
  split
  · dsimp only
    split
    · exact putInForce_faults _
    · exact (beginFlush_faults _).trans (putInForce_faults _)
    · exact (beginFlush_faults _).trans (putInForce_faults _)
    · rfl
  · rfl

theorem judgeBand_faults (s : State) : s.judgeBand.cache.faults = s.cache.faults := by
  unfold State.judgeBand
  dsimp only
  (repeat' split) <;> rfl

theorem drawBand_faults (s : State) : s.drawBand.cache.faults = s.cache.faults := by
  unfold State.drawBand
  split
  · rfl
  · split
    · rfl
    · exact drawCells_faults _ _ _ _ _ _

theorem finishBand_faults (s : State) : s.finishBand.cache.faults = s.cache.faults := by
  unfold State.finishBand
  dsimp only
  split
  · exact (judgeBand_faults _).trans (drawBand_faults s)
  · exact drawBand_faults s

theorem runBands_faults (k : Nat) (s : State) : (s.runBands k).cache.faults = s.cache.faults := by
  induction k generalizing s with
  | zero => rfl
  | succ k ih =>
    unfold State.runBands
    dsimp only
    split
    · rw [ih, State.beginBand_keeps _ |>.2.2.2.2.1, cacheBoundary_faults, finishBand_faults]
    · exact finishBand_faults s

theorem dropWork_faults (s : State) : s.dropWork.cache.faults = s.cache.faults := by
  unfold State.dropWork State.leaveLookup
  split
  · rfl
  · dsimp only
    split <;> rfl

theorem startRebuild_faults (k : Nat) (s : State) : (s.startRebuild k).cache.faults = s.cache.faults := by
  have rebuilt (v : State) (m : SentMsg) : (v.rebuild m).cache.faults = v.cache.faults := by
    unfold State.rebuild
    split
    · rfl
    · dsimp only
      rw [finishBand_faults]
      exact (putInForce_faults _).trans (dropWork_faults v)
  have ordered (v : State) (m : SentMsg) : (v.orderRebuild m).cache.faults = v.cache.faults := by
    rcases orderRebuild_cases v m with ⟨-, e⟩ | ⟨-, e⟩ <;> rw [e]
    · exact cacheBoundary_faults v
    · exact (rebuilt _ m).trans (cacheBoundary_faults v)
  induction k generalizing s with
  | zero => rfl
  | succ k ih =>
    unfold State.startRebuild
    split
    · rfl
    · split
      · rfl
      · exact (ih _).trans (ordered s _)

theorem drawWaiting_cache (s : State) (f : Cell → Nat → Nat → List Nat) : (s.drawWaiting f).cache = s.cache := by
  unfold State.drawWaiting
  (repeat' split) <;> rfl

/-- A failed sub-block read counts one glyph fault. -/
theorem failSubBlock_faults {s : State} (h : s.cache.fill ≠ none) :
    s.failSubBlock.cache.faults = satAdd s.cache.faults 1 := by
  unfold State.failSubBlock
  split
  · rename_i e; exact absurd e h
  · dsimp only
    split
    · rw [runBands_faults, drawWaiting_cache]
    · split
      · rw [runBands_faults]
      · rfl

theorem settle_faults (old s : State) : (State.settle old s).cache.faults = s.cache.faults := by
  unfold State.settle
  split
  · rfl
  · have hi : s.settleImaging.cache.faults = s.cache.faults := by
      have e : s.settleImaging.cache = (s.startRebuild Config.sentMax).cacheBoundary.cache := by
        simp [State.settleImaging]
      rw [e, cacheBoundary_faults, startRebuild_faults]
    simpa [State.settleEngine, State.settleComposer] using hi

/-- SLEWs sent again leave the counts of failed transfers. -/
theorem resendSlews_failureCounts (k : Nat) (s : State) : (s.resendSlews k).counts.memFaults = s.counts.memFaults ∧
    (s.resendSlews k).counts.lastFault = s.counts.lastFault := by
  have one (s : State) (o : SentMsg) (m : Message) : (s.resend o m).counts.memFaults = s.counts.memFaults ∧
      (s.resend o m).counts.lastFault = s.counts.lastFault := by
    unfold State.resend
    dsimp only
    split <;> exact ⟨rfl, rfl⟩
  induction k generalizing s with
  | zero => exact ⟨rfl, rfl⟩
  | succ k ih =>
    unfold State.resendSlews
    split
    · split
      · exact ⟨(ih _).1.trans (one _ _ _).1, (ih _).2.trans (one _ _ _).2⟩
      · exact ⟨rfl, rfl⟩
    · exact ⟨rfl, rfl⟩

theorem settle_failureCounts (old s : State) : (State.settle old s).counts.memFaults = s.counts.memFaults ∧
    (State.settle old s).counts.lastFault = s.counts.lastFault := by
  unfold State.settle
  split
  · exact ⟨rfl, rfl⟩
  · have served (v : State) : v.serveBus.counts.memFaults = v.counts.memFaults ∧
        v.serveBus.counts.lastFault = v.counts.lastFault :=
      ⟨(congrArg DeviceCounts.memFaults (State.serveBus_counts v) :),
        (congrArg DeviceCounts.lastFault (State.serveBus_counts v) :)⟩
    have before : s.settleImaging.settleComposer.holdAtBoundary.lookAtGate.counts = s.counts := by
      simp [State.settleComposer, State.settleImaging]
    rw [(served _).1, (served _).2, (State.settleStatus_keeps _ _).2.2.2.2.2.2.2.2.1, State.settleEngine,
      (resendSlews_failureCounts _ _).1, (resendSlews_failureCounts _ _).2, before]
    exact ⟨rfl, rfl⟩

end Sys2Proof.Machine
end

section
/-! SUPPORT. A transfer that fails: what its end, its count and its requester's action leave. -/

namespace Sys2Proof.Machine

/-! ## The failure, before its requester acts (R157, R158) -/

/-- `f` is `s` with the transfer `x` failed and counted, at the time of its failure. -/
structure State.FailedOf (s : State) (x : Transfer) (f : State) : Prop where
  setting : f.regs.SameSetting s.regs
  sc : f.sc = s.sc
  form : f.form = s.form
  store : f.store = s.store
  builder : f.builder = s.builder
  cache : f.cache = s.cache
  compState : f.comp.state = s.comp.state
  waits : f.comp.waits = s.comp.waits
  engineState : f.engine.state = s.engine.state
  holdOwed : f.engine.holdOwed = s.engine.holdOwed
  gate : f.gate = s.gate
  refusalWaits : f.refusalWaits = s.refusalWaits
  items : f.recordItems = s.recordItems
  counts : f.counts = { s.counts with memFaults := satAdd s.counts.memFaults 1, lastFault := x.request.addr }
  issued : f.writer.issued = s.writer.issued
  asked : ¬(x.request.kind.isDeviceRecord = true ∧ s.writer.failureIssued = true) →
    f.Waits ⟨.deviceRecord, false, false, false⟩
  unasked : x.request.kind.isDeviceRecord = true ∧ s.writer.failureIssued = true → f.writer = s.writer
  hostMem : f.hostMem = s.memAfterFailure x

/-- The transfer ends and is counted (R158, R159). -/
theorem countFailure_failedOf (s : State) (x : Transfer) :
    s.FailedOf x ({ s.endTransfer x.who with hostMem := s.memAfterFailure x }.countFailure x) := by
  by_cases h : x.request.kind.isDeviceRecord = true ∧ s.writer.failureIssued = true
  · rw [State.countFailure, if_pos (by exact h)]
    exact ⟨.refl _, rfl, rfl, rfl, rfl, rfl, rfl, rfl, rfl, rfl, rfl, rfl, rfl, rfl, rfl, fun k => absurd h k, fun _ => rfl, rfl⟩
  · rw [State.countFailure, if_neg (by exact h)]
    refine ⟨.refl _, rfl, rfl, rfl, rfl, rfl, rfl, rfl, rfl, rfl, rfl, rfl, rfl, rfl, rfl, fun _ => ?_, fun k => absurd k h, rfl⟩
    exact State.ask_waits { s with writer := s.writer } ⟨.deviceRecord, false, false, false⟩

/-- Time that passes moves timers alone. -/
theorem State.FailedOf.elapsed {s f : State} {x : Transfer} {d : Nat} (h : (s.elapse d).FailedOf x f) : s.FailedOf x f :=
  ⟨h.setting.trans ⟨rfl, rfl, rfl, rfl, rfl, rfl⟩, h.sc, h.form, h.store, h.builder, h.cache, h.compState, h.waits,
    h.engineState, h.holdOwed, h.gate, h.refusalWaits, h.items, h.counts, h.issued, h.asked, h.unasked, h.hostMem⟩

/-- BUS_ERROR and LIMIT_TIMER_EXPIRY count the failure, and its requester acts if it is still wanted (R157, R158). -/
theorem failure_acts {s : State} {c : Instr} {x : Transfer} (hb : s.regs.resetBusy = false) (hx : s.mtu.inFlight = some x)
    (hc : c = .busError ∨ (c = .limitTimerExpiry ∧ s.mtu.limit ≠ none)) :
    ∃ f, s.FailedOf x f ∧ (c = .busError → f.now = s.now) ∧
      exec c s = .next (State.settle s (if x.wanted then failureOf x.request.kind f else f)) := by
  have acts (e : State) (heb : e.regs.resetBusy = false) (he : e.mtu.inFlight = some x) :
      e.failed failureOf = if x.wanted then failureOf x.request.kind
        ({ e.endTransfer x.who with hostMem := e.memAfterFailure x }.countFailure x)
        else { e.endTransfer x.who with hostMem := e.memAfterFailure x }.countFailure x := by
    unfold State.failed
    rw [he]
    dsimp only
    rw [heb]
    rfl
  rcases hc with rfl | ⟨rfl, hl⟩
  · refine ⟨_, countFailure_failedOf s x, fun _ => by simp [State.countFailure, apply_ite State.now, State.endTransfer], ?_⟩
    exact congrArg (fun v => Host.Outcome.next (State.settle s v)) (acts s hb hx)
  · obtain ⟨r, hr⟩ := Option.ne_none_iff_exists'.mp hl
    refine ⟨_, (countFailure_failedOf (s.elapse r) x).elapsed, (by intro h; cases h), ?_⟩
    have e : exec .limitTimerExpiry s = .next (State.settle s ((s.elapse r).failed failureOf)) := by
      change execLimitTimerExpiry s = _
      rw [execLimitTimerExpiry, hr]
    rw [e, acts (s.elapse r) hb hx]

/-! ## The requester's action (R158) -/

theorem failureOf_keeps (k : TransferKind) (f : State) : (failureOf k f).counts = f.counts ∧
    (failureOf k f).hostMem = f.hostMem ∧ (failureOf k f).now = f.now := by
  cases k <;> simp [failureOf, State.failHeader, State.failDescriptor, State.failFlushDirectory, State.endWrite]

/-- The actions that raise MEMFAULT (R158). -/
theorem failureOf_memfault {k : TransferKind} {f : State} (hb : f.regs.resetBusy = false)
    (h : k = .areaHeader ∨ (∃ n, k = .descriptor n) ∨ (∃ n, k = .openRead n) ∨ k = .fontDirectory ∨ k = .flushDirectory ∨
      (∃ n, k = .descriptorWrite n) ∨ (∃ n, k = .requestField n) ∨ k = .deviceRecord ∨ k = .deviceRecordHigh) :
    (failureOf k f).regs.events.getLsbD 10 = true := by
  have raised : (f.raise memfaultBit).regs.events.getLsbD 10 = true := raise_bit hb memfaultBit_bit
  have after {u : State} (hu : (f.raise memfaultBit).Undisturbed u) : u.regs.events.getLsbD 10 = true :=
    hu.raises.events 10 raised
  rcases h with rfl | ⟨n, rfl⟩ | ⟨n, rfl⟩ | rfl | rfl | ⟨n, rfl⟩ | ⟨n, rfl⟩ | rfl | rfl
  · exact after (finishScan_undisturbed _)
  · exact after (scanAfter_undisturbed _ n)
  · exact after (scanAfter_undisturbed _ n)
  · exact after (endScan_undisturbed _)
  · exact after (.of_eq rfl rfl)
  · exact after (descriptorWritten_undisturbed _ n)
  · exact after (requestFieldWritten_undisturbed _ n true)
  · exact after (.of_eq rfl rfl)
  · exact after (.of_eq rfl rfl)

/-! ## Owed writes stay owed (R158, R160) -/

theorem finishScan_keepsOwed (s : State) : s.KeepsOwed s.finishScan := .of_eq (by simp)

theorem endScan_keepsOwed (s : State) : s.KeepsOwed s.endScan := by
  have asked : s.KeepsOwed s.recordAsked := by
    unfold State.recordAsked
    split
    · exact (State.KeepsOwed.of_eq rfl).ask _
    · exact .refl s
  rw [endScan_eq]
  exact asked.trans (finishScan_keepsOwed _)

theorem scanAfter_keepsOwed (s : State) (n : Fin 8) : s.KeepsOwed (s.scanAfter n) := by
  have tail : s.KeepsOwed s.scanTail := by
    unfold State.scanTail
    split
    · exact .of_eq rfl
    · exact endScan_keepsOwed s
  unfold State.scanAfter
  split
  · exact finishScan_keepsOwed s
  · split
    · split
      · exact .of_eq rfl
      · exact tail
    · exact tail

theorem faultInactive_keepsOwed (s : State) (n : Fin 8) (c : FaultCode) : s.KeepsOwed (s.faultInactive n c) :=
  .after (enterState_keepsOwed _ n .faulted) rfl

theorem takeFill_keepsOwed (s : State) (n : Fin 8) (p : Nat) : s.KeepsOwed (s.takeFill n p) := by
  have stored : s.KeepsOwed (s.storeFill n p) := .of_eq rfl
  have woken : s.KeepsOwed ((s.storeFill n p).enterState n .queued) := stored.trans (enterState_keepsOwed _ n .queued)
  rcases takeFill_cases s n p with ⟨-, -, -, e⟩ | ⟨-, -, -, e⟩ | ⟨-, -, -, e⟩ | ⟨-, -, e⟩ <;> rw [e]
  · exact woken.before rfl
  · exact woken
  · exact stored.before rfl
  · exact stored

theorem checkFill_keepsOwed (s : State) (n : Fin 8) (p : Nat) : s.KeepsOwed (s.checkFill n p) := by
  rcases checkFill_cases s n p with ⟨-, e⟩ | ⟨-, -, e⟩ | ⟨-, -, e⟩ | ⟨-, -, e⟩ <;> rw [e]
  · exact .refl s
  · exact takeFill_keepsOwed s n p
  · exact faultInactive_keepsOwed s n .badFill
  · exact faultActive_keepsOwed s n .badFill

theorem actionEnds_keepsOwed (s : State) : s.KeepsOwed s.actionEnds := by
  unfold State.actionEnds
  split
  · rename_i n x _
    have taken : s.KeepsOwed (s.takeFields n x) :=
      (checkFill_keepsOwed s n x.fill).before (State.takeInterval_keeps _ n x.flush).2.2.2.2.2.2.1
    exact taken.trans (scanAfter_keepsOwed _ n)
  · exact .refl s

/-- A write that waits does so with whatever is issued. -/
theorem State.Waits.congr_waiting {s t : State} {o : Owed} (h : s.Waits o) (k : t.writer.waiting = s.writer.waiting) :
    t.Waits o := by
  rwa [State.Waits, k]

theorem descriptorWritten_waits {s : State} {o : Owed} (h : s.Waits o) (n : Fin 8) : (s.descriptorWritten n).Waits o := by
  unfold State.descriptorWritten
  split
  · exact h
  · dsimp only
    have ended : s.endWrite.Waits o := h.congr_waiting rfl
    have raised (b : Bool) : (if b then s.endWrite.raise (streamBit n) else s.endWrite).Waits o := by
      split
      · exact ended.congr (by simp)
      · exact ended
    split
    · exact (raised _).ask _
    · exact raised _

theorem requestFieldWritten_owes {s : State} {o : Owed} (h : s.Waits o) (n : Fin 8) (c : Bool) :
    (s.requestFieldWritten n c).Owes o := by
  have ended : s.endWrite.Waits o := h.congr_waiting rfl
  have raised : (s.endWrite.raise (streamBit n)).Waits o := ended.congr (by simp)
  exact actionEnds_keepsOwed _ o (raised.congr (t := State.modStream _ n _) rfl).owes

/-- A write that waits is still owed when the requester of a failed transfer has acted. -/
theorem failureOf_owes (k : TransferKind) {f : State} {o : Owed} (h : f.Waits o) : (failureOf k f).Owes o := by
  have raised : (f.raise memfaultBit).Waits o := h.congr (by simp)
  have ended : ((f.raise memfaultBit).endWrite).Waits o := raised.congr_waiting rfl
  cases k with
  | areaHeader => exact finishScan_keepsOwed _ o raised.owes
  | descriptor n => exact scanAfter_keepsOwed _ n o raised.owes
  | openRead n => exact scanAfter_keepsOwed _ n o raised.owes
  | ring n => exact h.owes.congr rfl
  | discardRing n => exact faultInactive_keepsOwed f n .memRead o h.owes
  | fontDirectory => exact endScan_keepsOwed _ o raised.owes
  | formRecord => exact endLoad_keepsOwed f .formRead o h.owes
  | vft => exact endLoad_keepsOwed f .formRead o h.owes
  | translate => exact endLoad_keepsOwed f .formRead o h.owes
  | subBlock => exact h.owes.congr (by simp [failureOf])
  | flushDirectory => exact raised.owes.congr rfl
  | descriptorWrite n => exact (descriptorWritten_waits raised n).owes
  | requestField n => exact requestFieldWritten_owes raised n true
  | deviceRecord => exact ended.owes
  | deviceRecordHigh => exact ended.owes

end Sys2Proof.Machine
end

section
/-! SUPPORT. What each requester's action on a failure comes to, through the settlement behind it. -/

namespace Sys2Proof.Machine

/-! ## Settlements in which a failed ring read may come to a fault (R43) -/

/-- The streams after a settlement in which the Composer ends no wait and no form check is made: those after the fault
of bytes found missing, if it falls, and the grant. -/
theorem settle_memRead (old : State) {u : State} (hb : u.regs.resetBusy = false) (hw : u.comp.waits = false)
    (hn : u.form.noCheck = true) : ∃ v : State, v.sc = u.sc ∧ v.comp = u.comp ∧ v.regs = u.regs ∧
      (State.settle old u).SameStreams v.memReadFault.grant := by
  have hi : u.settleImaging = (u.startRebuild Config.sentMax).cacheBoundary :=
    State.checkForm_composed (by simpa using hn)
  have hr : u.settleImaging.resumeWait = u.settleImaging := State.resumeWait_composed (by rw [hi]; simpa using hw)
  have hs : State.settle old u =
      (State.settleStatus old u.settleImaging.memReadFault.grant.settleEngine).serveBus := by
    rw [State.settle, if_neg (by simp [hb]), State.settleComposer, hr]
  refine ⟨u.settleImaging, by rw [hi]; simp, by rw [hi]; simp, by rw [hi]; simp, ?_⟩
  rw [hs]
  exact (State.serveBus_same _).trans ((State.settleStatus_same _ _).trans (.of_eq (by simp [State.settleEngine])))

theorem memReadFault_clearOwed (s : State) (m : Fin 8) :
    (s.memReadFault.stream m).clearOwed = (s.stream m).clearOwed := by
  unfold State.memReadFault
  split
  · rename_i n _
    split
    · have h := (faultActive_leaves s n .memRead).1 m
      refine (congrArg StreamRec.clearOwed h :).trans ?_
      split <;> rfl
    · rfl
  · rfl

theorem settle_clearOwed (old : State) {u : State} (hb : u.regs.resetBusy = false) (hw : u.comp.waits = false)
    (hn : u.form.noCheck = true) (m : Fin 8) :
    ((State.settle old u).stream m).clearOwed = (u.stream m).clearOwed := by
  obtain ⟨v, hv, -, -, h⟩ := settle_memRead old hb hw hn
  refine (congrArg StreamRec.clearOwed (h.core m) :).trans ?_
  exact (congrArg StreamRec.clearOwed (grant_stream v.memReadFault m).1 :).trans
    ((memReadFault_clearOwed v m).trans (by rw [State.stream_congr hv m]))

/-! ## Reads of the Stream Reader -/

/-- A failed ring read stays noted while the Composer takes no record (R43). -/
theorem settle_readFailed (old : State) {u : State} (hb : u.regs.resetBusy = false) (hw : u.comp.waits = false)
    (hn : u.form.noCheck = true) (hr : u.comp.state ≠ .ready) :
    (State.settle old u).sc.readFailed = u.sc.readFailed := by
  obtain ⟨v, hv, hvc, -, h⟩ := settle_memRead old hb hw hn
  have needs (n : Fin 8) : v.needsFailed n = false := by simp [State.needsFailed, hvc, hr]
  have e : v.memReadFault = v := by
    unfold State.memReadFault
    split
    · rw [if_neg (by simp [needs])]
    · rfl
  have g : v.grant.sc.readFailed = v.sc.readFailed := by
    unfold State.grant
    split
    · split <;> rfl
    · rfl
  rw [h.readFailed, e, g, hv]

/-- With no record in hand a failed ring read faults the ACTIVE stream, take staying at the record (R43). -/
theorem settle_ringFault (old : State) {u : State} {n : Fin 8} (hb : u.regs.resetBusy = false) (hw : u.comp.waits = false)
    (hn : u.form.noCheck = true) (hf : u.sc.readFailed = true) (hr : u.comp.state = .ready) (hrun : u.regs.run = true)
    (ho : u.owner = some n) (hq : n ∉ u.sc.queue) (hbuf : u.sc.buffer = []) (h8 : 8 ≤ (u.stream n).span)
    (hroom : 8 ≤ (u.stream n).ringSize - (u.stream n).take) :
    ((State.settle old u).stream n).state = .faulted ∧ ((State.settle old u).stream n).fault = .memRead ∧
      ((State.settle old u).stream n).take = (u.stream n).take := by
  obtain ⟨v, hv, hvc, hvr, h⟩ := settle_memRead old hb hw hn
  have hvn : v.stream n = u.stream n := State.stream_congr hv n
  have absent : (u.stream n).atTake [] = .absent := by
    simp [StreamRec.atTake, Nat.not_lt.mpr hroom]
  have needs : v.needsFailed n = true := by
    simp [State.needsFailed, hv, hvc, hvr, hvn, hf, hr, hrun, hbuf, h8, absent]
  have e : v.memReadFault = v.faultActive n .memRead := by
    unfold State.memReadFault
    rw [State.owner_congr hv, ho]
    exact if_pos needs
  obtain ⟨hbare, hqueue, -⟩ := faultActive_leaves v n .memRead
  have hn' := hbare n
  rw [if_pos rfl, hvn] at hn'
  have hg := ((grant_stream v.memReadFault n).2 (by rw [e, hqueue, hv]; exact hq)).1
  have hcore := h.core n
  rw [hg, e] at hcore
  exact ⟨(congrArg StreamRec.state hcore :).trans (congrArg StreamRec.state hn' :),
    (congrArg StreamRec.fault hcore :).trans (congrArg StreamRec.fault hn' :),
    (congrArg StreamRec.take hcore :).trans (congrArg StreamRec.take hn' :)⟩

/-- A failed discard read faults its stream (R43). -/
theorem settle_discardFault (old : State) {f : State} (n : Fin 8) (hb : f.regs.resetBusy = false) (hc : f.Composed) :
    ((State.settle old (f.faultInactive n .memRead)).stream n).state = .faulted ∧
      ((State.settle old (f.faultInactive n .memRead)).stream n).fault = .memRead := by
  obtain ⟨h1, h2, h3, -⟩ := faultInactive_leaves f n .memRead
  have hu : (f.faultInactive n .memRead).Composed :=
    ⟨by simpa using hc.waits, h3.trans hc.readFailed, by simpa using hc.noCheck⟩
  obtain ⟨hcore, -⟩ := settle_unqueued old (by simpa using hb) hu (m := n) (by rw [h2]; simp)
  rw [h1, if_pos rfl] at hcore
  exact ⟨(congrArg StreamRec.state hcore :), (congrArg StreamRec.fault hcore :)⟩

/-- A failed form read ends the load and faults the stream at its JOB (R77). -/
theorem settle_loadFault (old : State) {f : State} {n : Fin 8} (hb : f.regs.resetBusy = false) (ho : f.owner = some n)
    (hq : n ∉ f.sc.queue) :
    ((State.settle old (f.endLoad .formRead)).stream n).state = .faulted ∧
      ((State.settle old (f.endLoad .formRead)).stream n).fault = .formRead ∧
      (State.settle old (f.endLoad .formRead)).form = .empty := by
  have ho' : { f with form := .empty }.owner = some n := (State.owner_congr rfl).trans ho
  have e : f.endLoad .formRead = { f with form := .empty }.faultActive n .formRead := by
    simp [State.endLoad, ho']
  obtain ⟨hbare, hqueue, -⟩ := faultActive_leaves { f with form := .empty } n .formRead
  have hn := hbare n
  rw [if_pos rfl, ← e] at hn
  have hc : (f.endLoad .formRead).Composed := e ▸ faultActive_composed _ n .formRead
  have hform : (f.endLoad .formRead).form = .empty := by
    rw [e, faultActive_form]
    exact (abandonLoad_form _).2.2 rfl
  have hub : (f.endLoad .formRead).regs.resetBusy = false := by simpa using hb
  obtain ⟨hcore, -⟩ := settle_unqueued old hub hc (m := n) (by rw [e, hqueue]; exact hq)
  exact ⟨(congrArg StreamRec.state hcore :).trans (congrArg StreamRec.state hn :),
    (congrArg StreamRec.fault hcore :).trans (congrArg StreamRec.fault hn :),
    (State.settle_composed old hub hc).2.1.trans hform⟩

/-! ## The area header's read (R10) -/

theorem settle_headerFailed (old f : State) (h : f.sc.scan ≠ .scanningOwed) :
    (State.settle old f.failHeader).sc.scan = .noScan ∧
      (State.settle old f.failHeader).sc.streamCount = f.sc.streamCount ∧
      (State.settle old f.failHeader).sc.dirOwed = f.sc.dirOwed ∧
      (State.settle old f.failHeader).sc.recordOwed = f.sc.recordOwed := by
  have hsc : (f.raise memfaultBit).sc = f.sc := by simp
  obtain ⟨e, -⟩ := finishScan_ends (s := f.raise memfaultBit) (by rw [hsc]; exact h)
  have hv : (State.settle old f.failHeader).sc.view = f.failHeader.sc.view := State.settle_view _ _
  have hfail : f.failHeader.sc = { f.sc with phase := .none, cut := false, scan := .noScan } := by
    rw [State.failHeader, e, hsc]
  rw [hfail] at hv
  exact ⟨(congrArg ScanView.scan hv :), (congrArg ScanView.streamCount hv :), (congrArg ScanView.dirOwed hv :),
    (congrArg ScanView.recordOwed hv :)⟩

end Sys2Proof.Machine
end

section
/-! SUPPORT. Failed writes, failed sub-block reads, and what a failed write leaves of host memory. -/

namespace Sys2Proof.Machine

/-! ## Host memory (log 5) -/

/-- The bytes of a run that does not wrap are unknown once they are forgotten. -/
theorem Memory.read_forgetRun {m : Memory} (hm : Memory.wf m = true) {a : Word32} {n : Nat}
    (h : a.toNat + n ≤ 2 ^ 32) : ∀ k < n, Memory.read (Memory.forgetRun m a n) (a.toNat + k) = none := by
  induction n generalizing m a with
  | zero => intro k hk; exact absurd hk (Nat.not_lt_zero k)
  | succ n ih =>
    intro k hk
    have rest (j : Nat) (hj : j < n) : (addrAt (a + 1) j).toNat = a.toNat + (j + 1) := by
      rw [← addrAt_succ]
      exact addrAt_toNat (by omega)
    have hwf := Memory.wf_forget hm a.toNat
    cases k with
    | zero =>
      rw [Memory.forgetRun, Memory.read_forgetRun_out hwf _ _ _ fun j hj => by rw [rest j hj]; omega]
      exact Memory.read_forget hm _
    | succ k =>
      have h1 : (a + 1).toNat = a.toNat + 1 := by
        rw [← addrAt_zero (a + 1)]
        exact rest 0 (by omega)
      have e := ih hwf (a := a + 1) (by omega) k (by omega)
      rw [h1, Nat.add_right_comm] at e
      exact e

/-! ## A request field write that fails (R21) -/

theorem checkFill_calm {s : State} (hw : s.comp.waits = false) (hn : s.form.noCheck = true) (n : Fin 8) (p : Nat) :
    (s.checkFill n p).comp.waits = false ∧ (s.checkFill n p).form.noCheck = true := by
  rcases checkFill_cases s n p with ⟨-, e⟩ | ⟨-, -, e⟩ | ⟨-, -, e⟩ | ⟨-, -, e⟩ <;> rw [e]
  · exact ⟨hw, hn⟩
  · refine ⟨?_, by simpa using hn⟩
    rw [takeFill_comp]
    split
    · rfl
    · exact hw
  · exact ⟨by simpa using hw, by simpa using hn⟩
  · exact ⟨(faultActive_composed s n .badFill).waits, (faultActive_composed s n .badFill).noCheck⟩

/-- The end of a request's action leaves clear owed, and the Composer and the form without a step of their own. -/
theorem actionEnds_calm {s : State} (hw : s.comp.waits = false) (hn : s.form.noCheck = true) :
    s.actionEnds.comp.waits = false ∧ s.actionEnds.form.noCheck = true ∧
      ∀ m, (s.actionEnds.stream m).clearOwed = (s.stream m).clearOwed := by
  unfold State.actionEnds
  split
  · rename_i n x _
    have hu := takeFields_taken s n x
    obtain ⟨h1, h2⟩ := checkFill_calm hw hn n x.fill
    obtain ⟨g, hg, -⟩ := hu.comp
    refine ⟨by rw [hg]; exact h1, by rw [hu.form]; exact h2, fun m => ?_⟩
    rw [hu.stream]
    split
    · exact checkFill_clearOwed s n x.fill m
    · exact checkFill_clearOwed s n x.fill m
  · exact ⟨hw, hn, fun _ => rfl⟩

theorem settle_requestFieldFailed (old : State) {f : State} (n : Fin 8) (hb : f.regs.resetBusy = false)
    (hw : f.comp.waits = false) (hn : f.form.noCheck = true) :
    (State.settle old (failureOf (.requestField n) f)).regs.events.getLsbD n.val = true ∧
      ((State.settle old (failureOf (.requestField n) f)).stream n).clearOwed = true := by
  have hrb : (f.raise memfaultBit).endWrite.regs.resetBusy = false :=
    (raise_undisturbed f memfaultBit).setting.resetBusy.trans hb
  have hbit : (((f.raise memfaultBit).endWrite.raise (streamBit n)).regs.events).getLsbD n.val = true :=
    raise_bit hrb (streamBit_bit n)
  have hvb : ((f.raise memfaultBit).endWrite.raise (streamBit n)).regs.resetBusy = false :=
    (raise_undisturbed _ (streamBit n)).setting.resetBusy.trans hrb
  have hvw : ((f.raise memfaultBit).endWrite.raise (streamBit n)).comp.waits = false := by
    simpa [State.endWrite] using hw
  have hvn : ((f.raise memfaultBit).endWrite.raise (streamBit n)).form.noCheck = true := by
    simpa [State.endWrite] using hn
  have e : failureOf (.requestField n) f = (((f.raise memfaultBit).endWrite.raise (streamBit n)).modStream n fun r =>
      { r with clearOwed := true }).actionEnds := rfl
  rw [e]
  generalize (f.raise memfaultBit).endWrite.raise (streamBit n) = v at *
  obtain ⟨h1, h2, h3⟩ := actionEnds_calm (s := v.modStream n fun r => { r with clearOwed := true }) hvw hvn
  have hu := actionEnds_undisturbed (v.modStream n fun r => { r with clearOwed := true })
  refine ⟨(settle_undisturbed old _).raises.events _ (hu.raises.events _ hbit), ?_⟩
  rw [settle_clearOwed old (hu.setting.resetBusy.trans hvb) h1 h2 n, h3, State.stream_modStream_same]

/-! ## A device record write that fails, when a failure had asked for it (R13, R159) -/

/-- The Status Writer owes no device record write. -/
def StatusWriter.NoRecord (w : StatusWriter) : Prop := ∀ o ∈ w.waiting ++ w.issued.toList, o.kind ≠ .deviceRecord

theorem noRecord_not_owes {s : State} (h : s.writer.NoRecord) : ¬s.Owes ⟨.deviceRecord, false, false, false⟩ :=
  fun ⟨w, hw, hk, _⟩ => h w hw hk

theorem mem_askOwed {o p : Owed} {l : List Owed} (h : p ∈ askOwed o l) : p ∈ l ∨ p.kind = o.kind := by
  induction l with
  | nil => exact .inr (by rw [List.mem_singleton.mp h])
  | cons a l ih =>
    unfold askOwed at h
    split at h
    · rename_i hk
      rcases List.mem_cons.mp h with rfl | h
      · exact .inr hk
      · exact .inl (List.mem_cons_of_mem _ h)
    · rcases List.mem_cons.mp h with rfl | h
      · exact .inl List.mem_cons_self
      · exact (ih h).imp (List.mem_cons_of_mem _) id

theorem noRecord_ask {s : State} (h : s.writer.NoRecord) {o : Owed} (ho : o.kind ≠ .deviceRecord) :
    (s.ask o).writer.NoRecord := by
  intro p hp
  rcases List.mem_append.mp hp with hp | hp
  · rcases mem_askOwed hp with hp | hk
    · exact h p (List.mem_append_left _ hp)
    · rw [hk]; exact ho
  · exact h p (List.mem_append_right _ hp)

theorem atBoundary_counts (c : GlyphCache) : c.atBoundary.hits = c.hits ∧ c.atBoundary.misses = c.misses := by
  rcases atBoundary_cases c with ⟨-, e⟩ | ⟨-, e⟩ | ⟨-, e⟩ <;> rw [e] <;> simp

theorem cacheBoundary_counts (s : State) :
    s.cacheBoundary.cache.hits = s.cache.hits ∧ s.cacheBoundary.cache.misses = s.cache.misses := by
  unfold State.cacheBoundary
  split
  · exact atBoundary_counts s.cache
  · exact ⟨rfl, rfl⟩

/-- A settlement asks for no device record write where nothing that it carries has changed or is due (R100, R151,
R181). -/
theorem settle_noRecord (old : State) {u : State} (hb : u.regs.resetBusy = false) (hc : u.Composed)
    (hr : u.refusalWaits = false) (hh : u.engine.holdOwed = .none) (hg : u.gate = u.engine.state)
    (hi : u.recordItems = old.recordItems) (hs : u.boundaryCounts = u.counts.shown) (h : u.writer.NoRecord) :
    (State.settle old u).writer.NoRecord := by
  have hg1 : u.settleImaging = u.cacheBoundary := by
    rw [State.settleImaging, State.startRebuild_calm hr, State.checkForm_composed (by simpa using hc.noCheck)]
  have hcc : u.cacheBoundary.Composed := ⟨by simpa using hc.waits, by simpa using hc.readFailed, by simpa using hc.noCheck⟩
  have hhold : u.cacheBoundary.grant.holdAtBoundary = u.cacheBoundary.grant := by
    rcases holdAtBoundary_cases u.cacheBoundary.grant with e | ⟨-, -, ⟨k, -⟩ | ⟨k, -⟩⟩
    · exact e
    · simp [hh] at k
    · simp [hh] at k
  have hgate : u.cacheBoundary.grant.lookAtGate = u.cacheBoundary.grant := by
    refine lookAtGate_agrees ?_
    rw [State.gate_congr (t := u) (by simp) (by simp), hg]
    simp
  have hv : u.settleImaging.settleComposer.settleEngine = u.cacheBoundary.grant := by
    rw [hg1, State.settleComposer_composed hcc, State.settleEngine, hhold, hgate]
    exact State.resendSlews_calm (by simpa [State.refusalWaits] using hr) _
  have he : State.settle old u = (State.settleStatus old u.cacheBoundary.grant).serveBus := by
    rw [State.settle, if_neg (by simp [hb]), hv]
  have items : u.cacheBoundary.grant.recordItems = old.recordItems := by
    rw [← hi]
    simp [State.recordItems, State.slot]
  have counts : u.cacheBoundary.grant.boundaryCounts = u.cacheBoundary.grant.counts.shown := by
    simpa [State.boundaryCounts, cacheBoundary_faults, cacheBoundary_counts] using hs
  rw [he]
  refine serveBus_writer (P := StatusWriter.NoRecord) (settleStatus_writer (P := StatusWriter.NoRecord) old
    (by simpa using h) (fun v n e r hv => noRecord_ask hv (by simp)) fun hne => ?_) fun w o rest f g hi hw hP => ?_
  · rcases hne with k | ⟨-, k⟩
    · exact absurd items k
    · exact absurd counts k
  · intro p hp
    refine hP p ?_
    rw [hw, hi]
    simpa [or_comm] using hp

end Sys2Proof.Machine
end

section
/-! SUPPORT. Failed sub-block reads, and the statement about failed transfers. -/

namespace Sys2Proof.Machine

/-! ## A failed sub-block read (R147, R150) -/

theorem addMark_ne_nil (key : Nat) (m : DotMap) : addMark key m ≠ [] := by
  cases m with
  | nil => exact List.cons_ne_nil _ _
  | cons d m =>
    unfold addMark
    (repeat' split) <;> exact List.cons_ne_nil _ _

theorem addMarks_ne_nil (keys : List Nat) {m : DotMap} (h : m ≠ []) : addMarks keys m ≠ [] := by
  induction keys generalizing m with
  | nil => exact h
  | cons k keys ih => exact ih (addMark_ne_nil k m)

/-- A band with all its cells drawn and some dot set is offered, behind no slew (R129). -/
theorem runBands_offers {s : State} {w : BandWork} (hw : s.builder.work = some w) (hc : w.cells = []) (hd : w.dots ≠ [])
    (hr : w.rebuild = none) (hsl : s.builder.slew = none) (k : Nat) :
    s.runBands (k + 1) = { s with builder := { s.builder with
      state := .offering, work := none, nextRow := w.last
      offer := [s.bandMessage w.slot w.first w.last w.dots ((s.slot w.slot).marks w.first w.last)] } } := by
  have hdraw : s.drawBand = { s with builder := { s.builder with state := .building } } := by
    unfold State.drawBand
    rw [hw]
    dsimp only
    split
    · rename_i e; rw [hc] at e; cases e
    · rw [hc]
      obtain ⟨slot, first, last, dots, cells, rebuild⟩ := w
      obtain rfl : cells = [] := hc
      simp [drawCells, ← hw]
  have hfinish : s.finishBand = { s with builder := { s.builder with
      state := .offering, work := none, nextRow := w.last
      offer := [s.bandMessage w.slot w.first w.last w.dots ((s.slot w.slot).marks w.first w.last)] } } := by
    have hne : w.dots.isEmpty = false := by simpa using hd
    rw [State.finishBand, hdraw]
    simp [State.judgeBand, hw, hr, hne, State.offerFor, hsl, State.bandMessage, State.slot]
  rw [State.runBands, hfinish]
  simp

/-- The last cell of a band, drawn as the fault box, ends the band, which is offered. -/
theorem failSubBlock_draws {s : State} {f : Fill} {w : BandWork} {cell : Cell} (hf : s.cache.fill = some f)
    (hfw : f.wanted = true) (hw : s.builder.work = some w) (hcell : w.cells = [cell]) (hr : w.rebuild = none)
    (hsl : s.builder.slew = none) (hd : w.dots ≠ []) :
    s.failSubBlock.cache = { s.cache with fill := none, faults := satAdd s.cache.faults 1 } ∧
      s.failSubBlock.builder = { s.builder with
        state := .offering, work := none, nextRow := w.last
        offer := [s.bandMessage w.slot w.first w.last (addMarks (boxFor s.directory cell w.first w.last) w.dots)
          ((s.slot w.slot).marks w.first w.last)] } := by
  have hdraw : { s with cache := { s.cache with fill := none, faults := satAdd s.cache.faults 1 } }.drawWaiting
      (boxFor s.directory) = { s with
        cache := { s.cache with fill := none, faults := satAdd s.cache.faults 1 }
        builder := { s.builder with
          state := .building
          work := some { w with dots := addMarks (boxFor s.directory cell w.first w.last) w.dots, cells := [] } } } := by
    simp [State.drawWaiting, hw, hcell]
  have e : s.failSubBlock = ({ s with cache := { s.cache with fill := none, faults := satAdd s.cache.faults 1 } }.drawWaiting
      (boxFor s.directory)).runBands bandFuel := by
    simp [State.failSubBlock, hf, hfw]
  rw [e, hdraw, show bandFuel = 127 + 1 from rfl, runBands_offers
    (w := { w with dots := addMarks (boxFor s.directory cell w.first w.last) w.dots, cells := [] })
    (by rfl) rfl (addMarks_ne_nil _ hd) hr (by exact hsl) 127]
  exact ⟨rfl, rfl⟩

/-- A fill given up only ends. -/
theorem failSubBlock_givenUp {s : State} {f : Fill} (hf : s.cache.fill = some f) (hfw : f.wanted = false)
    (ha : s.atBoundary = true) :
    s.failSubBlock = { s with cache := { s.cache with fill := none, faults := satAdd s.cache.faults 1 } } := by
  have hst : s.builder.state ≠ .fillWait := by
    rcases (atBoundary_iff s).mp ha with h | h <;> rw [h] <;> exact nofun
  simp [State.failSubBlock, hf, hfw, hst]

theorem settle_subBlockDraws (old : State) {s : State} {f : Fill} {w : BandWork} {cell : Cell} {e : Entry}
    (hb : s.regs.resetBusy = false) (hrw : s.refusalWaits = false) (hf : s.cache.fill = some f) (hfw : f.wanted = true)
    (hw : s.builder.work = some w) (hcell : w.cells = [cell]) (hr : w.rebuild = none) (hsl : s.builder.slew = none)
    (hd : w.dots ≠ []) (hfl : s.cache.flush = .none) (has : s.cache.aside = none) (he : (s.slot w.slot).entry = some e)
    (hm : (s.slot w.slot).mark = false) :
    let t := State.settle old s.failSubBlock
    let font := s.directory.font (s.directory.drawing cell.typeface)
    t.cache.fill = none ∧ t.cache.sets = s.cache.sets ∧ t.cache.hits = s.cache.hits ∧ t.cache.misses = s.cache.misses ∧
      t.builder.state = .offering ∧ t.builder.work = none ∧ t.builder.nextRow = w.last ∧ t.builder.offer = [{
        slot := some w.slot
        row := w.first
        count := w.last - w.first
        body := .band (addMarks (cellDots font.width font.height cell w.first w.last (boxDot font.width font.height)) w.dots)
        marks := ⟨decide (w.first = 0), decide (w.last = e.last), false⟩
        strobe := some (s.slot w.slot).copy.strobe }] := by
  obtain ⟨h1, h2⟩ := failSubBlock_draws hf hfw hw hcell hr hsl hd
  have hub : s.failSubBlock.regs.resetBusy = false := by simpa using hb
  have hur : s.failSubBlock.refusalWaits = false := by simpa [State.refusalWaits] using hrw
  obtain ⟨k1, -, k3⟩ := settle_offers old hub hur
  have hboundary : s.failSubBlock.cacheBoundary.cache = s.failSubBlock.cache := by
    rw [State.cacheBoundary]
    split
    · simp [h1, GlyphCache.atBoundary, hfl, GlyphCache.putInForce, has]
    · rfl
  have hmarks : (s.slot w.slot).marks w.first w.last = ⟨decide (w.first = 0), decide (w.last = e.last), false⟩ := by
    simp [Slot.marks, he, hm]
  dsimp only
  rw [k1, k3, hboundary, h1, h2, hmarks]
  exact ⟨rfl, rfl, rfl, rfl, rfl, rfl, rfl, rfl⟩

theorem settle_subBlockGivenUp (old : State) {s : State} {f : Fill} (hb : s.regs.resetBusy = false)
    (hrw : s.refusalWaits = false) (hf : s.cache.fill = some f) (hfw : f.wanted = false) (ha : s.atBoundary = true) :
    let t := State.settle old s.failSubBlock
    t.cache.fill = none ∧ t.builder = s.builder ∧ t.cache.hits = s.cache.hits ∧ t.cache.misses = s.cache.misses ∧
      (s.cache.flush = .none → s.cache.aside = none → t.cache.sets = s.cache.sets) ∧
      (s.cache.flush = .waitFill → t.cache.flush = .reading ∧ ∀ k : Fin 32, t.cache.sets[k] = CacheSet.empty) := by
  rw [failSubBlock_givenUp hf hfw ha]
  generalize hc : { s.cache with fill := none, faults := satAdd s.cache.faults 1 } = c
  obtain ⟨k1, -, k3⟩ := settle_offers old (u := { s with cache := c }) hb hrw
  have hboundary : { s with cache := c }.cacheBoundary.cache = c.atBoundary := by
    rw [State.cacheBoundary, if_pos (by exact ha)]
  have hfill : c.fill = none := by rw [← hc]
  have hp : c.putInForce.fill = none := by simpa using hfill
  obtain ⟨c1, c2⟩ := atBoundary_counts c
  dsimp only
  rw [k1, k3, hboundary, c1, c2]
  refine ⟨?_, rfl, by rw [← hc], by rw [← hc], fun hfl has => ?_, fun hfl => ?_⟩
  · rcases atBoundary_cases c with ⟨-, e⟩ | ⟨-, e⟩ | ⟨-, e⟩ <;> rw [e]
    · exact hfill
    · exact hp
    · simpa using hp
  · subst hc
    simp [GlyphCache.atBoundary, hfl, GlyphCache.putInForce, has]
  · have e : c.atBoundary = c.putInForce.beginFlush := by
      rw [GlyphCache.atBoundary, show c.flush = .waitFill by rw [← hc]; exact hfl]
    rw [e, beginFlush_idle hp]
    exact ⟨rfl, emptied_sets c.putInForce⟩

end Sys2Proof.Machine
end

section
/-! SUPPORT. The statement about failed transfers. -/

namespace Sys2Proof.Machine

/-- An answer that comes late is discarded, whatever it is (R157; log 58). -/
theorem exec_late (data : List Byte) (s : State) : ∀ c ∈ [Instr.areaHeaderRead data true, .descriptorRead data true,
    .fontDirectoryRead data true, .ringRead data true, .formTransfer data true, .subBlockRead data true,
    .flushDirectoryRead data true, .descriptorWrite true, .requestFieldWrite true, .deviceRecordWrite true,
    .busError true], exec c s = .next s := by
  simp only [List.forall_mem_cons, List.not_mem_nil, false_implies, implies_true, and_true]
  exact ⟨rfl, rfl, rfl, rfl, rfl, rfl, rfl, rfl, rfl, rfl, rfl⟩

/-- A failure in a device reset ends the transfer and counts nothing (R15, R157). -/
theorem failure_inReset {s : State} {c : Instr} {x : Transfer} (hb : s.regs.resetBusy = true)
    (hx : s.mtu.inFlight = some x) (hc : c = .busError ∨ (c = .limitTimerExpiry ∧ s.mtu.limit ≠ none)) :
    ∃ t, exec c s = .next t ∧ t.mtu.inFlight = none ∧ t.mtu.limit = none ∧ t.counts = s.counts ∧ t.writer = s.writer ∧
      t.regs.events = s.regs.events ∧ t.sc = s.sc ∧ t.store = s.store ∧
      (x.request.kind = .deviceRecordHigh → t.hostMem = s.hostMem) := by
  have ends (e : State) (heb : e.regs.resetBusy = true) (he : e.mtu.inFlight = some x) :
      State.settle s (e.failed failureOf) = { e.endTransfer x.who with hostMem := e.memAfterFailure x } := by
    have hf : e.failed failureOf = { e.endTransfer x.who with hostMem := e.memAfterFailure x } := by
      unfold State.failed
      rw [he]
      exact if_pos heb
    rw [hf]
    exact if_pos heb
  rcases hc with rfl | ⟨rfl, hl⟩
  · exact ⟨_, congrArg Host.Outcome.next (ends s hb hx), rfl, rfl, rfl, rfl, rfl, rfl, rfl, fun hk => if_pos hk⟩
  · obtain ⟨r, hr⟩ := Option.ne_none_iff_exists'.mp hl
    have e : exec .limitTimerExpiry s = .next (State.settle s ((s.elapse r).failed failureOf)) := by
      change execLimitTimerExpiry s = _
      rw [execLimitTimerExpiry, hr]
    exact ⟨_, e.trans (congrArg Host.Outcome.next (ends (s.elapse r) hb hx)), rfl, rfl, rfl, rfl, rfl, rfl, rfl,
      fun hk => if_pos hk⟩

/-! ## The clauses about a failure outside a device reset, each of `f`, in which it is counted -/

section
variable {s f : State} {x : Transfer} (hf : s.FailedOf x f)
include hf

/-- A device record write that fails is not asked for again when a failure had asked for it (R159). -/
theorem recordFailed_notOwed (hb : s.regs.resetBusy = false) (hc : s.Composed)
    (hk : x.request.kind = .deviceRecord ∨ x.request.kind = .deviceRecordHigh) (hi : s.writer.failureIssued = true)
    (hw : s.writer.waiting = []) (hs : s.boundaryCounts = s.counts.shown) (hr : s.refusalWaits = false)
    (hg : s.gate = s.engine.state) (hh : s.engine.holdOwed = .none) :
    ¬(State.settle s (failureOf x.request.kind f)).Owes ⟨.deviceRecord, false, false, false⟩ := by
  have hdev : x.request.kind.isDeviceRecord = true := by rcases hk with h | h <;> rw [h] <;> rfl
  have hact : failureOf x.request.kind f = (f.raise memfaultBit).endWrite := by rcases hk with h | h <;> rw [h] <;> rfl
  have hwriter := hf.unasked ⟨hdev, hi⟩
  have hv : (f.raise memfaultBit).endWrite.writer = { s.writer with
      issued := none, secondHalf := false, failureIssued := false } := by
    rw [← hwriter]
    simp [State.endWrite]
  rw [hact]
  refine noRecord_not_owes (settle_noRecord s ?_ ⟨?_, ?_, ?_⟩ ?_ ?_ ?_ ?_ ?_ ?_)
  · simpa [State.endWrite] using hf.setting.resetBusy.trans hb
  · simpa [State.endWrite] using hf.waits.trans hc.waits
  · simpa [State.endWrite, hf.sc] using hc.readFailed
  · simpa [State.endWrite, hf.form] using hc.noCheck
  · simpa [State.endWrite, State.refusalWaits] using hf.refusalWaits.trans hr
  · simpa [State.endWrite] using hf.holdOwed.trans hh
  · rw [State.gate_congr (t := f) (by simp [State.endWrite]) (by simp [State.endWrite]), hf.gate, hg, ← hf.engineState]
    simp [State.endWrite]
  · rw [← hf.items]
    simp [State.recordItems, State.slot, State.endWrite]
  · simpa [State.boundaryCounts, State.endWrite, hf.counts, hf.cache] using hs
  · rw [hv]
    intro o ho
    simp [hw] at ho

/-- A failed write leaves its bytes unknown, but for the second half of a device record (R154; log 5). -/
theorem failed_hostMem (hk : x.request.kind ≠ .deviceRecordHigh) (hm : s.MemoryCanonical)
    (hlen : x.request.addr.toNat + x.request.data.length ≤ 2 ^ 32) (k : Nat) (hlt : k < x.request.data.length) :
    f.hostMem.read (x.request.addr.toNat + k) = none := by
  rw [hf.hostMem, State.memAfterFailure, if_neg hk]
  exact Memory.read_forgetRun hm hlen k hlt

end

/-- Settles O48: late answers, failures in a device reset, and the failures that are counted and acted on. -/
theorem failedTransfersAreCounted : Obligations.FailedTransfersAreCounted := by
  unfold Obligations.FailedTransfersAreCounted
  refine ⟨fun _ => rfl, fun data c s hc => exec_late data s c hc, fun c x s hb hx hc => failure_inReset hb hx hc,
    fun c x s hb hx hc hwt hnc => ?_⟩
  obtain ⟨f, hf, hnow, hexec⟩ := failure_acts hb hx hc
  refine ⟨_, hexec, ?_⟩
  have hfb : f.regs.resetBusy = false := hf.setting.resetBusy.trans hb
  have hfw : f.comp.waits = false := hf.waits.trans hwt
  have hfn : f.form.noCheck = true := by rw [hf.form]; exact hnc
  have hfo (n : Fin 8) (h : s.owner = some n) : f.owner = some n := (State.owner_congr hf.sc).trans h
  have hfs (n : Fin 8) : f.stream n = s.stream n := State.stream_congr hf.sc n
  have acted (h : x.wanted = true) :
      (if x.wanted then failureOf x.request.kind f else f) = failureOf x.request.kind f := if_pos h
  have kept : (if x.wanted then failureOf x.request.kind f else f).counts = f.counts ∧
      (if x.wanted then failureOf x.request.kind f else f).hostMem = f.hostMem ∧
      (if x.wanted then failureOf x.request.kind f else f).now = f.now := by
    split
    · exact failureOf_keeps _ f
    · exact ⟨rfl, rfl, rfl⟩
  have owed (o : Owed) (h : f.Waits o) : (if x.wanted then failureOf x.request.kind f else f).Owes o := by
    split
    · exact failureOf_owes _ h
    · exact h.owes
  generalize (if x.wanted then failureOf x.request.kind f else f) = u at *
  obtain ⟨kc, km, kn⟩ := kept
  obtain ⟨c1, c2⟩ := settle_failureCounts s u
  obtain ⟨s1, s2, -⟩ := State.settle_keeps s u
  have hmem : (State.settle s u).hostMem = f.hostMem := s2.trans km
  have bit (k : Nat) (h : u.regs.events.getLsbD k = true) : (State.settle s u).regs.events.getLsbD k = true :=
    (settle_undisturbed s u).raises.events k h
  refine ⟨by rw [c1, kc, hf.counts], by rw [c2, kc, hf.counts], fun hw hk => bit 10 ?_, fun hk => ?_,
    fun hw hk hi hwl hs hr hg hh hrf => ?_, fun hw hk hs => ?_, fun n o hw hk hi he => bit n.val ?_, fun n hw hk => ?_,
    fun n hw hk ho hq => ?_, fun n hw hk hst => ?_, fun n hw hk hst hrun ho hq hbuf h8 hroom => ?_,
    fun n hw hk hrf => ?_, fun hw hk hfill => ?_, ?_, fun fl hw hk hfill hfl ha hr => ?_,
    fun hm hlen hk k hlt => ?_, fun hk => ?_, fun h => ?_⟩
  · rw [acted hw]
    exact failureOf_memfault hfb hk
  · refine settle_keepsOwed s u _ (owed _ (hf.asked fun h => ?_))
    rcases hk with ⟨h1, h2⟩ | h1
    · have hd := h.1
      cases hkind : x.request.kind <;> simp [hkind, TransferKind.isDeviceRecord] at hd h1 h2
    · rw [h1] at h
      exact Bool.noConfusion h.2
  · rw [acted hw]
    exact recordFailed_notOwed hf hb ⟨hwt, hrf, hnc⟩ hk hi hwl hs hr hg hh
  · obtain ⟨h1, h2, h3, h4⟩ := settle_headerFailed s f (by rw [hf.sc]; exact hs)
    rw [acted hw, hk]
    rw [hf.sc] at h2 h3 h4
    exact ⟨h1, h2, h3, h4⟩
  · rw [acted hw, hk]
    exact (descriptorWritten_leaves n ((raise_undisturbed f memfaultBit).setting.resetBusy.trans hfb)
      (by simpa using hf.issued.trans hi)).1 he
  · rw [acted hw, hk]
    exact settle_requestFieldFailed s n hfb hfw hfn
  · have e : failureOf x.request.kind f = f.endLoad .formRead := by rcases hk with h | h | h <;> rw [h] <;> rfl
    rw [acted hw, e]
    exact settle_loadFault s hfb (hfo n ho) (by rw [hf.sc]; exact hq)
  · rw [acted hw, hk]
    exact settle_readFailed s (u := failureOf (.ring n) f) hfb hfw hfn
      (by rw [show (failureOf (.ring n) f).comp = f.comp from rfl, hf.compState, hst]; exact nofun)
  · have hun : (failureOf (.ring n) f).stream n = s.stream n := hfs n
    have hsc : (failureOf (.ring n) f).sc = { s.sc with readFailed := true } := by rw [← hf.sc]; rfl
    have k := settle_ringFault s (u := failureOf (.ring n) f) (n := n) hfb hfw hfn rfl (hf.compState.trans hst)
      (hf.setting.run.trans hrun) ((owner_streams (by rw [hsc])).trans ho) (by rw [hsc]; exact hq)
      (by rw [hsc]; exact hbuf) (by rw [hun]; exact h8) (by rw [hun]; exact hroom)
    rw [hun] at k
    rw [acted hw, hk]
    exact k
  · rw [acted hw, hk]
    exact settle_discardFault s n hfb ⟨hfw, by rw [hf.sc]; exact hrf, hfn⟩
  · rw [settle_faults, acted hw, hk, ← hf.cache]
    exact failSubBlock_faults (by rw [hf.cache]; exact hfill)
  · intro fl w cell e hw hk hfill hfl hst hwork hcell hreb hslew hdots hflush haside hr he hm
    have hslot : f.slot w.slot = s.slot w.slot := State.slot_congr hf.store w.slot
    have hdir : f.directory = s.directory := by simp only [State.directory, hf.cache]
    have k := settle_subBlockDraws s (s := f) (w := w) (cell := cell) (e := e) hfb (hf.refusalWaits.trans hr)
      (by rw [hf.cache]; exact hfill) hfl (by rw [hf.builder]; exact hwork) hcell hreb (by rw [hf.builder]; exact hslew)
      hdots (by rw [hf.cache]; exact hflush) (by rw [hf.cache]; exact haside) (by rw [hslot]; exact he)
      (by rw [hslot]; exact hm)
    rw [hf.cache, hslot, hdir] at k
    rw [acted hw, hk]
    exact k
  · have k := settle_subBlockGivenUp s (s := f) hfb (hf.refusalWaits.trans hr) (by rw [hf.cache]; exact hfill) hfl
      ((atBoundary_iff f).mpr (by rw [hf.builder]; exact (atBoundary_iff s).mp ha))
    rw [hf.cache, hf.builder] at k
    rw [acted hw, hk]
    exact k
  · rw [hmem]
    exact failed_hostMem hf hk hm hlen k hlt
  · rw [hmem, hf.hostMem]
    exact if_pos hk
  · exact s1.trans (kn.trans (hnow h))

end Sys2Proof.Machine
end
section
/-! SUPPORT. What the invariants of the Job Queue look at, and the operations that leave it as it was. -/

namespace Sys2Proof.Machine

/-! ## The Job Queue, the states and the discard flags (R34, R35) -/

/-- What the invariants of the Job Queue look at: the queue, and each stream's state and discard flag. -/
def State.jobs (s : State) : List (Fin 8) × (Fin 8 → StreamState × Bool) :=
  (s.sc.queue, fun n => ((s.stream n).state, (s.stream n).discard))

theorem jobs_eq_iff {s t : State} : t.jobs = s.jobs ↔ t.sc.queue = s.sc.queue ∧
    ∀ n, (t.stream n).state = (s.stream n).state ∧ (t.stream n).discard = (s.stream n).discard := by
  simp only [State.jobs, Prod.mk.injEq, funext_iff]

theorem jobs_of_sc {s t : State} (h : t.sc = s.sc) : t.jobs = s.jobs :=
  jobs_eq_iff.mpr ⟨by rw [h], fun n => by rw [State.stream_congr h n]; exact ⟨rfl, rfl⟩⟩

theorem jobs_of_lists {s t : State} (h : t.sc.streams = s.sc.streams) (k : t.sc.queue = s.sc.queue) : t.jobs = s.jobs :=
  jobs_eq_iff.mpr ⟨k, fun n => by rw [stream_streams h n]; exact ⟨rfl, rfl⟩⟩

theorem State.PagesOnly.jobs {s t : State} (h : s.PagesOnly t) : t.jobs = s.jobs :=
  jobs_eq_iff.mpr ⟨((sameLists_iff _ _).mp h.lists).1.symm, fun n =>
    ⟨(congrArg StreamRec.state (h.bare n) :), (congrArg StreamRec.discard (h.bare n) :)⟩⟩

theorem State.SameStreams.jobs {s t : State} (h : s.SameStreams t) : s.jobs = t.jobs :=
  jobs_eq_iff.mpr ⟨h.queue, fun n =>
    ⟨(congrArg StreamRec.state (h.core n) :), (congrArg StreamRec.discard (h.core n) :)⟩⟩

/-- A change of one record in other fields than state and discard flag. -/
theorem jobs_modStream {s t : State} (h : t.jobs = s.jobs) (n : Fin 8) {f : StreamRec → StreamRec}
    (hf : ∀ r, (f r).state = r.state ∧ (f r).discard = r.discard := by exact fun _ => ⟨rfl, rfl⟩) :
    (t.modStream n f).jobs = s.jobs := by
  rw [← h, jobs_eq_iff]
  refine ⟨rfl, fun m => ?_⟩
  rw [State.stream_modStream]
  split
  · exact hf _
  · exact ⟨rfl, rfl⟩

/-! ## Pages that close, exit and revert -/

theorem closeSteps_jobs (s : State) (i : Fin 4) (row : Nat) : (s.closeSteps i row).jobs = s.jobs :=
  (closeSteps_pagesOnly s i row).jobs

theorem closeFinal_jobs (s : State) (i : Fin 4) (e : Option JobEnd) : (s.closeFinal i e).jobs = s.jobs :=
  (closeFinal_pagesOnly s i e).jobs

theorem closeFlush_jobs (s : State) (i : Fin 4) : (s.closeFlush i).jobs = s.jobs :=
  (jobs_of_sc rfl).trans (closeSteps_jobs s i _)

theorem freeExited_jobs (s : State) (i : Fin 4) : (s.freeExited i).jobs = s.jobs := by
  let n := (s.slot i).stream
  let v := s.modStream n fun r => { r with
    release := r.exitRelease (s.slot i).releaseOff, heldExits := r.heldExits - 1,
    pagesExited := satAdd r.pagesExited 1, reports := countExit r.reports }
  have h1 : (v.reportMark n (s.slot i).markTag).PagesOnly (s.freeExited i) :=
    ((State.PagesOnly.refl _).reportsFall n (s.slot i).jobEnds).before rfl
  exact h1.jobs.trans ((reportMark_pagesOnly v n _).jobs.trans (jobs_modStream rfl n))

theorem foldl_jobs {α : Type} {f : State → α → State} (h : ∀ s a, (f s a).jobs = s.jobs) (l : List α) (s : State) :
    (l.foldl f s).jobs = s.jobs := by
  induction l generalizing s with
  | nil => rfl
  | cons a l ih => exact (ih _).trans (h s a)

theorem takeExit_jobs (s : State) (q : BitVec 8) : (s.takeExit q).jobs = s.jobs := by
  unfold State.takeExit
  split
  next i _ =>
    have h : ((s.exitNames i).foldl State.freeExited s).dropStale.jobs =
      ((s.exitNames i).foldl State.freeExited s).jobs := jobs_of_sc (by simp)
    exact h.trans (foldl_jobs freeExited_jobs _ s)
  next => rfl

theorem revertSlot_jobs (s : State) (i : Fin 4) : (s.revertSlot i).jobs = s.jobs :=
  jobs_eq_iff.mpr ⟨by unfold State.revertSlot; split <;> rfl,
    fun n => by rw [revertSlot_stream]; exact ⟨rfl, rfl⟩⟩

theorem revertAll_jobs (s : State) : s.revertAll.jobs = s.jobs := by
  obtain ⟨v, e, hv, -, -, -⟩ := revertAll_cases s
  rw [e]
  exact (foldl_jobs revertSlot_jobs allSlots v).trans (jobs_of_sc hv)

theorem raise_revertAll_jobs (s : State) (b : BitVec 11) : (s.raise b).revertAll.jobs = s.jobs :=
  (revertAll_jobs _).trans (jobs_of_sc (by simp))

theorem takeJam_jobs (s : State) : s.takeJam.jobs = s.jobs := by
  unfold State.takeJam
  have h := raise_revertAll_jobs { s with engine := { s.engine with state := .jammed } } operatorBit
  generalize (State.raise { s with engine := { s.engine with state := .jammed } } operatorBit).revertAll = u at h ⊢
  exact h

theorem enterOffline_jobs (s : State) : s.enterOffline.jobs = s.jobs := by
  unfold State.enterOffline
  have h := raise_revertAll_jobs { s with engine := { s.engine with state := .offline } } offlineBit
  generalize (State.raise { s with engine := { s.engine with state := .offline } } offlineBit).revertAll = u at h ⊢
  exact h

theorem discardSlots_jobs (s : State) (n : Fin 8) : (s.discardSlots n).jobs = s.jobs := by
  obtain ⟨h, -, hs⟩ := discardSlots_streams s n
  exact jobs_eq_iff.mpr ⟨((sameLists_iff _ _).mp h).1.symm, fun m => by rw [hs m]; exact ⟨rfl, rfl⟩⟩

/-! ## Frames received -/

theorem takeRefusal_jobs (s : State) (q : BitVec 16) : (s.takeRefusal q).jobs = s.jobs := by
  unfold State.takeRefusal
  dsimp only
  split
  · rfl
  · split
    · have halt (u : State) : u.sendHalt.jobs = u.jobs := rfl
      rw [halt, takeJam_jobs]
      rfl
    · split
      · rfl
      · split
        · exact jobs_of_sc (by simp)
        · rfl

theorem takeStatus_jobs (s : State) (c : Condition) : (s.takeStatus c).jobs = s.jobs := by
  have jam (u : State) : (u.statusJam c).jobs = u.jobs := by
    unfold State.statusJam; split
    · exact takeJam_jobs u
    · rfl
  have exit (u : State) : (u.statusExit c).jobs = u.jobs := by
    unfold State.statusExit; dsimp only; split
    · split
      · exact takeExit_jobs _ _
      · rfl
    · rfl
  have lost (u : State) (a : Bool) : (u.lostRefusal a).jobs = u.jobs := by
    unfold State.lostRefusal; split
    · split
      · exact takeRefusal_jobs _ _
      · rfl
    · rfl
  unfold State.takeStatus
  dsimp only
  split
  · split
    · exact jobs_of_sc (by simp)
    · rfl
  · have ends (u : State) : (u.statusHalt c).owedAdvance.jobs = u.jobs := jobs_of_sc (by simp)
    have notReady (u : State) : (u.statusNotReady c).jobs = u.jobs := jobs_of_sc (by simp)
    rw [ends, lost, exit, notReady, jam]
    exact jobs_of_sc (by simp)

theorem receive_jobs (s : State) (f : RxFrame) : (s.receive f).jobs = s.jobs := by
  have seq : (s.takeSequence f.seq).jobs = s.jobs := jobs_of_sc (by simp)
  unfold State.receive
  dsimp only
  split
  · rfl
  · split
    · rfl
    · split
      · exact (takeStatus_jobs _ _).trans seq
      · split
        · exact seq
        · split
          · exact (takeExit_jobs _ _).trans seq
          · exact (takeRefusal_jobs _ _).trans seq

/-! ## Take, the cursor, page turns and strikes -/

theorem takeTo_jobs (s : State) (n : Fin 8) (k : Nat) : (s.takeTo n k).jobs = s.jobs := by
  let v := s.modStream n fun r => { r with take := k, recordsTaken := satAdd r.recordsTaken 1 }
  have h : (s.takeTo n k).jobs = v.jobs := jobs_of_sc (State.modComposing_keeps v _).2.1
  exact h.trans (jobs_modStream rfl n)

theorem advanceTake_jobs (s : State) (n : Fin 8) (k : Nat) : (s.advanceTake n k).jobs = s.jobs :=
  (jobs_of_lists rfl rfl).trans (takeTo_jobs s n _)

theorem openAt_jobs (s : State) (i : Fin 4) (n : Fin 8) (tag : Word32) (number : Nat) (first : Bool) :
    (s.openAt i n tag number first).jobs = s.jobs :=
  jobs_modStream rfl n

theorem setCursor_jobs (s : State) (n : Fin 8) (line : Nat) : (s.setCursor n line).jobs = s.jobs :=
  jobs_modStream rfl n

theorem turnPages_jobs (n : Fin 8) (line : Nat) (rest : RecordRest) (k : Nat) (s : State) :
    (State.turnPages n line rest k s).jobs = s.jobs := by
  induction k generalizing s with
  | zero => exact setCursor_jobs s n line
  | succ k ih =>
    unfold State.turnPages
    split
    · rfl
    · dsimp only
      split
      · exact (ih _).trans ((openAt_jobs _ _ _ _ _ _).trans (closeFinal_jobs s _ _))
      · have wait (u : State) (p : PendingOpen) : (u.waitSlot p).jobs = u.jobs := rfl
        exact (wait _ _).trans (closeFinal_jobs s _ _)

theorem moveCarriage_jobs (s : State) (n : Fin 8) (c : Carriage) (rest : RecordRest) :
    (s.moveCarriage n c rest).jobs = s.jobs := turnPages_jobs ..

theorem offerStrike_jobs (s : State) (n : Fin 8) (i : Fin 4) (h : RecordHeader) : (s.offerStrike n i h).jobs = s.jobs := by
  unfold State.offerStrike
  dsimp only
  split
  · exact jobs_modStream rfl n
  · split
    · exact jobs_modStream rfl n
    · split
      · rfl
      · exact jobs_modStream rfl n

theorem flushExpired_jobs (s : State) : s.flushExpired.jobs = s.jobs := by
  unfold State.flushExpired
  dsimp only
  split
  · split
    · exact (closeFlush_jobs _ _).trans rfl
    · rfl
  · rfl

/-! ## Scans, the bus and the settlement's other parts -/

theorem State.ScanStep.jobs {s t : State} (h : s.ScanStep t) : t.jobs = s.jobs := jobs_of_lists h.streams h.queue

end Sys2Proof.Machine
end
section
/-! SUPPORT. What a command may do to the Job Queue, the streams' states and their discard flags: none makes a stream
ACTIVE but the grant, and each keeps the queue sound (R34, R35, R44). -/

namespace Sys2Proof.Machine

/-! ## Steps that make no stream ACTIVE -/

/-- Between `s` and `t` no stream became ACTIVE, and the Job Queue stayed sound. -/
structure State.JobStep (s t : State) : Prop where
  active : ∀ n, (t.stream n).state = .active → (s.stream n).state = .active
  sound : s.QueueSound → t.QueueSound

theorem state_of_jobs {s t : State} (h : t.jobs = s.jobs) (n : Fin 8) : (t.stream n).state = (s.stream n).state :=
  ((jobs_eq_iff.mp h).2 n).1

theorem discard_of_jobs {s t : State} (h : t.jobs = s.jobs) (n : Fin 8) : (t.stream n).discard = (s.stream n).discard :=
  ((jobs_eq_iff.mp h).2 n).2

theorem State.JobStep.of_jobs {s t : State} (h : t.jobs = s.jobs) : s.JobStep t where
  active n := by rw [state_of_jobs h]; exact id
  sound := fun ⟨hd, hq, ha⟩ => by
    refine ⟨?_, ?_, ?_⟩ <;> simpa only [(jobs_eq_iff.mp h).1, state_of_jobs h, discard_of_jobs h]

theorem State.JobStep.refl (s : State) : s.JobStep s := .of_jobs rfl

theorem State.JobStep.trans {a b c : State} (h : a.JobStep b) (k : b.JobStep c) : a.JobStep c :=
  ⟨fun n hn => h.active n (k.active n hn), fun hs => k.sound (h.sound hs)⟩

/-- The step comes after changes that the Job Queue does not see. -/
theorem State.JobStep.after {a b c : State} (k : b.JobStep c) (h : b.jobs = a.jobs) : a.JobStep c := (of_jobs h).trans k

/-- The step comes before changes that the Job Queue does not see. -/
theorem State.JobStep.before {a b c : State} (h : a.JobStep b) (k : c.jobs = b.jobs) : a.JobStep c := h.trans (of_jobs k)

/-- The streams but `n` keep their states and discard flags. -/
def State.OthersStay (s t : State) (n : Fin 8) : Prop :=
  ∀ m, m ≠ n → (t.stream m).state = (s.stream m).state ∧ (t.stream m).discard = (s.stream m).discard

/-- Stream `n` alone changes, is not ACTIVE then, and is out of the Job Queue. -/
theorem State.JobStep.leaves {s t : State} {n : Fin 8} (hq : s.QueueSound → t.sc.queue = s.sc.queue.filter (· ≠ n))
    (ho : s.OthersStay t n) (hs : (t.stream n).state ≠ .active) : s.JobStep t where
  active m hm := by
    have hne : m ≠ n := by rintro rfl; exact hs hm
    rwa [← (ho m hne).1]
  sound := fun ⟨hd, hm, ha⟩ => by
    have e := hq ⟨hd, hm, ha⟩
    refine ⟨e ▸ hd.filter _, fun m h => ?_, fun m h => ?_⟩
    · rw [e, List.mem_filter] at h
      rw [(ho m (by simpa using h.2)).1, (ho m (by simpa using h.2)).2]
      exact hm m h.1
    · have hne : m ≠ n := by rintro rfl; exact hs h
      rw [(ho m hne).2]
      exact ha m ((ho m hne).1 ▸ h)

/-- Stream `n` alone changes: it stands in the Job Queue then, once, QUEUED and not discarding. -/
theorem State.JobStep.enters {s t : State} {n : Fin 8}
    (hq : s.QueueSound → t.sc.queue.Perm (n :: s.sc.queue.filter (· ≠ n))) (ho : s.OthersStay t n)
    (hs : (t.stream n).state = .queued) (hd : s.QueueSound → (t.stream n).discard = false) : s.JobStep t where
  active m hm := by
    have hne : m ≠ n := by rintro rfl; rw [hs] at hm; cases hm
    rwa [← (ho m hne).1]
  sound h := by
    have e := hq h
    have hdn := hd h
    obtain ⟨hnd, hm, ha⟩ := h
    refine ⟨e.nodup_iff.mpr (List.nodup_cons.mpr ⟨by simp, hnd.filter _⟩), fun m k => ?_, fun m k => ?_⟩
    · rcases List.mem_cons.mp (e.mem_iff.mp k) with rfl | k
      · exact ⟨hs, hdn⟩
      · rw [List.mem_filter] at k
        rw [(ho m (by simpa using k.2)).1, (ho m (by simpa using k.2)).2]
        exact hm m k.1
    · have hne : m ≠ n := by rintro rfl; rw [hs] at k; cases k
      rw [(ho m hne).2]
      exact ha m ((ho m hne).1 ▸ k)

/-- A stream that is not QUEUED, or discards, is in no sound Job Queue. -/
theorem State.QueueSound.filter_self {s : State} (h : s.QueueSound) {n : Fin 8}
    (hn : (s.stream n).state ≠ .queued ∨ (s.stream n).discard = true) : s.sc.queue.filter (· ≠ n) = s.sc.queue := by
  refine List.filter_eq_self.mpr fun m hm => ?_
  obtain ⟨h1, h2⟩ := h.2.1 m hm
  have : m ≠ n := by
    rintro rfl
    rcases hn with k | k
    · exact k h1
    · rw [h2] at k; cases k
  simpa using this

/-! ## Changes of state -/

theorem insertRushed_perm (s : State) (n : Fin 8) (q : List (Fin 8)) : (s.insertRushed n q).Perm (n :: q) := by
  induction q with
  | nil => exact .refl _
  | cons m q ih =>
    unfold State.insertRushed
    split
    · exact (ih.cons m).trans (.swap n m q)
    · exact .refl _

theorem enqueue_perm (s : State) (n : Fin 8) : (s.enqueue n).sc.queue.Perm (n :: s.sc.queue) := by
  show (if (s.stream n).rush then s.insertRushed n s.sc.queue else s.sc.queue ++ [n]).Perm _
  split
  · exact insertRushed_perm s n _
  · exact List.perm_append_singleton n _

theorem enterState_others (s : State) (n : Fin 8) (st : StreamState) : s.OthersStay (s.enterState n st) n := by
  intro m hm
  rw [enterState_stream, if_neg (Ne.symm hm)]
  exact ⟨rfl, rfl⟩

theorem enterState_state (s : State) (n : Fin 8) (st : StreamState) : ((s.enterState n st).stream n).state = st := by
  rw [enterState_stream, if_pos rfl]

theorem enterState_discard (s : State) (n : Fin 8) (st : StreamState) :
    ((s.enterState n st).stream n).discard = (s.stream n).discard := by
  rw [enterState_stream, if_pos rfl]

/-- A stream outside the Job Queue takes another state than ACTIVE. -/
theorem enterState_jobStep {s : State} {n : Fin 8} {st : StreamState} (hst : st ≠ .active)
    (hn : (s.stream n).state ≠ .queued ∨ (s.stream n).discard = true) : s.JobStep (s.enterState n st) :=
  .leaves (fun h => (enterState_queue s n st).trans (h.filter_self hn).symm) (enterState_others s n st)
    (by rwa [enterState_state])

/-- A stream outside the Job Queue that does not discard becomes QUEUED and enters it. -/
theorem enterQueue_jobStep {s : State} {n : Fin 8} (hn : (s.stream n).state ≠ .queued)
    (hd : s.QueueSound → (s.stream n).discard = false) : s.JobStep ((s.enterState n .queued).enqueue n) := by
  have hs (m : Fin 8) : ((s.enterState n .queued).enqueue n).stream m = (s.enterState n .queued).stream m :=
    stream_streams (enqueue_sc _ n).1 m
  refine .enters (fun h => ?_) (fun m hm => hs m ▸ enterState_others s n .queued m hm) (by rw [hs, enterState_state])
    fun h => by rw [hs, enterState_discard, hd h]
  rw [h.filter_self (.inl hn), ← enterState_queue s n .queued]
  exact enqueue_perm _ n

/-- A stream that gives up ownership is not in the Job Queue. -/
theorem giveUp_jobStep {s : State} {n : Fin 8} {st : StreamState} (hst : st ≠ .active)
    (ha : (s.stream n).state = .active) : s.JobStep (s.giveUp n st) :=
  .leaves (fun h => (giveUp_sc s n st).1.trans (h.filter_self (.inl (by rw [ha]; decide))).symm)
    (fun m hm => by rw [giveUp_stream, if_neg (Ne.symm hm)]; exact ⟨rfl, rfl⟩)
    (by rwa [giveUp_stream, if_pos rfl])

theorem giveUp_enqueue_jobStep {s : State} {n : Fin 8} (ha : (s.stream n).state = .active) :
    s.JobStep ((s.giveUp n .queued).enqueue n) := by
  have hs (m : Fin 8) : ((s.giveUp n .queued).enqueue n).stream m =
      if n = m then { s.stream m with state := .queued } else s.stream m :=
    (stream_streams (enqueue_sc _ n).1 m).trans (giveUp_stream s n .queued m)
  refine .enters (fun h => ?_) (fun m hm => by rw [hs, if_neg (Ne.symm hm)]; exact ⟨rfl, rfl⟩) (by rw [hs, if_pos rfl])
    fun h => by rw [hs, if_pos rfl]; exact h.2.2 n ha
  rw [h.filter_self (.inl (by rw [ha]; decide)), ← (giveUp_sc s n .queued).1]
  exact enqueue_perm _ n

theorem requeue_jobStep {s : State} {n : Fin 8} (hn : (s.stream n).state ≠ .queued)
    (hd : s.QueueSound → (s.stream n).discard = false) : s.JobStep (s.requeue n) := by
  unfold State.requeue
  split
  · exact enterQueue_jobStep hn hd
  · exact enterState_jobStep nofun (.inl hn)

theorem faultActive_jobStep {s : State} {n : Fin 8} (ha : (s.stream n).state = .active) (c : FaultCode) :
    s.JobStep (s.faultActive n c) := by
  obtain ⟨hb, hq, -⟩ := faultActive_leaves s n c
  have hs (m : Fin 8) := congrArg StreamRec.state (hb m)
  have hd (m : Fin 8) := congrArg StreamRec.discard (hb m)
  refine .leaves (n := n) (fun h => hq.trans (h.filter_self (.inl (by rw [ha]; decide))).symm) (fun m hm => ?_) ?_
  · have h1 := hs m
    have h2 := hd m
    rw [if_neg (Ne.symm hm)] at h1 h2
    exact ⟨h1, h2⟩
  · have h1 := hs n
    rw [if_pos rfl] at h1
    have h2 : ((s.faultActive n c).stream n).state = .faulted := h1
    rw [h2]; decide

theorem faultInactive_jobStep (s : State) (n : Fin 8) (c : FaultCode) : s.JobStep (s.faultInactive n c) := by
  obtain ⟨hs, hq, -⟩ := faultInactive_leaves s n c
  refine .leaves (fun _ => hq) (fun m hm => by rw [hs, if_neg (Ne.symm hm)]; exact ⟨rfl, rfl⟩) ?_
  rw [hs, if_pos rfl]
  exact nofun

/-! ## Records (R30 to R45, R49) -/

theorem abandonLoad_jobs (s : State) : s.abandonLoad.jobs = s.jobs := jobs_of_sc (by simp)

theorem modComposing_jobs (s : State) (f : Slot → Slot) : (s.modComposing f).jobs = s.jobs :=
  jobs_of_sc (State.modComposing_keeps s f).2.1

theorem endPage_jobs (s : State) (i : Fin 4) (e : JobEnd) : (s.endPage i e).jobs = s.jobs := (endPage_pagesOnly s i e).jobs

/-- The composing page, if there is one, ends its job (R38). -/
def State.endJobPage (s : State) (e : JobEnd) : State :=
  match s.composing with
  | some i => s.endPage i e
  | none => s

/-- The job ended, its stream gives up ownership: to IDLE, or QUEUED into the Job Queue (R38). -/
def State.leaveJob (s : State) (n : Fin 8) : State :=
  let s1 := s.modStream n fun r => { r with reports := settleJob .done r.reports }
  if (s1.stream n).fill ≠ (s1.stream n).take then (s1.giveUp n .queued).enqueue n else s1.giveUp n .idle

theorem takeEnd_eq {s : State} (hj : s.comp.jobInProgress = true) (n : Fin 8) (h : RecordHeader) : s.takeEnd n h =
    ((s.advanceTake n h.length).endJobPage ⟨(s.comp.job.map (·.tag)).getD 0, .done⟩).leaveJob n := by
  rw [State.takeEnd, if_pos hj]
  rfl

theorem endJobPage_jobs (s : State) (e : JobEnd) : (s.endJobPage e).jobs = s.jobs := by
  unfold State.endJobPage
  split
  · exact endPage_jobs s _ e
  · rfl

section Records
variable {s : State} {n : Fin 8} (ha : (s.stream n).state = .active)
include ha

theorem afterTake_jobStep : s.JobStep (s.afterTake n) := by
  unfold State.afterTake
  split
  · split
    · exact .of_jobs rfl
    · exact giveUp_jobStep nofun ha
  · exact .of_jobs rfl

theorem afterTake_jobStep_after {t : State} (h : t.jobs = s.jobs) : s.JobStep (t.afterTake n) :=
  (afterTake_jobStep ((state_of_jobs h n).trans ha)).after h

theorem finishLine_jobStep (h : RecordHeader) : s.JobStep (s.finishLine n h) :=
  afterTake_jobStep_after ha (advanceTake_jobs s n h.length)

theorem lineAfter_jobStep (h : RecordHeader) : s.JobStep (s.lineAfter n h) := by
  unfold State.lineAfter
  split
  · next c _ =>
    have k := moveCarriage_jobs s n c .nothing
    dsimp only
    split
    · exact .of_jobs k
    · exact (finishLine_jobStep ((state_of_jobs k n).trans ha) h).after k
  · exact .refl s

theorem lineStrike_jobStep (h : RecordHeader) : s.JobStep (s.lineStrike n h) := by
  unfold State.lineStrike
  split
  · exact .refl s
  · next i _ =>
    have k : (if h.textCount = 0 then s else s.offerStrike n i h).jobs = s.jobs := by
      split
      · rfl
      · exact offerStrike_jobs s n i h
    dsimp only
    generalize (if h.textCount = 0 then s else s.offerStrike n i h) = u at k ⊢
    split
    · exact .of_jobs k
    · exact (lineAfter_jobStep ((state_of_jobs k n).trans ha) h).after k

theorem lineBody_jobStep (h : RecordHeader) (c : Carriage) : s.JobStep (s.lineBody n h c) := by
  have k := moveCarriage_jobs s n c .strikeAndAfter
  unfold State.lineBody
  dsimp only
  split
  · exact .of_jobs k
  · exact (lineStrike_jobStep ((state_of_jobs k n).trans ha) h).after k

theorem takeLine_jobStep (h : RecordHeader) : s.JobStep (s.takeLine n h) := by
  unfold State.takeLine
  split
  · split
    · split
      · exact lineBody_jobStep ha h _
      · exact faultActive_jobStep ha _
    · exact faultActive_jobStep ha _
  · exact faultActive_jobStep ha _

theorem takeJob_jobStep : s.JobStep (s.takeJob n) := by
  unfold State.takeJob
  split
  · exact faultActive_jobStep ha _
  · dsimp only
    split
    · have k (f : FormUnit) (c : Composer) : ({ s with form := f, comp := c } : State).jobs = s.jobs := rfl
      exact (faultActive_jobStep ((state_of_jobs (k _ _) n).trans ha) _).after (k _ _)
    · exact .of_jobs rfl

theorem leaveJob_jobStep : s.JobStep (s.leaveJob n) := by
  have k : (s.modStream n fun r => { r with reports := settleJob .done r.reports }).jobs = s.jobs := jobs_modStream rfl n
  have ha' := (state_of_jobs k n).trans ha
  unfold State.leaveJob
  dsimp only
  split
  · exact (giveUp_enqueue_jobStep ha').after k
  · exact (giveUp_jobStep (st := .idle) nofun ha').after k

theorem takeEnd_jobStep (h : RecordHeader) : s.JobStep (s.takeEnd n h) := by
  by_cases hj : s.comp.jobInProgress = true
  · have k := (endJobPage_jobs (s.advanceTake n h.length) ⟨(s.comp.job.map (·.tag)).getD 0, .done⟩).trans
      (advanceTake_jobs s n _)
    rw [takeEnd_eq hj]
    exact (leaveJob_jobStep ((state_of_jobs k n).trans ha)).after k
  · rw [State.takeEnd, if_neg hj]
    exact faultActive_jobStep ha _

theorem takeMark_jobStep (h : RecordHeader) : s.JobStep (s.takeMark n h) := by
  unfold State.takeMark
  split
  · exact afterTake_jobStep_after ha ((modComposing_jobs _ _).trans (advanceTake_jobs s n _))
  · exact faultActive_jobStep ha _

theorem takeWrap_jobStep : s.JobStep (s.takeWrap n) := by
  unfold State.takeWrap
  dsimp only
  refine afterTake_jobStep_after ha (.trans ?_ (takeTo_jobs s n 0))
  split <;> exact jobs_of_lists rfl rfl

theorem startJob_jobStep (i : Fin 4) (j : JobInfo) : s.JobStep (s.startJob i n j) := by
  have k1 : (s.openAt i n j.tag (j.firstPage % Config.pageNumbers) true).jobs = s.jobs := openAt_jobs ..
  refine afterTake_jobStep_after ha ((advanceTake_jobs _ n 16).trans (jobs_modStream ((setCursor_jobs _ n 1).trans ?_) n))
  exact (jobs_of_sc rfl).trans k1

theorem openJob_jobStep : s.JobStep (s.openJob n) := by
  unfold State.openJob
  split
  · exact .refl s
  · split
    · exact startJob_jobStep ha _ _
    · exact .of_jobs rfl

theorem resumeRecord_jobStep (rest : RecordRest) : s.JobStep (s.resumeRecord n rest) := by
  cases rest with
  | openJob => exact .refl s
  | strikeAndAfter => exact lineStrike_jobStep ha _
  | nothing => exact finishLine_jobStep ha _

end Records

theorem owner_state {s : State} {n : Fin 8} (h : s.owner = some n) : (s.stream n).state = .active :=
  ((owner_some_iff s n).mp h).1

/-- A record taken changes only what `act` changes of the ACTIVE stream, or faults it. -/
theorem takeRecord_jobStep (s : State) (k : RecordKind) {act : Fin 8 → RecordHeader → State}
    (hact : ∀ n h, (s.stream n).state = .active → s.JobStep (act n h)) : s.JobStep (s.takeRecord k act) := by
  rcases takeRecord_cases s k act with e | ⟨n, ho, _, _, ⟨_, _, _, e⟩ | ⟨h, _, _, e⟩⟩ <;> rw [e]
  · exact .refl s
  · exact faultActive_jobStep (owner_state ho) _
  · exact hact n h (owner_state ho)

/-- A wait that ends goes on with its record, whose stream is the ACTIVE one. -/
theorem resumeWait_jobStep (s : State) : s.JobStep s.resumeWait := by
  unfold State.resumeWait
  split
  · exact .refl s
  · next n ho =>
    have ha := owner_state ho
    split
    · next p _ _ =>
      split
      · exact .refl s
      · next i _ =>
        split
        · exact openJob_jobStep ha
        · dsimp only
          let v : State := { s with comp := { s.comp with state := .ready, waiting := none } }
          have k : (State.turnPages n p.line p.rest p.turns (v.openNext i n p.pageNo)).jobs = s.jobs :=
            (turnPages_jobs ..).trans (openAt_jobs v ..)
          split
          · exact .of_jobs k
          · exact (resumeRecord_jobStep ((state_of_jobs k n).trans ha) _).after k
    · split
      · exact (lineStrike_jobStep (s := { s with comp := { s.comp with state := .ready } }) ha _).after rfl
      · exact .refl s
    · exact .refl s

theorem memReadFault_jobStep (s : State) : s.JobStep s.memReadFault := by
  unfold State.memReadFault
  split
  · next n ho =>
    split
    · exact faultActive_jobStep (owner_state ho) _
    · exact .refl s
  · exact .refl s

/-! ## Form loads (R76, R77) -/

theorem endLoad_jobStep (s : State) (c : FaultCode) : s.JobStep (s.endLoad c) := by
  unfold State.endLoad
  dsimp only
  split
  · next n ho => exact (faultActive_jobStep (s := { s with form := .empty }) (owner_state ho) c).after rfl
  · exact .of_jobs rfl

theorem checkForm_jobStep (s : State) : s.JobStep s.checkForm := by
  unfold State.checkForm
  split
  · split
    · exact .refl s
    · split
      · exact .of_jobs rfl
      · exact endLoad_jobStep s _
  · exact .refl s

theorem takeFormBytes_jobStep (s : State) (b : List Byte) : s.JobStep (s.takeFormBytes b) := by
  unfold State.takeFormBytes
  split
  · dsimp only
    split
    · split
      · next n ho => exact (openJob_jobStep (s := { s with form := _ }) (owner_state ho)).after rfl
      · exact .of_jobs rfl
    · exact .of_jobs rfl
  · exact .refl s

/-! ## Discards (R44, R45) -/

theorem dropHeld_jobs (s : State) (n : Fin 8) : (s.dropHeld n).jobs = s.jobs := rfl

/-- The end of a discard puts its stream into the Job Queue, where the discard kept it out. -/
theorem endDiscard_jobStep {s : State} {n : Fin 8} (hd : (s.stream n).discard = true) (tag : Word32) :
    s.JobStep (s.endDiscard n tag) := by
  let f : StreamRec → StreamRec := fun r =>
    { r with
      discard := false
      discardReports := false
      discardTag := none
      reports := if r.discardReports then r.reports ++ [⟨r.discardTag.getD tag, .cancelled, true, 0⟩] else r.reports }
  let u := s.modStream n f
  have hu (m : Fin 8) : u.stream m = if n = m then f (s.stream m) else s.stream m := State.stream_modStream s n m f
  have others : s.OthersStay u n := fun m hm => by rw [hu, if_neg (Ne.symm hm)]; exact ⟨rfl, rfl⟩
  have hdu : (u.stream n).discard = false := by rw [hu, if_pos rfl]
  show s.JobStep (u.requeue n)
  unfold State.requeue
  split
  · have hs (m : Fin 8) : ((u.enterState n .queued).enqueue n).stream m = (u.enterState n .queued).stream m :=
      stream_streams (enqueue_sc _ n).1 m
    refine .enters (fun h => ?_) (fun m hm => ?_) (by rw [hs, enterState_state])
      fun _ => by rw [hs, enterState_discard, hdu]
    · rw [h.filter_self (.inr hd)]
      have k := enqueue_perm (u.enterState n .queued) n
      rwa [enterState_queue] at k
    · rw [hs]
      exact ⟨(enterState_others u n .queued m hm).1.trans (others m hm).1,
        (enterState_others u n .queued m hm).2.trans (others m hm).2⟩
  · refine .leaves (n := n) (fun h => (enterState_queue u n .idle).trans (h.filter_self (.inr hd)).symm)
      (fun m hm => ⟨(enterState_others u n .idle m hm).1.trans (others m hm).1,
        (enterState_others u n .idle m hm).2.trans (others m hm).2⟩) (by rw [enterState_state]; exact nofun)

theorem skipRecord_jobStep {s : State} {n : Fin 8} (hd : (s.stream n).discard = true) (h : RecordHeader) (b : List Byte) :
    s.JobStep (s.skipRecord n h b) := by
  unfold State.skipRecord
  dsimp only
  generalize (if h.kind = .wrap then 0 else (s.stream n).after h.length) = next
  generalize hv : ((s.dropHeld n).modStream n fun r =>
    { r with
      take := next
      release := next
      heldExits := (s.slotsOf n).length
      discardTag := if h.kind = .job then some (jobTagOf b) else r.discardTag }) = v
  have k : v.jobs = s.jobs := hv ▸ jobs_modStream (dropHeld_jobs s n) n
  have hdv := (discard_of_jobs k n).trans hd
  split
  · exact (endDiscard_jobStep hdv _).after k
  · split
    · exact (enterState_jobStep (st := .idle) nofun (.inr hdv)).after k
    · exact .of_jobs k

theorem discardRecord_jobStep (s : State) : s.JobStep s.discardRecord := by
  unfold State.discardRecord
  split
  · next d _ =>
    unfold State.discardHeld
    dsimp only
    split
    · next hdis =>
      have hd : (s.stream d.stream).discard = true := by
        simp only [State.discarding, Bool.and_eq_true] at hdis
        exact hdis.1.1
      split
      · exact .of_jobs (dropHeld_jobs s _)
      · split
        · exact faultInactive_jobStep s _ _
        · exact .of_jobs (jobs_modStream (dropHeld_jobs s _) _)
        · split
          · exact .of_jobs (dropHeld_jobs s _)
          · exact skipRecord_jobStep hd _ _
    · exact .refl s
  · exact .refl s

/-! ## The fill pointer and the end of a request (R28, R71) -/

theorem takeFill_jobStep (s : State) (n : Fin 8) (p : Nat) : s.JobStep (s.takeFill n p) := by
  have k : (s.storeFill n p).jobs = s.jobs := jobs_modStream rfl n
  rcases takeFill_cases s n p with ⟨hs, -, hd, e⟩ | ⟨hs, -, hd, e⟩ | ⟨-, -, -, e⟩ | ⟨-, -, e⟩ <;> rw [e]
  · exact (enterQueue_jobStep (by rw [state_of_jobs k, hs]; exact nofun)
      fun _ => (discard_of_jobs k n).trans hd).after k
  · exact (enterState_jobStep (st := .queued) nofun (.inr ((discard_of_jobs k n).trans hd))).after k
  · exact .of_jobs k
  · exact .of_jobs k

theorem checkFill_jobStep (s : State) (n : Fin 8) (p : Nat) : s.JobStep (s.checkFill n p) := by
  rcases checkFill_cases s n p with ⟨-, e⟩ | ⟨-, -, e⟩ | ⟨-, -, e⟩ | ⟨ha, -, e⟩ <;> rw [e]
  · exact .refl s
  · exact takeFill_jobStep s n p
  · exact faultInactive_jobStep s n _
  · exact faultActive_jobStep ha _

theorem takeInterval_jobs (s : State) (n : Fin 8) (secs : Nat) : (s.takeInterval n secs).jobs = s.jobs := by
  have k : (s.modStream n fun r => { r with flushSecs := secs }).jobs = s.jobs := jobs_modStream rfl n
  unfold State.takeInterval
  dsimp only
  split
  · split <;> exact k
  · exact k

theorem takeFields_jobStep (s : State) (n : Fin 8) (t : Taken) : s.JobStep (s.takeFields n t) :=
  (checkFill_jobStep s n t.fill).before (takeInterval_jobs _ n _)

theorem takeFields_scan_jobStep (s : State) (n : Fin 8) (t : Taken) : s.JobStep ((s.takeFields n t).scanAfter n) :=
  (takeFields_jobStep s n t).before (scanAfter_step _ n).jobs

theorem takeDescriptor_jobStep (s : State) (n : Fin 8) (b : List Byte) : s.JobStep (s.takeDescriptor n b) := by
  unfold State.takeDescriptor
  dsimp only
  split
  · exact .of_jobs rfl
  · split
    · exact takeFields_scan_jobStep s n _
    · exact .of_jobs rfl
    · exact .of_jobs rfl

theorem requestFieldWritten_jobStep (s : State) (n : Fin 8) (c : Bool) : s.JobStep (s.requestFieldWritten n c) := by
  have k : ((s.endWrite.raise (streamBit n)).modStream n fun r => { r with clearOwed := c }).jobs = s.jobs :=
    jobs_modStream (jobs_of_sc (by simp)) n
  unfold State.requestFieldWritten State.actionEnds
  split
  · exact (takeFields_scan_jobStep _ _ _).after k
  · exact .of_jobs k

/-! ## Requests (R21 to R27) -/

theorem answer_jobs (s : State) (n : Fin 8) (t : Taken) (r : RequestResult) : (s.answer n t r).jobs = s.jobs := by
  have k : (s.modStream n fun rec => { rec with result := r }).jobs = s.jobs := jobs_modStream rfl n
  exact k

theorem doOpen_jobStep (s : State) (n : Fin 8) (t : Taken) (base : Word32) (size : Nat) :
    s.JobStep (s.doOpen n t base size) := by
  unfold State.doOpen
  split
  · exact .of_jobs (answer_jobs ..)
  · next hc =>
    have hc : (s.stream n).state = .closed := not_not.mp hc
    split
    · exact .of_jobs (answer_jobs ..)
    · split
      · exact .of_jobs (answer_jobs ..)
      · refine .before ?_ (answer_jobs ..)
        let u := s.modStream n fun r => r.opened base size t.fill
        have hu (m : Fin 8) : u.stream m = if n = m then (s.stream m).opened base size t.fill else s.stream m :=
          State.stream_modStream s n m _
        have hst : (u.stream n).state = .closed := by rw [hu, if_pos rfl]; exact hc
        have opened : s.JobStep u := .leaves (n := n) (fun h => (h.filter_self (.inl (by rw [hc]; exact nofun))).symm)
          (fun m hm => by rw [hu, if_neg (Ne.symm hm)]; exact ⟨rfl, rfl⟩) (by rw [hst]; exact nofun)
        exact opened.trans (requeue_jobStep (by rw [hst]; exact nofun) fun _ => by rw [hu, if_pos rfl]; rfl)

theorem withdrawStream_others (s : State) (n : Fin 8) : s.OthersStay (s.withdrawStream n) n := fun m hm => by
  rw [withdrawStream_stream, if_neg (Ne.symm hm)]; exact ⟨rfl, rfl⟩

theorem doClose_jobStep (s : State) (n : Fin 8) (t : Taken) : s.JobStep (s.doClose n t) := by
  unfold State.doClose
  split
  · refine .before (.leaves (n := n) (fun _ => (enterState_queue ..).trans (withdrawStream_queue s n)) (fun m hm => ?_) ?_)
      (answer_jobs ..)
    · rw [enterState_stream, if_neg (Ne.symm hm)]
      exact withdrawStream_others s n m hm
    · rw [enterState_state]; exact nofun
  · exact .of_jobs (answer_jobs ..)

theorem beginDiscard_others (s : State) (n : Fin 8) (r : Bool) : s.OthersStay (s.beginDiscard n r) n := fun m hm => by
  rw [State.beginDiscard, State.stream_modStream, if_neg (Ne.symm hm)]; exact ⟨rfl, rfl⟩

theorem cancelActive_jobStep {s : State} {n : Fin 8} (ha : (s.stream n).state = .active) : s.JobStep (s.cancelActive n) := by
  let u := (s.discardSlots n).abandonLoad
  let v := (((u.beginDiscard n false).modStream n fun r => { r with release := r.take, heldExits := 0 }).cancelJobs n)
  have hu : u.jobs = s.jobs := (abandonLoad_jobs _).trans (discardSlots_jobs s n)
  have hv : v.jobs = (u.beginDiscard n false).jobs := jobs_modStream (jobs_modStream rfl n) n
  have hq : v.sc.queue = s.sc.queue := (jobs_eq_iff.mp hv).1.trans (jobs_eq_iff.mp hu).1
  refine .leaves (n := n) (fun h => ?_) (fun m hm => ?_) ?_
  · exact ((giveUp_sc v n _).1.trans hq).trans (h.filter_self (.inl (by rw [ha]; exact nofun))).symm
  · have e : (s.cancelActive n).stream m = v.stream m := (giveUp_stream v n _ m).trans (if_neg (Ne.symm hm))
    rw [e, state_of_jobs hv, discard_of_jobs hv, (beginDiscard_others u n false m hm).1,
      (beginDiscard_others u n false m hm).2, state_of_jobs hu, discard_of_jobs hu]
    exact ⟨rfl, rfl⟩
  · have e : ((s.cancelActive n).stream n).state = if (v.stream n).fill ≠ (v.stream n).take then .queued else .idle :=
      congrArg StreamRec.state ((giveUp_stream v n _ n).trans (if_pos rfl))
    rw [e]
    split <;> exact nofun

theorem cancelStream_jobStep (s : State) (n : Fin 8) : s.JobStep (s.cancelStream n) := by
  unfold State.cancelStream
  split
  · next ha =>
    split
    · exact cancelActive_jobStep ha
    · have hd : s.OthersStay ((s.leaveToDiscard n).beginDiscard n true) n := fun m hm => by
        rw [(beginDiscard_others _ n true m hm).1, (beginDiscard_others _ n true m hm).2, State.leaveToDiscard,
          giveUp_stream, if_neg (Ne.symm hm)]
        exact ⟨rfl, rfl⟩
      refine .leaves (n := n) (fun h => (giveUp_sc s n _).1.trans (h.filter_self (.inl (by rw [ha]; exact nofun))).symm) hd ?_
      rw [State.beginDiscard, State.stream_modStream_same, State.leaveToDiscard, giveUp_stream, if_pos rfl]
      dsimp only
      split <;> exact nofun
  · next hna =>
    split
    · exact .refl s
    · refine .leaves (n := n) (fun _ => rfl) (fun m hm => beginDiscard_others (s.dequeue n) n true m hm) ?_
      rw [State.beginDiscard, State.stream_modStream_same]
      exact hna

theorem doCancel_jobStep (s : State) (n : Fin 8) (t : Taken) : s.JobStep (s.doCancel n t) := by
  unfold State.doCancel
  split
  · exact (cancelStream_jobStep s n).before (answer_jobs ..)
  · exact (cancelStream_jobStep s n).before (answer_jobs ..)
  · exact .of_jobs (answer_jobs ..)
  · exact .of_jobs (answer_jobs ..)

theorem rushStream_jobStep (s : State) (n : Fin 8) : s.JobStep (s.rushStream n) := by
  let u := s.modStream n fun r => { r with rush := true }
  have k : u.jobs = s.jobs := jobs_modStream rfl n
  unfold State.rushStream
  dsimp only
  split
  · next h =>
    obtain ⟨hs, hd, -⟩ := h
    have e (m : Fin 8) : ((u.dequeue n).enqueue n).stream m = u.stream m := rfl
    refine .enters (n := n) (fun _ => enqueue_perm (u.dequeue n) n) (fun m _ => ?_) ?_ fun _ => ?_
    · exact ⟨state_of_jobs k m, discard_of_jobs k m⟩
    · exact (state_of_jobs k n).trans hs
    · exact (discard_of_jobs k n).trans hd
  · exact .of_jobs k

theorem doRush_jobStep (s : State) (n : Fin 8) (t : Taken) : s.JobStep (s.doRush n t) := by
  unfold State.doRush
  split
  · exact .of_jobs (answer_jobs ..)
  · exact .of_jobs (answer_jobs ..)
  · exact (rushStream_jobStep s n).before (answer_jobs ..)

theorem cancelJobs_jobs (s : State) (n : Fin 8) : (s.cancelJobs n).jobs = s.jobs := jobs_modStream rfl n

/-- A stream withdrawn and then CLOSED, its discard over. -/
theorem withdraw_jobStep {s t : State} {n : Fin 8} (hq : t.sc.queue = (s.withdrawStream n).sc.queue)
    (hs : ∀ m, t.stream m = if n = m then { (s.withdrawStream n).stream m with state := .closed }
      else (s.withdrawStream n).stream m) : s.JobStep t :=
  .leaves (n := n) (fun _ => hq.trans (withdrawStream_queue s n))
    (fun m hm => by rw [hs, if_neg (Ne.symm hm)]; exact withdrawStream_others s n m hm)
    (by rw [hs, if_pos rfl]; exact nofun)

theorem resetStream_jobStep (s : State) (n : Fin 8) : s.JobStep (s.resetStream n) := by
  have hd := discardSlots_jobs s n
  unfold State.resetStream
  dsimp only
  split
  · exact (withdraw_jobStep (giveUp_sc _ n _).1 (giveUp_stream _ n _)).after
      ((cancelJobs_jobs _ n).trans ((abandonLoad_jobs _).trans hd))
  · exact (withdraw_jobStep (enterState_queue _ n _) (enterState_stream _ n _)).after (jobs_modStream hd n)

theorem doReset_jobStep (s : State) (n : Fin 8) (t : Taken) : s.JobStep (s.doReset n t) := by
  unfold State.doReset
  split
  · exact .of_jobs (answer_jobs ..)
  · exact (resetStream_jobStep s n).before (answer_jobs ..)

theorem onRequest_jobStep (s : State) (c : RequestCode) {act : Fin 8 → Taken → State} (h : ∀ n t, s.JobStep (act n t)) :
    s.JobStep (s.onRequest c act) := by
  rcases onRequest_cases s c act with e | ⟨n, t, _, _, _, _, e⟩ <;> rw [e]
  · exact .refl s
  · exact h n t

end Sys2Proof.Machine
end
section
/-! PROOF. The invariants of the Job Queue and of ownership through every command (R34, R35, R44). -/

namespace Sys2Proof.Machine

/-- Between `s` and `t` both invariants are kept: at most one stream ACTIVE, and a sound Job Queue. -/
structure State.JobsKept (s t : State) : Prop where
  one : s.OneActive → t.OneActive
  sound : s.QueueSound → t.QueueSound

theorem State.JobStep.kept {s t : State} (h : s.JobStep t) : s.JobsKept t :=
  ⟨fun k m n hm hn => k m n (h.active m hm) (h.active n hn), h.sound⟩

theorem State.JobsKept.trans {a b c : State} (h : a.JobsKept b) (k : b.JobsKept c) : a.JobsKept c :=
  ⟨fun ho => k.one (h.one ho), fun hs => k.sound (h.sound hs)⟩

theorem State.JobsKept.of_jobs {s t : State} (h : t.jobs = s.jobs) : s.JobsKept t := (JobStep.of_jobs h).kept

theorem State.JobsKept.refl (s : State) : s.JobsKept s := .of_jobs rfl

/-- The grant makes the queue's head ACTIVE where no stream is, and the head does not discard (R35, R44). -/
theorem grant_jobsKept (s : State) : s.JobsKept s.grant := by
  by_cases h : s.owner ≠ none ∨ s.regs.run = false ∨ s.sc.queue = []
  · rw [State.grant_none h]
    exact .refl s
  · obtain ⟨ho, h⟩ := not_or.mp h
    obtain ⟨hr, hq⟩ := not_or.mp h
    have ho : s.owner = none := not_not.mp ho
    obtain ⟨n, rest, e⟩ := List.exists_cons_of_ne_nil hq
    have hg := grant_head ho e (by simpa using hr)
    let w : State := { s with sc := { s.sc with queue := rest } }
    let f : StreamRec → StreamRec := fun r => { r with state := .active, rush := false }
    have hs (m : Fin 8) : s.grant.stream m = if n = m then f (s.stream m) else s.stream m := by
      rw [hg]
      exact (State.stream_congr (t := w.modStream n f) rfl m).trans (State.stream_modStream w n m f)
    have hrest : s.grant.sc.queue = rest := by rw [hg]; rfl
    have idle (m : Fin 8) (hm : n ≠ m) : (s.grant.stream m).state ≠ .active := by
      rw [hs, if_neg hm]
      exact (owner_none_iff s).mp ho m
    have head (m : Fin 8) (hm : (s.grant.stream m).state = .active) : n = m := by
      by_contra hne
      exact idle m hne hm
    refine ⟨fun _ m k hm hk => (head m hm).symm.trans (head k hk), fun ⟨hd, hm, ha⟩ => ?_⟩
    rw [e] at hd hm
    obtain ⟨hnr, hdr⟩ := List.nodup_cons.mp hd
    refine ⟨hrest ▸ hdr, fun m k => ?_, fun m k => ?_⟩
    · rw [hrest] at k
      have hne : n ≠ m := by rintro rfl; exact hnr k
      rw [hs, if_neg hne]
      exact hm m (List.mem_cons_of_mem _ k)
    · obtain rfl := head m k
      rw [hs, if_pos rfl]
      exact (hm n List.mem_cons_self).2

/-! ## The settlement -/

theorem settleImaging_jobStep (s : State) : s.JobStep s.settleImaging :=
  (checkForm_jobStep _).after (jobs_of_sc (by simp))

theorem settleComposer_jobsKept (s : State) : s.JobsKept s.settleComposer :=
  ((resumeWait_jobStep s).trans (memReadFault_jobStep _)).kept.trans (grant_jobsKept _)

/-- What follows a command keeps both invariants. -/
theorem settle_jobsKept (old s : State) : s.JobsKept (State.settle old s) := by
  unfold State.settle
  split
  · exact .refl s
  · have h : (State.settleStatus old s.settleImaging.settleComposer.settleEngine).serveBus.jobs =
        s.settleImaging.settleComposer.jobs :=
      (State.serveBus_same _).jobs.trans ((State.settleStatus_same old _).jobs.trans (jobs_of_sc (by simp)))
    exact ((settleImaging_jobStep s).kept.trans (settleComposer_jobsKept _)).trans (.of_jobs h)

theorem State.JobStep.settles {s t : State} (h : s.JobStep t) (old : State) : s.JobsKept (State.settle old t) :=
  h.kept.trans (settle_jobsKept old t)

theorem settleBus_jobs (s : State) : s.settleBus.jobs = s.jobs := by
  obtain ⟨a, b, e⟩ := settleBus_sc s
  exact jobs_of_lists (by rw [e]) (by rw [e])

/-! ## What the bus ends -/

theorem completed_jobStep (s : State) (p : TransferKind → Bool) (data : List Byte)
    {act : TransferKind → State → State} (h : ∀ k u, State.JobStep u (act k u)) :
    s.JobStep (s.completed p data act) := by
  rcases completed_cases s p data act with e | ⟨t, -, -, -, u, hu, ⟨-, -, e⟩ | ⟨-, e⟩⟩ <;> rw [e]
  · exact .refl s
  · exact (h _ u).after (jobs_of_sc (by rw [hu]; rfl))
  · exact .of_jobs (jobs_of_sc (by rw [hu]; rfl))

theorem failed_jobStep (s : State) {act : TransferKind → State → State} (h : ∀ k u, State.JobStep u (act k u)) :
    s.JobStep (s.failed act) := by
  rcases failed_cases s act with ⟨-, e⟩ | ⟨t, -, u, hu, ⟨-, e⟩ | ⟨-, -, e⟩ | ⟨-, -, e⟩⟩ <;> rw [e]
  · exact .refl s
  · exact .of_jobs (jobs_of_sc (by rw [hu]; rfl))
  · exact (h _ _).after (jobs_of_sc (by simp [hu, State.endTransfer]))
  · exact .of_jobs (jobs_of_sc (by simp [hu, State.endTransfer]))

theorem raise_jobs (s : State) (b : BitVec 11) : (s.raise b).jobs = s.jobs := jobs_of_sc (by simp)

theorem endScan_jobs (s : State) : s.endScan.jobs = s.jobs := by
  rw [endScan_eq]
  exact ((recordAsked_step s).trans (finishScan_step _)).jobs

theorem failureOf_jobStep (k : TransferKind) (s : State) : s.JobStep (failureOf k s) := by
  cases k with
  | areaHeader => exact .of_jobs ((finishScan_step _).jobs.trans (raise_jobs s _))
  | descriptor n | openRead n => exact .of_jobs ((scanAfter_step _ n).jobs.trans (raise_jobs s _))
  | ring n => exact .of_jobs (jobs_of_lists rfl rfl)
  | discardRing n => exact faultInactive_jobStep s n _
  | fontDirectory => exact .of_jobs ((endScan_jobs _).trans (raise_jobs s _))
  | formRecord | vft | translate => exact endLoad_jobStep s _
  | subBlock => exact .of_jobs (jobs_of_sc (s := s) (t := s.failSubBlock) (by simp))
  | flushDirectory => exact .of_jobs (jobs_of_lists rfl rfl)
  | descriptorWrite n => exact .of_jobs (jobs_of_sc (s := s) (t := (s.raise memfaultBit).descriptorWritten n) (by simp))
  | requestField n => exact (requestFieldWritten_jobStep _ n true).after (raise_jobs s _)
  | deviceRecord | deviceRecordHigh => exact .of_jobs (jobs_of_sc (s := s) (t := (s.raise memfaultBit).endWrite) (by simp))

theorem afterHeader_jobs (s : State) : s.afterHeader.jobs = s.jobs := by
  unfold State.afterHeader
  split
  · exact (finishScan_step s).jobs
  · exact jobs_of_lists rfl rfl

theorem takeRing_jobs (s : State) (n : Fin 8) (b : List Byte) : (s.takeRing n b).jobs = s.jobs := by
  unfold State.takeRing
  split
  · exact jobs_of_lists rfl rfl
  · rfl

/-! ## The engine link -/

theorem missPoll_jobs (s : State) : s.missPoll.jobs = s.jobs := by
  unfold State.missPoll
  dsimp only
  split
  · exact (enterOffline_jobs _).trans rfl
  · rfl

/-! ## Registers, the panel and the timers -/

theorem beginReset_kept (s : State) (k : BitVec 8) : s.JobsKept (s.beginReset k) := by
  have hs (n : Fin 8) : ((s.beginReset k).stream n).state ≠ .active := by
    rw [stream_beginReset]; exact nofun
  have hq : (s.beginReset k).sc.queue = [] := rfl
  refine ⟨fun _ m _ hm => (hs m hm).elim, fun _ => ⟨hq ▸ List.nodup_nil, fun m hm => ?_, fun m hm => (hs m hm).elim⟩⟩
  rw [hq] at hm
  cases hm

theorem powerUp_kept (s : State) : s.JobsKept s.powerUp := by
  have hs : s.powerUp.sc = State.reset.sc := rfl
  have k : s.powerUp.jobs = State.reset.jobs := jobs_of_sc hs
  obtain ⟨-, h1, h2, -, -⟩ := resetMeetsTheInvariants
  have kept := State.JobsKept.of_jobs k
  exact ⟨fun _ => kept.one h1, fun _ => kept.sound h2⟩

theorem writeControl_kept (s : State) (v : Word32) : s.JobsKept (s.writeControl v) := by
  unfold State.writeControl
  split
  · exact .refl s
  · split
    · exact beginReset_kept s _
    · have f := plainControl_frame s v
      exact (State.JobStep.of_jobs (jobs_of_lists f.streams f.queue)).settles s

theorem trigger_jobs (s : State) : s.trigger.jobs = s.jobs := by
  obtain ⟨_, _, _, _, e⟩ := trigger_sc s
  exact jobs_of_lists (by rw [e]) (by rw [e])

theorem writeArea_jobs (s : State) (v : Word32) : (s.writeArea v).jobs = s.jobs := by
  have k : (s.moveArea v).jobs = s.jobs := by
    unfold State.moveArea
    dsimp only
    split <;> exact jobs_of_lists rfl rfl
  unfold State.writeArea
  split
  · rfl
  · exact (settleBus_jobs _).trans k

theorem writeRegister_kept (s : State) (o : Nat) (v : Word32) : s.JobsKept (s.writeRegister o v) := by
  unfold State.writeRegister
  split
  · exact writeControl_kept s v
  · refine .of_jobs ?_
    repeat' split
    · exact (settleBus_jobs _).trans (trigger_jobs s)
    · rfl
    · rfl
    · exact writeArea_jobs s v
    · rfl

theorem press_jobs (s : State) (b : Button) {act : State → State} (h : ∀ u : State, (act u).sc = u.sc) :
    (s.press b act).jobs = s.jobs := by
  rcases press_cases s b act with ⟨-, e⟩ | ⟨-, -, e⟩ | ⟨-, -, e⟩ <;> rw [e]
  · rfl
  · exact jobs_of_sc (h _)

theorem elapse_jobs (s : State) (d : Nat) : (s.elapse d).jobs = s.jobs := rfl

/-! ## The commands -/

/-- Every command keeps at most one stream ACTIVE and the Job Queue sound. -/
theorem exec_jobsKept {c : Instr} {s t : State} (h : exec c s = .next t) : s.JobsKept t := by
  have bus : ∀ (late : Bool) {u : State}, s.JobStep u → s.JobsKept (s.answered late u) := fun late u k => by
    cases late
    · exact k.settles s
    · exact .refl s
  have quiet : ∀ {u : State}, u.jobs = s.jobs → s.JobsKept (State.settle s u) := fun e => (State.JobStep.of_jobs e).settles s
  cases c with
  | powerOn => cases h; exact powerUp_kept s
  | runSet w | runClear w | deviceReset w | glyphFlush w | sweepInterval w => cases h; exact writeControl_kept s _
  | attention w | eventsWrite w | eventMaskWrite w | areaBaseWrite w => cases h; exact writeRegister_kept s _ _
  | registerWriteIgnored k w => cases h; exact writeRegister_kept s _ _
  | deviceResetDone =>
    cases h
    split
    · exact .of_jobs rfl
    · exact .refl s
  | sweepTimerExpiry =>
    simp only [exec, execSweepTimerExpiry] at h
    split at h <;> cases h
    · exact .of_jobs ((settleBus_jobs _).trans (trigger_jobs _))
    · exact .refl s
  | areaHeaderRead data late =>
    cases h
    exact bus late (completed_jobStep s _ _ fun _ u => .of_jobs ((afterHeader_jobs _).trans (jobs_of_lists rfl rfl)))
  | descriptorRead data late =>
    cases h
    refine bus late (completed_jobStep s _ _ fun k u => ?_)
    unfold State.takeDescriptorRead
    split
    · exact takeDescriptor_jobStep u _ data
    · exact .of_jobs (takeRing_jobs u _ data)
    · exact .refl u
  | openRequest =>
    simp only [exec, execOpen] at h
    repeat' split at h
    all_goals cases h
    · exact (doOpen_jobStep s _ _ _ _).settles s
    · exact .refl s
    · exact .refl s
  | closeRequest => cases h; exact (onRequest_jobStep s _ (doClose_jobStep s)).settles s
  | cancelRequest => cases h; exact (onRequest_jobStep s _ (doCancel_jobStep s)).settles s
  | rushRequest => cases h; exact (onRequest_jobStep s _ (doRush_jobStep s)).settles s
  | resetRequest => cases h; exact (onRequest_jobStep s _ (doReset_jobStep s)).settles s
  | badRequest => cases h; exact (onRequest_jobStep s _ fun n x => .of_jobs (answer_jobs s n x _)).settles s
  | fontDirectoryRead data late =>
    cases h
    exact bus late (completed_jobStep s _ _ fun _ u => .of_jobs ((endScan_jobs _).trans (jobs_of_lists rfl rfl)))
  | ringRead data late =>
    cases h
    refine bus late (completed_jobStep s _ _ fun k u => ?_)
    unfold State.takeRingRead
    split <;> exact .of_jobs (jobs_of_lists rfl rfl)
  | lineRecord => cases h; exact (takeRecord_jobStep s _ fun n x ha => takeLine_jobStep ha x).settles s
  | jobRecord => cases h; exact (takeRecord_jobStep s _ fun n _ ha => takeJob_jobStep ha).settles s
  | endRecord => cases h; exact (takeRecord_jobStep s _ fun n x ha => takeEnd_jobStep ha x).settles s
  | markRecord => cases h; exact (takeRecord_jobStep s _ fun n x ha => takeMark_jobStep ha x).settles s
  | wrapRecord => cases h; exact (takeRecord_jobStep s _ fun n _ ha => takeWrap_jobStep ha).settles s
  | discardRecord => cases h; exact (discardRecord_jobStep s).settles s
  | formTransfer data late => cases h; exact bus late (completed_jobStep s _ _ fun _ u => takeFormBytes_jobStep u data)
  | flushTimerExpiry =>
    simp only [exec, execFlushTimerExpiry] at h
    split at h <;> cases h
    · exact quiet ((flushExpired_jobs _).trans (elapse_jobs s _))
    · exact .refl s
  | descriptorWrite late =>
    cases h
    refine bus late (completed_jobStep s _ _ fun k u => ?_)
    unfold State.takeDescriptorWrite
    split
    · exact .of_jobs (jobs_of_sc (by simp))
    · exact .refl u
  | requestFieldWrite late =>
    cases h
    refine bus late (completed_jobStep s _ _ fun k u => ?_)
    unfold State.takeRequestField
    split
    · exact requestFieldWritten_jobStep u _ false
    · exact .refl u
  | deviceRecordWrite late => cases h; exact bus late (completed_jobStep s _ _ fun _ u => .of_jobs (jobs_of_sc (by simp)))
  | busError late => cases h; exact bus late (failed_jobStep s failureOf_jobStep)
  | limitTimerExpiry =>
    simp only [exec, execLimitTimerExpiry] at h
    split at h <;> cases h
    · exact ((failed_jobStep _ failureOf_jobStep).after (elapse_jobs s _)).settles s
    · exact .refl s
  | bandBegin =>
    simp only [exec, execBandBegin] at h
    split at h <;> cases h
    · exact quiet (jobs_of_sc (by simp))
    · exact .refl s
  | subBlockRead data late => cases h; exact bus late (completed_jobStep s _ _ fun _ u => .of_jobs (jobs_of_sc (by simp)))
  | flushDirectoryRead data late => cases h; exact bus late (completed_jobStep s _ _ fun _ u => .of_jobs rfl)
  | messageHandover =>
    simp only [exec, execMessageHandover] at h
    split at h <;> cases h
    · exact .refl s
    · exact quiet (jobs_of_sc (by simp))
  | pollTimerExpiry =>
    simp only [exec, execPollTimerExpiry] at h
    repeat' split at h
    all_goals cases h
    · exact .refl s
    · exact .of_jobs rfl
    · exact .refl s
  | answerTimerExpiry =>
    simp only [exec, execAnswerTimerExpiry] at h
    repeat' split at h
    all_goals cases h
    · exact .refl s
    · exact quiet ((missPoll_jobs _).trans (elapse_jobs s _))
    · exact .refl s
  | status f | exitFrame f | refusedFrame f | badFrame f => cases h; exact quiet (receive_jobs s f)
  | startButton => cases h; exact quiet (press_jobs s .start fun u => by simp)
  | stopButton => cases h; exact quiet (press_jobs s .stop fun u => by simp)
  | topOfForm =>
    cases h
    exact .of_jobs (press_jobs s .topOfForm fun u => by unfold State.pressTop; split <;> simp)
  | lineButton =>
    cases h
    exact .of_jobs (press_jobs s .line fun u => by unfold State.pressLine State.setRepeat; split <;> simp)
  | lampTest => cases h; exact .of_jobs (press_jobs s .lampTest fun _ => rfl)
  | buttonRelease b =>
    cases h
    refine .of_jobs (jobs_of_sc ?_)
    split <;> simp
  | repeatTimerExpiry =>
    simp only [exec, execRepeatTimerExpiry] at h
    split at h <;> cases h
    · exact .of_jobs (jobs_of_sc (by simp))
    · exact .refl s
  | lingerTimerExpiry =>
    simp only [exec, execLingerTimerExpiry] at h
    split at h <;> cases h
    · exact .of_jobs rfl
    · exact .refl s
  | blinkHalf => cases h; exact .of_jobs rfl

/-- A step runs the command at the front of the queue, or lets a millisecond pass. -/
theorem step_jobsKept {s t : State} (h : step s = .next t) : s.JobsKept t := by
  unfold step at h
  split at h
  · next rest _ =>
    have k : s.JobsKept (s.withPending rest) := .of_jobs rfl
    exact k.trans (exec_jobsKept h)
  · cases h
    exact .of_jobs (elapse_jobs s 1)

/-- Settles O6: of all a step does only the grant makes a stream ACTIVE, and it waits until none is. -/
theorem oneStreamStaysActive : Obligations.OneStreamStaysActive := by
  unfold Obligations.OneStreamStaysActive
  exact fun s t h hstep => (step_jobsKept hstep).one h

/-- Settles O7: a stream leaves the queue, stays out of it, or enters it QUEUED and not discarding; eight streams
with no repeat make at most 8 entries. -/
theorem jobQueueStaysSound : Obligations.JobQueueStaysSound := by
  unfold Obligations.JobQueueStaysSound
  refine fun s h => ⟨?_, fun t hstep => (step_jobsKept hstep).sound h⟩
  simpa using h.1.length_le_card

end Sys2Proof.Machine
end
section
/-! PROOF. CANCEL outside a job and RUSH (R24 to R26). -/

namespace Sys2Proof.Machine

/-! ## CANCEL outside a job (R24, R25) -/

/-- The record of a stream as its discard begins, with the report it is to make (R44). -/
def StreamRec.discarding (r : StreamRec) (reports : Bool) : StreamRec :=
  { r with discard := true, discardReports := reports, discardTag := none, discardStalled := false }

theorem beginDiscard_stream (s : State) (n : Fin 8) (b : Bool) (m : Fin 8) :
    (s.beginDiscard n b).stream m = if n = m then (s.stream m).discarding b else s.stream m :=
  State.stream_modStream s n m _

/-- The state of a stream that leaves ownership with records left, or with none (R25, step 6). -/
def StreamRec.leaving (r : StreamRec) : StreamState := if r.fill ≠ r.take then .queued else .idle

theorem leaving_inactive (r : StreamRec) : r.leaving ≠ .active := by
  unfold StreamRec.leaving
  split <;> exact nofun

/-- What CANCEL of an ACTIVE stream with no JOB taken leaves. -/
theorem leaveToDiscard_leaves (s : State) (n : Fin 8) :
    (∀ m, (s.leaveToDiscard n).stream m = if n = m then { s.stream m with state := (s.stream n).leaving } else s.stream m) ∧
    (s.leaveToDiscard n).sc.queue = s.sc.queue ∧ (s.leaveToDiscard n).sc.buffer = [] ∧
    (s.leaveToDiscard n).sc.readFailed = false ∧ (s.leaveToDiscard n).comp = Composer.initial := by
  obtain ⟨h1, h2, h3, h4⟩ := giveUp_sc s n (s.stream n).leaving
  exact ⟨giveUp_stream s n _, h1, h2, h3, h4⟩

theorem onEngine_iff (sl : Slot) : sl.onEngine = true ↔ sl.state = .imaging ∨ sl.state = .sent := by simp [Slot.onEngine]

/-- Settles O28: CANCEL by the stream's state; where a discard begins, the stream is out of the Job Queue. -/
theorem cancelBeginsADiscard : Obligations.CancelBeginsADiscard := by
  unfold Obligations.CancelBeginsADiscard
  refine ⟨onEngine_iff, fun n x base size s hb hp hc hcomp hg ha => ?_⟩
  have hexec : exec .cancelRequest s = .next (State.settle s (s.doCancel n x)) := by
    rw [← onRequest_acts hp hc s.doCancel]; rfl
  have same (r : RequestResult) := settle_answered s hb hcomp hg n x r
  refine ⟨_, hexec, ?_⟩
  cases hs : (s.stream n).state with
  | closed =>
    obtain ⟨a, st⟩ := same .nothingToCancel
    have e : s.doCancel n x = s.answer n x .nothingToCancel := by simp [State.doCancel, hs]
    rw [e]
    exact ⟨a.phase, a.owes, nofun, nofun, fun _ => ⟨a.core, a.queue⟩, nofun, nofun, a.others, a.store, a.form, a.hostMem⟩
  | idle =>
    obtain ⟨a, st⟩ := same .nothingToCancel
    have e : s.doCancel n x = s.answer n x .nothingToCancel := by simp [State.doCancel, hs]
    rw [e]
    exact ⟨a.phase, a.owes, nofun, nofun, fun _ => ⟨a.core, a.queue⟩, nofun, nofun, a.others, a.store, a.form, a.hostMem⟩
  | faulted =>
    obtain ⟨a, st⟩ := same .refusedState
    have e : s.doCancel n x = s.answer n x .refusedState := by simp [State.doCancel, hs]
    rw [e]
    exact ⟨a.phase, a.owes, nofun, nofun, nofun, fun _ => ⟨a.core, a.queue⟩, nofun, a.others, a.store, a.form, a.hostMem⟩
  | queued =>
    cases hd : (s.stream n).discard with
    | true =>
      obtain ⟨a, st⟩ := same .accepted
      have e : s.doCancel n x = s.answer n x .accepted := by simp [State.doCancel, State.cancelStream, hs, hd]
      rw [e]
      exact ⟨a.phase, a.owes, nofun, fun _ _ => ⟨a.core, a.queue⟩, nofun, nofun, nofun, a.others, a.store, a.form,
        a.hostMem⟩
    | false =>
      let v := (s.dequeue n).beginDiscard n true
      have hv (m : Fin 8) : v.stream m = if n = m then (s.stream m).discarding true else s.stream m :=
        beginDiscard_stream (s.dequeue n) n true m
      have hvg : v.GrantsNothing := grantsNothing_change hg (by rw [hs]; exact nofun)
        (by rw [hv, if_pos rfl]; rw [StreamRec.discarding, hs]; exact nofun)
        (fun m hm => by rw [hv, if_neg (Ne.symm hm)]) (fun h => by show s.sc.queue.filter _ = []; rw [h]; rfl) rfl
      obtain ⟨a, st⟩ := settle_answered s (v := v) hb ⟨hcomp.waits, hcomp.readFailed, hcomp.noCheck⟩ hvg n x .accepted
      have e : s.doCancel n x = v.answer n x .accepted := by simp [State.doCancel, State.cancelStream, hs, hd, v]
      rw [e]
      refine ⟨a.phase, a.owes, fun _ _ => ⟨?_, a.queue⟩, nofun, nofun, nofun, nofun, fun m hm => ?_, a.store, a.form,
        a.hostMem⟩
      · rw [a.core, hv, if_pos rfl]; rfl
      · rw [a.others m hm, hv, if_neg (Ne.symm hm)]
  | active =>
    obtain ⟨hj, hq, ho⟩ := ha hs
    let v := (s.leaveToDiscard n).beginDiscard n true
    obtain ⟨l1, l2, l3, l4, l5⟩ := leaveToDiscard_leaves s n
    have hv (m : Fin 8) : v.stream m =
        if n = m then { (s.stream m).discarding true with state := (s.stream n).leaving } else s.stream m := by
      rw [beginDiscard_stream, l1]
      split <;> rfl
    obtain ⟨a, st⟩ := settle_answered s (v := v) (by simpa [v] using hb)
      ⟨by rw [show v.comp = _ from l5]; rfl, l4, by simpa [v, State.leaveToDiscard] using hcomp.noCheck⟩
      (.inr (.inl (l2.trans hq))) n x .accepted
    have e : s.doCancel n x = v.answer n x .accepted := by simp [State.doCancel, State.cancelStream, hs, hj, v]
    rw [e]
    refine ⟨a.phase, a.owes, nofun, nofun, nofun, nofun, fun _ => ⟨?_, a.comp.trans l5, st.buffer.trans l3⟩,
      fun m hm => ?_, ?_, ?_, ?_⟩
    · rw [a.core, hv, if_pos rfl]; rfl
    · rw [a.others m hm, hv, if_neg (Ne.symm hm)]
    · exact a.store.trans (by simp [v, State.leaveToDiscard])
    · exact a.form.trans (by simp [v, State.leaveToDiscard])
    · exact a.hostMem.trans (by simp [v, State.leaveToDiscard])

/-! ## RUSH (R26) -/

theorem rushStream_stream (s : State) (n m : Fin 8) :
    (s.rushStream n).stream m = if n = m then { s.stream m with rush := true } else s.stream m := by
  have h : (s.rushStream n).stream m = (s.modStream n fun r => { r with rush := true }).stream m := by
    unfold State.rushStream
    dsimp only
    split <;> rfl
  rw [h, State.stream_modStream]

/-- RUSH moves a QUEUED stream that neither discards nor was rushed, and no other. -/
theorem rushStream_queue (s : State) (n : Fin 8) : (s.rushStream n).sc.queue =
    if (s.stream n).state = .queued ∧ (s.stream n).discard = false ∧ (s.stream n).rush = false then
      (s.rushStream n).insertRushed n (s.sc.queue.filter (· ≠ n))
    else s.sc.queue := by
  by_cases h : (s.stream n).state = .queued ∧ (s.stream n).discard = false ∧ (s.stream n).rush = false
  · let u := s.modStream n fun r => { r with rush := true }
    have e : s.rushStream n = (u.dequeue n).enqueue n := by simp only [State.rushStream, if_pos h, u]
    have hr : ((u.dequeue n).stream n).rush = true := by
      show (u.stream n).rush = true
      rw [State.stream_modStream_same]
    rw [if_pos h, e]
    exact (if_pos hr).trans (insertRushed_congr (s := u.dequeue n) (t := (u.dequeue n).enqueue n) (fun _ => rfl) n _)
  · rw [if_neg h]
    simp only [State.rushStream, if_neg h]
    rfl

/-- RUSH leaves the read that failed and what the Composer does. -/
theorem rushStream_composed {s : State} (h : s.Composed) (n : Fin 8) : (s.rushStream n).Composed := by
  have hr : (s.rushStream n).sc.readFailed = s.sc.readFailed := by
    unfold State.rushStream
    dsimp only
    split <;> rfl
  exact ⟨by simpa using h.waits, hr.trans h.readFailed, by simpa using h.noCheck⟩

/-- Settles O30: RUSH by the stream's state; the queue is the one without the stream, with it behind the rushed. -/
theorem rushMovesTheStreamForward : Obligations.RushMovesTheStreamForward := by
  unfold Obligations.RushMovesTheStreamForward
  intro n x base size s hb hp hc hcomp hg
  have hexec : exec .rushRequest s = .next (State.settle s (s.doRush n x)) := by
    rw [← onRequest_acts hp hc s.doRush]; rfl
  refine ⟨_, hexec, ?_⟩
  by_cases hi : (s.stream n).state = .closed ∨ (s.stream n).state = .faulted
  · have e : s.doRush n x = s.answer n x .refusedState := by rcases hi with h | h <;> simp [State.doRush, h]
    obtain ⟨a, -⟩ := settle_answered s hb hcomp (hg.imp id fun h => h.symm.imp (·.1) id) n x .refusedState
    rw [e]
    have hne : (s.stream n).state ≠ .queued := by rcases hi with h | h <;> simp [h]
    exact ⟨a.phase, a.owes, fun _ => ⟨a.core, a.queue⟩, fun h1 h2 => (hi.elim h1 h2).elim, fun _ => a.queue,
      fun _ _ hq => absurd hq hne, a.others, a.comp, a.store, a.form, a.hostMem⟩
  · obtain ⟨h1, h2⟩ := not_or.mp hi
    have e : s.doRush n x = (s.rushStream n).answer n x .accepted := by
      cases hs : (s.stream n).state <;> simp_all [State.doRush]
    have hst := rushStream_stream s n
    have hown : (s.rushStream n).owner = none ↔ s.owner = none := owner_none_congr fun m => by
      rw [hst]; split <;> rfl
    have hvg : (s.rushStream n).GrantsNothing := by
      rcases hg with h | h | ⟨hq, hne⟩
      · exact .inl (hown.not.mpr h)
      · exact .inr (.inr (by simpa using h))
      · exact .inr (.inl (by rw [rushStream_queue, if_neg fun k => hne k.1, hq]))
    obtain ⟨a, -⟩ := settle_answered s (v := s.rushStream n) (by simpa using hb) (rushStream_composed hcomp n) hvg n x
      .accepted
    rw [e]
    refine ⟨a.phase, a.owes, fun h => absurd h hi, fun _ _ => ?_, fun h => ?_, fun front back hq hd hr he hback hfront => ?_,
      fun m hm => ?_, a.comp.trans (by simp), a.store.trans (by simp), a.form.trans (by simp), a.hostMem.trans (by simp)⟩
    · rw [a.core, hst, if_pos rfl]; rfl
    · rw [a.queue, rushStream_queue, if_neg]
      rintro ⟨hq, hd, hr⟩
      rcases h with h | h | ⟨-, h | h⟩ <;> simp_all
    · rw [a.queue, rushStream_queue, if_pos ⟨hq, hd, hr⟩, he]
      have hne (m : Fin 8) (hm : m ∈ front ++ back) : n ≠ m := by
        rw [← he, List.mem_filter] at hm
        exact Ne.symm (by simpa using hm.2)
      have hrush (m : Fin 8) (hm : m ∈ front ++ back) : ((s.rushStream n).stream m).rush = (s.stream m).rush := by
        rw [hst, if_neg (hne m hm)]
      refine insertRushed_behind (fun m hm => ?_) fun m hm => ?_
      · rw [hrush m (List.mem_append_left _ (List.mem_of_getLast? hm))]
        exact hfront m hm
      · rw [hrush m (List.mem_append_right _ hm)]
        exact hback m hm
    · rw [a.others m hm, hst, if_neg (Ne.symm hm)]

end Sys2Proof.Machine
end
section
/-! PROOF. The ring reads of the ACTIVE stream and of a discard (R29, R32). -/

namespace Sys2Proof.Machine

theorem wrap_sound {h : RecordHeader} (hk : h.kind = .wrap) (hl : h.length = 8) : h.sound = true := by
  simp [RecordHeader.sound, RecordHeader.ruleLength, hk, hl]

/-- A WRAP behind whole records is found, with a record of at least 8 bytes to each unit of fuel. -/
theorem wrapAhead_reaches {back : List Byte} (hk : (recordHeader back).kind = .wrap) (hl : (recordHeader back).length = 8)
    (h8 : 8 ≤ back.length) :
    ∀ (fuel : Nat) (records : List (List Byte)), (records.flatten ++ back).length ≤ 8 * fuel →
      (∀ r ∈ records, r.length = (recordHeader r).length ∧ (recordHeader r).sound = true) →
      wrapAhead fuel (records.flatten ++ back) = true
  | 0, records, hf, _ => by rw [List.length_append] at hf; omega
  | fuel + 1, [], _, _ => by
    rw [List.flatten_nil, List.nil_append, wrapAhead, if_neg (by simp [wrap_sound hk hl, h8]), hk]
    rfl
  | fuel + 1, b :: bs, hf, h => by
    obtain ⟨hb, hs⟩ := h b List.mem_cons_self
    have hb8 : 8 ≤ b.length := hb ▸ RecordHeader.sound_length hs
    rw [List.flatten_cons, List.append_assoc, List.length_append] at hf
    have ih := wrapAhead_reaches hk hl h8 fuel bs (by omega) fun c hc => h c (List.mem_cons_of_mem _ hc)
    have hne : ¬((b ++ (bs.flatten ++ back)).length < 8 ∨ (recordHeader b).sound = false) := by
      rw [List.length_append, hs]
      simp only [reduceCtorEq, or_false]
      omega
    rw [List.flatten_cons, List.append_assoc, wrapAhead, recordHeader_append _ hb8, if_neg hne, ← hb, List.drop_left, ih]
    simp

theorem exec_ringRead {s : State} {k : TransferKind} {len : Nat} (h : s.OnBus k len) (hp : k.isRingRead = true)
    {data : List Byte} (hd : data.length = len) : ∃ q,
    exec (.ringRead data) s = .next (State.settle s ((s.endTransfer q).takeRingRead data k)) := by
  obtain ⟨q, hq⟩ := completed_read h (p := (·.isRingRead)) hp hd fun k s => s.takeRingRead data k
  exact ⟨q, by rw [← hq]; rfl⟩

/-- What a settlement shows after bytes that only the read buffer or the held record takes. -/
theorem settle_bytesTaken (old : State) {s u : State} (hb : s.regs.resetBusy = false) (hc : s.Composed)
    (hsc : u.sc = { s.sc with buffer := u.sc.buffer, held := u.sc.held }) (hcomp : u.comp = s.comp)
    (hform : u.form = s.form) (hstore : u.store = s.store) (hregs : u.regs = s.regs) (hmem : u.hostMem = s.hostMem) :
    (State.settle old u).sc.buffer = u.sc.buffer ∧ (State.settle old u).sc.held = u.sc.held ∧
      (State.settle old u).sc.view = s.sc.view ∧ (State.settle old u).store = s.store ∧
      (State.settle old u).form = s.form ∧ (State.settle old u).hostMem = s.hostMem ∧
      (s.GrantsNothing → (∀ m, ((State.settle old u).stream m).core = (s.stream m).core) ∧
        (State.settle old u).comp = s.comp ∧ (State.settle old u).sc.queue = s.sc.queue) := by
  have hub : u.regs.resetBusy = false := by rw [hregs]; exact hb
  have huc : u.Composed := ⟨by rw [hcomp]; exact hc.waits, by rw [hsc]; exact hc.readFailed, by rw [hform]; exact hc.noCheck⟩
  have hst : u.sc.streams = s.sc.streams := by rw [hsc]
  obtain ⟨h1, h2, h3, h4⟩ := State.settle_composed old hub huc
  have hgrant : u.grant.sc.buffer = u.sc.buffer ∧ u.grant.sc.held = u.sc.held := by
    unfold State.grant
    split
    · split <;> exact ⟨rfl, rfl⟩
    · exact ⟨rfl, rfl⟩
  refine ⟨h4.buffer.trans hgrant.1, h4.held.trans hgrant.2, ?_, h1.trans hstore, h2.trans hform, by simp [hmem], fun hg => ?_⟩
  · rw [h4.view, State.grant_view, hsc]
    rfl
  · have hug : u.GrantsNothing := by rwa [State.GrantsNothing, owner_streams hst, hsc, hregs]
    have k := settle_settled old hub huc hug
    exact ⟨fun m => by rw [k.core, stream_streams hst m], k.comp.trans hcomp, k.queue.trans (by rw [hsc])⟩

/-- Settles O33: a WRAP in the buffer is within reach of the look-ahead; the bytes read are appended, or held apart. -/
theorem ringBytesEnterTheBuffer : Obligations.RingBytesEnterTheBuffer := by
  unfold Obligations.RingBytesEnterTheBuffer
  refine ⟨fun n records back s ha hbuf hlen hrec hk hl h8 => ?_, fun n len data s hd hc => ⟨fun h => ?_, fun h => ?_⟩⟩
  · have hw : s.wrapInHand = true := by
      rw [State.wrapInHand, hbuf]
      exact wrapAhead_reaches hk hl h8 (Config.bufferBytes / 8) records (by rw [← hbuf]; simpa [Config.bufferBytes] using hlen) hrec
    simp [State.ringReadOf, ha, hw]
  · obtain ⟨q, e⟩ := exec_ringRead h rfl hd
    exact ⟨_, e, settle_bytesTaken s (u := (s.endTransfer q).takeRingBytes data) h.1 hc rfl rfl rfl rfl rfl rfl⟩
  · obtain ⟨q, e⟩ := exec_ringRead h rfl hd
    obtain ⟨k1, k2, k⟩ := settle_bytesTaken s (u := (s.endTransfer q).holdRecord n data) h.1 hc rfl rfl rfl rfl rfl rfl
    exact ⟨_, e, k2, k1, k⟩

end Sys2Proof.Machine
end
section
/-! SUPPORT. Records at take: what the composing page, take and the state after a record come to, and job reports
that are not due yet (R30, R36, R39, R69). -/

namespace Sys2Proof.Machine

/-! ## Fields of a record but for its wait reason and its report -/

theorem core_state {r q : StreamRec} (h : r.core = q.core) : r.state = q.state := (congrArg StreamRec.state h :)
theorem core_take {r q : StreamRec} (h : r.core = q.core) : r.take = q.take := (congrArg StreamRec.take h :)
theorem core_fill {r q : StreamRec} (h : r.core = q.core) : r.fill = q.fill := (congrArg StreamRec.fill h :)
theorem core_release {r q : StreamRec} (h : r.core = q.core) : r.release = q.release := (congrArg StreamRec.release h :)
theorem core_fault {r q : StreamRec} (h : r.core = q.core) : r.fault = q.fault := (congrArg StreamRec.fault h :)
theorem core_result {r q : StreamRec} (h : r.core = q.core) : r.result = q.result := (congrArg StreamRec.result h :)
theorem core_discard {r q : StreamRec} (h : r.core = q.core) : r.discard = q.discard := (congrArg StreamRec.discard h :)
theorem core_recordsTaken {r q : StreamRec} (h : r.core = q.core) : r.recordsTaken = q.recordsTaken :=
  (congrArg StreamRec.recordsTaken h :)
theorem core_cursorLine {r q : StreamRec} (h : r.core = q.core) : r.cursorLine = q.cursorLine :=
  (congrArg StreamRec.cursorLine h :)
theorem core_pageNo {r q : StreamRec} (h : r.core = q.core) : r.pageNo = q.pageNo := (congrArg StreamRec.pageNo h :)
theorem core_late {r q : StreamRec} (h : r.core = q.core) : r.late = q.late := (congrArg StreamRec.late h :)
theorem core_excess {r q : StreamRec} (h : r.core = q.core) : r.excess = q.excess := (congrArg StreamRec.excess h :)
theorem core_overrun {r q : StreamRec} (h : r.core = q.core) : r.overrun = q.overrun := (congrArg StreamRec.overrun h :)
theorem core_substitutes {r q : StreamRec} (h : r.core = q.core) : r.substitutes = q.substitutes :=
  (congrArg StreamRec.substitutes h :)
theorem core_pagesExited {r q : StreamRec} (h : r.core = q.core) : r.pagesExited = q.pagesExited :=
  (congrArg StreamRec.pagesExited h :)
theorem core_markTag {r q : StreamRec} (h : r.core = q.core) : r.markTag = q.markTag := (congrArg StreamRec.markTag h :)

/-- The record of a stream that faults: its pointers and its count stay (R41). -/
theorem faultActive_record (s : State) (n : Fin 8) (c : FaultCode) :
    ((s.faultActive n c).stream n).state = .faulted ∧ ((s.faultActive n c).stream n).fault = c ∧
      ((s.faultActive n c).stream n).take = (s.stream n).take ∧ ((s.faultActive n c).stream n).fill = (s.stream n).fill ∧
      ((s.faultActive n c).stream n).recordsTaken = (s.stream n).recordsTaken := by
  have h := (faultActive_leaves s n c).1 n
  rw [if_pos rfl] at h
  generalize (s.faultActive n c).stream n = r at h
  exact ⟨(congrArg StreamRec.state h :), (congrArg StreamRec.fault h :), (congrArg StreamRec.take h :),
    (congrArg StreamRec.fill h :), (congrArg StreamRec.recordsTaken h :)⟩

/-! ## The record taken (R30) -/

/-- A whole record at take is acted on by the row of its kind. -/
theorem takeRecord_whole {s : State} {n : Fin 8} {h : RecordHeader} (ho : s.owner = some n) (hr : s.regs.run = true)
    (hc : s.comp.state = .ready) (hw : (s.stream n).atTake s.sc.buffer = .whole h)
    (act : Fin 8 → RecordHeader → State) : s.takeRecord h.kind act = act n h := by
  simp [State.takeRecord, ho, hr, hc, hw]

/-- A record that fails the first checks of R31 faults its stream. -/
theorem takeRecord_bad {s : State} {n : Fin 8} {k k' : RecordKind} (ho : s.owner = some n) (hr : s.regs.run = true)
    (hc : s.comp.state = .ready) (hw : (s.stream n).atTake s.sc.buffer = .bad k') (hk : k' = k ∨ k' = .unknown)
    (act : Fin 8 → RecordHeader → State) : s.takeRecord k act = s.faultActive n .badRecord := by
  simp [State.takeRecord, ho, hr, hc, hw, hk]

/-! ## The owner -/

theorem owner_of_jobs {s t : State} (h : t.jobs = s.jobs) : t.owner = s.owner := by
  simp only [State.owner, state_of_jobs h]

theorem queue_of_jobs {s t : State} (h : t.jobs = s.jobs) : t.sc.queue = s.sc.queue := (jobs_eq_iff.mp h).1

theorem grantsNothing_owner {s : State} {n : Fin 8} (h : s.owner = some n) : s.GrantsNothing := .inl (by rw [h]; exact nofun)

/-- With at most one stream ACTIVE, none is left once that one gives up ownership. -/
theorem owner_none_of_leaves {s t : State} {n : Fin 8} (h1 : s.OneActive) (ha : (s.stream n).state = .active)
    (hn : (t.stream n).state ≠ .active) (ho : ∀ m, m ≠ n → (t.stream m).state = (s.stream m).state) : t.owner = none := by
  rw [owner_none_iff]
  intro m hm
  by_cases e : m = n
  · subst e; exact hn hm
  · exact e (h1 m n ((ho m e).symm.trans hm) ha)

/-! ## The composing page -/

theorem composing_congr {s t : State} (h : ∀ k, (t.slot k).mark = (s.slot k).mark) : t.composing = s.composing := by
  simp only [State.composing, h]

theorem slot_modComposing {s : State} {i : Fin 4} (h : s.composing = some i) (f : Slot → Slot) (k : Fin 4) :
    (s.modComposing f).slot k = if i = k then f (s.slot k) else s.slot k := by
  simp only [State.modComposing, h, State.slot_modSlot]

theorem modComposing_none {s : State} (h : s.composing = none) (f : Slot → Slot) : s.modComposing f = s := by
  simp only [State.modComposing, h]

theorem modComposing_store (s : State) (f : Slot → Slot) : (s.modComposing f).store.poolUsed = s.store.poolUsed ∧
    (s.modComposing f).store.imaging = s.store.imaging ∧ (s.modComposing f).store.lastOpened = s.store.lastOpened := by
  unfold State.modComposing
  split <;> exact ⟨rfl, rfl, rfl⟩

theorem modComposing_composing (s : State) {f : Slot → Slot} (hf : ∀ sl, (f sl).mark = sl.mark) :
    (s.modComposing f).composing = s.composing := by
  cases h : s.composing with
  | none => rw [modComposing_none h, h]
  | some i =>
    rw [← h]
    refine composing_congr fun k => ?_
    rw [slot_modComposing h]
    split
    · exact hf _
    · rfl

/-! ## Take (R30) -/

/-- The record of a stream whose take stands at `k` after one record more. -/
def StreamRec.taken (r : StreamRec) (k : Nat) : StreamRec := { r with take := k, recordsTaken := satAdd r.recordsTaken 1 }

theorem takeTo_stream (s : State) (n : Fin 8) (k : Nat) (m : Fin 8) :
    (s.takeTo n k).stream m = if n = m then (s.stream m).taken k else s.stream m := by
  have h : (s.takeTo n k).stream m =
      (s.modStream n fun r => { r with take := k, recordsTaken := satAdd r.recordsTaken 1 }).stream m :=
    State.stream_congr (State.modComposing_keeps _ _).2.1 m
  rw [h, State.stream_modStream]
  rfl

theorem takeTo_composing (s : State) (n : Fin 8) (k : Nat) : (s.takeTo n k).composing = s.composing :=
  modComposing_composing _ fun _ => rfl

theorem takeTo_slot {s : State} {i : Fin 4} (h : s.composing = some i) (n : Fin 8) (k : Nat) (j : Fin 4) :
    (s.takeTo n k).slot j = if i = j then { s.slot j with releaseOff := k } else s.slot j :=
  slot_modComposing (s := s.modStream n _) h _ j

theorem takeTo_store {s : State} (n : Fin 8) (k : Nat) : (s.takeTo n k).store.poolUsed = s.store.poolUsed ∧
    (s.takeTo n k).store.imaging = s.store.imaging ∧ (s.takeTo n k).store.lastOpened = s.store.lastOpened :=
  modComposing_store (s.modStream n _) _

theorem takeTo_buffer (s : State) (n : Fin 8) (k : Nat) : (s.takeTo n k).sc.buffer = s.sc.buffer ∧
    (s.takeTo n k).sc.readFailed = s.sc.readFailed :=
  have h := (State.modComposing_keeps (s.modStream n fun r => { r with take := k, recordsTaken := satAdd r.recordsTaken 1 })
    fun sl => { sl with releaseOff := k }).2.1
  ⟨(congrArg StreamController.buffer h).trans rfl, (congrArg StreamController.readFailed h).trans rfl⟩

theorem advanceTake_stream (s : State) (n : Fin 8) (len : Nat) (m : Fin 8) :
    (s.advanceTake n len).stream m = if n = m then (s.stream m).taken ((s.stream n).after len) else s.stream m :=
  (stream_streams (t := s.takeTo n ((s.stream n).after len)) rfl m).trans (takeTo_stream s n _ m)

theorem advanceTake_composing (s : State) (n : Fin 8) (len : Nat) : (s.advanceTake n len).composing = s.composing :=
  takeTo_composing s n _

theorem advanceTake_slot {s : State} {i : Fin 4} (h : s.composing = some i) (n : Fin 8) (len : Nat) (j : Fin 4) :
    (s.advanceTake n len).slot j =
      if i = j then { s.slot j with releaseOff := (s.stream n).after len } else s.slot j :=
  takeTo_slot h n _ j

theorem advanceTake_store {s : State} (n : Fin 8) (len : Nat) : (s.advanceTake n len).store.poolUsed = s.store.poolUsed ∧
    (s.advanceTake n len).store.imaging = s.store.imaging ∧ (s.advanceTake n len).store.lastOpened = s.store.lastOpened :=
  takeTo_store n _

theorem advanceTake_buffer (s : State) (n : Fin 8) (len : Nat) :
    (s.advanceTake n len).sc.buffer = s.sc.buffer.drop len ∧ (s.advanceTake n len).sc.readFailed = s.sc.readFailed := by
  obtain ⟨h1, h2⟩ := takeTo_buffer s n ((s.stream n).after len)
  exact ⟨congrArg (List.drop len) h1, h2⟩

/-! ## After a record (R36, R69) -/

/-- The Composer `c` goes on after a record of a stream with fill at take or not (R69). -/
structure State.GoesOn (s : State) (n : Fin 8) (c : Composer) : Prop where
  cursor : c.cursor = s.comp.cursor
  job : c.job = s.comp.job
  atFill : (s.stream n).fill = (s.stream n).take → c.state = .atFill ∧ c.flush = s.loadedFlush n
  ready : (s.stream n).fill ≠ (s.stream n).take → c.state = .ready ∧ c.flush = s.comp.flush

/-- With a composing page, or with records left, the Composer goes on. -/
theorem afterTake_goesOn {s : State} {n : Fin 8} (h : (s.stream n).fill = (s.stream n).take → s.composing ≠ none) :
    ∃ c, s.afterTake n = { s with comp := c } ∧ s.GoesOn n c := by
  unfold State.afterTake
  by_cases hf : (s.stream n).fill = (s.stream n).take
  · rw [if_pos hf, if_pos (Option.isSome_iff_ne_none.mpr (h hf))]
    exact ⟨_, rfl, rfl, rfl, fun _ => ⟨rfl, rfl⟩, fun k => absurd hf k⟩
  · rw [if_neg hf]
    exact ⟨_, rfl, rfl, rfl, fun k => absurd k hf, fun _ => ⟨rfl, rfl⟩⟩

theorem afterTake_leaves {s : State} {n : Fin 8} (h : (s.stream n).fill = (s.stream n).take) (hc : s.composing = none) :
    s.afterTake n = s.giveUp n .idle := by simp [State.afterTake, h, hc]

/-- Where a record leaves the Composer, nothing of it waits. -/
theorem afterTake_composed {s : State} (hr : s.sc.readFailed = false) (hf : s.form.noCheck = true) (n : Fin 8) :
    (s.afterTake n).Composed := by
  unfold State.afterTake
  split
  · split
    · exact ⟨rfl, hr, hf⟩
    · obtain ⟨-, -, h3, h4⟩ := giveUp_sc s n .idle
      exact ⟨by rw [h4]; rfl, h3, by simpa using hf⟩
  · exact ⟨rfl, hr, hf⟩

/-- What a settlement shows after a record with which the Composer goes on. -/
structure State.WentOn (v : State) (n : Fin 8) (t : State) : Prop where
  store : t.store = v.store
  form : t.form = v.form
  comp : v.GoesOn n t.comp
  core : ∀ m, (t.stream m).core = (v.stream m).core
  queue : t.sc.queue = v.sc.queue
  buffer : t.sc.buffer = v.sc.buffer
  view : t.sc.view = v.sc.view
  hostMem : t.hostMem = v.hostMem

theorem settle_goesOn (old : State) {v : State} {n : Fin 8} (hb : v.regs.resetBusy = false) (ho : v.owner = some n)
    (hrf : v.sc.readFailed = false) (hf : v.form.noCheck = true)
    (h : (v.stream n).fill = (v.stream n).take → v.composing ≠ none) : v.WentOn n (State.settle old (v.afterTake n)) := by
  have huc := afterTake_composed hrf hf n
  obtain ⟨c, e, hc⟩ := afterTake_goesOn h
  rw [e] at huc ⊢
  have hg : ({ v with comp := c } : State).GrantsNothing := grantsNothing_owner ((State.owner_congr rfl).trans ho)
  have k := settle_settled old (u := { v with comp := c }) hb huc hg
  exact ⟨k.store, k.form, k.comp ▸ hc, k.core, k.queue, k.buffer, k.view, k.hostMem⟩

theorem giveUp_waits {s : State} {n : Fin 8} {st : StreamState} (h : (s.stream n).state ≠ st)
    (hst : st = .idle ∨ st = .faulted ∨ st = .closed) : (s.giveUp n st).Waits ⟨.descriptor n, true, false, false⟩ := by
  unfold State.giveUp
  exact enterState_waits (by exact h) hst

/-- The flush timer loaded while RUN is 1 (R69). -/
theorem loadedFlush_run {s : State} (h : s.regs.run = true) (n : Fin 8) : s.loadedFlush n =
    if (s.stream n).flushSecs = 0 then .stopped else .running ((s.stream n).flushSecs * 1000) := by
  simp [State.loadedFlush, h]

/-! ## Reports that are not due (R39) -/

theorem makeReport_noneDue (old : State) {s : State} {n : Fin 8} (h : noneDue (s.stream n).reports = true) :
    State.makeReport old s n = s := by
  unfold State.makeReport
  cases hr : (s.stream n).reports with
  | nil => rfl
  | cons p rest =>
    rw [hr] at h
    have hp : p.due = false := by simpa [noneDue] using h
    simp [hp]

/-- A stream whose head report is not due, or that owes none, shows and owes what it did. -/
def StreamRec.SameReports (r q : StreamRec) : Prop :=
  r.reports = q.reports ∧ r.jobTag = q.jobTag ∧ r.jobOutcome = q.jobOutcome ∧ r.jobPages = q.jobPages

theorem settleStatus_noneDue (old : State) {s : State} {n : Fin 8} (h : noneDue (s.stream n).reports = true) :
    ((State.settleStatus old s).stream n).SameReports (s.stream n) := by
  obtain ⟨v, h1, -, -, h4, -⟩ := settleStatus_stream old s n
  have hv : (v.stream n).reports = (s.stream n).reports := by rw [h1]
  rw [h4, makeReport_noneDue old (by rw [hv]; exact h), h1]
  exact ⟨rfl, rfl, rfl, rfl⟩

/-- The grant leaves a stream's reports. -/
theorem grant_reports (s : State) (n : Fin 8) : (s.grant.stream n).SameReports (s.stream n) := by
  rw [(grant_stream s n).1]
  exact ⟨rfl, rfl, rfl, rfl⟩

theorem settle_noneDue (old : State) {u : State} (hb : u.regs.resetBusy = false) (hc : u.Composed) {n : Fin 8}
    (h : noneDue (u.stream n).reports = true) : ((State.settle old u).stream n).SameReports (u.stream n) := by
  obtain ⟨v, h1, -, e⟩ := settle_status old hb hc
  obtain ⟨g1, g2, g3, g4⟩ := grant_reports u n
  have hv : v.stream n = u.grant.stream n := State.stream_congr h1 n
  obtain ⟨k1, k2, k3, k4⟩ := settleStatus_noneDue old (s := v) (n := n) (by rw [hv, g1]; exact h)
  rw [e, stream_streams (serveBus_streams _) n]
  rw [hv] at k1 k2 k3 k4
  exact ⟨k1.trans g1, k2.trans g2, k3.trans g3, k4.trans g4⟩

/-- A due report at the head of the list is made, whether its stream is granted or not. -/
theorem settle_due (old : State) {u : State} (hb : u.regs.resetBusy = false) (hc : u.Composed) {n : Fin 8}
    {p : Report} {rest : List Report} (h : (u.stream n).reports = p :: rest) (hd : p.due = true)
    (hw : u.writer.reporting n = false) :
    ((State.settle old u).stream n).Shows p rest ∧ (State.settle old u).Owes ⟨.descriptor n, true, true, false⟩ ∧
      ∀ o : Owed, o.kind = .descriptor n → u.Waits o →
        (State.settle old u).Owes (o.join ⟨.descriptor n, true, true, false⟩) :=
  settle_reports old hb hc ((grant_reports u n).1.trans h) hd hw

end Sys2Proof.Machine
end
section
/-! PROOF. JOB, MARK and WRAP records (R32, R37, R40, R76). -/

namespace Sys2Proof.Machine

/-! ## JOB (R37) -/

/-- The Composer and the Form Unit as a JOB record leaves them before its load. -/
def State.jobTaken (s : State) : State :=
  { s with form := .empty, comp := { s.comp with state := .loadingForm, job := some (jobOf s.sc.buffer) } }

theorem takeJob_loads {s : State} (hj : s.comp.jobInProgress = false) (n : Fin 8)
    (hf : byteAt s.sc.buffer 8 < s.sc.formCount) :
    s.takeJob n = { s.jobTaken with form := .loading ⟨byteAt s.sc.buffer 8, .recordLow, [], [], []⟩ } := by
  have hle : ¬ s.sc.formCount ≤ (jobOf s.sc.buffer).form := Nat.not_le.mpr hf
  unfold State.takeJob
  rw [if_neg (by simp [hj])]
  dsimp only
  rw [if_neg hle]
  rfl

theorem takeJob_badForm {s : State} (hj : s.comp.jobInProgress = false) (n : Fin 8)
    (hf : s.sc.formCount ≤ byteAt s.sc.buffer 8) : s.takeJob n = s.jobTaken.faultActive n .badForm := by
  have hle : s.sc.formCount ≤ (jobOf s.sc.buffer).form := hf
  unfold State.takeJob
  rw [if_neg (by simp [hj])]
  dsimp only
  rw [if_pos hle]
  rfl

theorem exec_jobRecord {s : State} {n : Fin 8} {h : RecordHeader} (ho : s.owner = some n) (hr : s.regs.run = true)
    (hc : s.comp.state = .ready) (hw : (s.stream n).atTake s.sc.buffer = .whole h) (hk : h.kind = .job) :
    exec .jobRecord s = .next (State.settle s (s.takeJob n)) := by
  rw [← takeRecord_whole ho hr hc hw fun n _ => s.takeJob n, hk]
  rfl

/-- Settles O39: the load begins with no part of it brought, or the fault of a JOB not yet in progress is reported. -/
theorem jobBeginsTheLoadOfItsForm : Obligations.JobBeginsTheLoadOfItsForm := by
  unfold Obligations.JobBeginsTheLoadOfItsForm
  intro n h s hb hr ho hc hrf hj hw hk
  refine ⟨_, exec_jobRecord ho hr hc hw hk, ?_⟩
  rcases Nat.lt_or_ge (byteAt s.sc.buffer 8) s.sc.formCount with hlt | hge
  · rw [takeJob_loads hj n hlt]
    have k := settle_settled s
      (u := { s.jobTaken with form := .loading ⟨byteAt s.sc.buffer 8, .recordLow, [], [], []⟩ }) hb
      ⟨rfl, hrf, rfl⟩ (grantsNothing_owner ((State.owner_congr rfl).trans ho))
    refine ⟨core_take (k.core n), fun _ => ⟨congrArg Composer.state k.comp, congrArg Composer.job k.comp,
      k.form, k.core, k.buffer, k.queue⟩, fun hle => absurd hle (Nat.not_le.mpr hlt), k.store, k.view, k.hostMem⟩
  · rw [takeJob_badForm hj n hge]
    have ha := owner_state ho
    obtain ⟨h1, h2, h3, h4, h5⟩ := faultActive_leaves s.jobTaken n .badForm
    obtain ⟨p1, p2, p3⟩ := faultActive_unstarted (s := s.jobTaken) (n := n) (c := .badForm) (j := jobOf s.sc.buffer) rfl rfl
    obtain ⟨r1, r2, r3, -, -⟩ := faultActive_record s.jobTaken n .badForm
    have hu : (s.jobTaken.faultActive n .badForm).regs.resetBusy = false := by simpa [State.jobTaken] using hb
    have huc := faultActive_composed s.jobTaken n .badForm
    have hform : (s.jobTaken.faultActive n .badForm).form = .empty :=
      (faultActive_form _ n _).trans ((abandonLoad_form s.jobTaken).2.2 rfl)
    obtain ⟨k1, k2, k3, k4⟩ := State.settle_composed s hu huc
    have hwait := faultActive_waits (s := s.jobTaken) (n := n) (by show (s.stream n).state ≠ _; rw [ha]; exact nofun) .badForm
    obtain ⟨st, rush, kt⟩ := settle_stream s hu huc n
    refine ⟨?_, fun hlt => absurd hge (Nat.not_le.mpr hlt), fun _ hq => ?_, k1.trans p1, by rw [State.settle_view]; simp [State.jobTaken],
      by simp [State.jobTaken]⟩
    · exact (core_take kt).trans r3
    · obtain ⟨hcore, -⟩ := settle_unqueued s hu huc (m := n) (by rw [h2]; exact hq)
      refine ⟨(core_state hcore).trans r1,
        (core_fault hcore).trans r2, k2.trans hform, ?_,
        hwait.owes.settle s hu huc, fun hrep hwr => ?_, fun r rest hrep hdue => ?_⟩
      · exact k4.buffer.trans ((grant_keepsComposer _ huc.waits).2.trans h3)
      · have e : ((s.jobTaken.faultActive n .badForm).stream n).reports =
            [⟨BitVec.ofNat 32 (le32 s.sc.buffer 12), .faulted, true, 0⟩] :=
          p2.trans (congrArg (· ++ [_]) hrep)
        obtain ⟨⟨s1, s2, s3, -⟩, s5, -⟩ := settle_due s hu huc e rfl (p3.trans hwr)
        exact ⟨s1, s2, s3, s5⟩
      · have e : ((s.jobTaken.faultActive n .badForm).stream n).reports =
            (s.stream n).reports ++ [⟨BitVec.ofNat 32 (le32 s.sc.buffer 12), .faulted, true, 0⟩] := p2
        exact (settle_noneDue s hu huc (by rw [e, hrep]; simp [noneDue, hdue])).1.trans e

/-! ## MARK (R40) -/

theorem exec_markRecord {s : State} {n : Fin 8} {h : RecordHeader} (ho : s.owner = some n) (hr : s.regs.run = true)
    (hc : s.comp.state = .ready) (hw : (s.stream n).atTake s.sc.buffer = .whole h) (hk : h.kind = .mark) :
    exec .markRecord s = .next (State.settle s (s.takeMark n h)) := by
  rw [← takeRecord_whole ho hr hc hw s.takeMark, hk]
  rfl

theorem exec_wrapRecord {s : State} {n : Fin 8} {h : RecordHeader} (ho : s.owner = some n) (hr : s.regs.run = true)
    (hc : s.comp.state = .ready) (hw : (s.stream n).atTake s.sc.buffer = .whole h) (hk : h.kind = .wrap) :
    exec .wrapRecord s = .next (State.settle s (s.takeWrap n)) := by
  rw [← takeRecord_whole ho hr hc hw fun n _ => s.takeWrap n, hk]
  rfl

/-- The state in which a MARK has been taken, before the Composer goes on. -/
def State.markTaken (s : State) (n : Fin 8) (h : RecordHeader) : State :=
  (s.advanceTake n h.length).modComposing fun sl => { sl with markTag := some (shortTag s.sc.buffer) }

theorem markTaken_slot {s : State} {i : Fin 4} (hi : s.composing = some i) (n : Fin 8) (h : RecordHeader) (k : Fin 4) :
    (s.markTaken n h).slot k = if i = k then
      { s.slot k with releaseOff := (s.stream n).after h.length, markTag := some (shortTag s.sc.buffer) } else s.slot k := by
  rw [State.markTaken, slot_modComposing ((advanceTake_composing s n _).trans hi), advanceTake_slot hi]
  split <;> rfl

theorem markTaken_sc (s : State) (n : Fin 8) (h : RecordHeader) : (s.markTaken n h).sc = (s.advanceTake n h.length).sc :=
  (State.modComposing_keeps _ _).2.1

/-- The state in which a WRAP has been taken, before the Composer goes on. -/
def State.wrapTaken (s : State) (n : Fin 8) : State :=
  let gone := (s.stream n).ringSize - (s.stream n).take
  let s1 := s.takeTo n 0
  if s1.sc.buffer.length < gone then
    { s1 with sc := { s1.sc with buffer := [], readFailed := false } }.dropReads (TransferKind.isRing n)
  else { s1 with sc := { s1.sc with buffer := s1.sc.buffer.drop gone } }

theorem takeWrap_eq (s : State) (n : Fin 8) : s.takeWrap n = (s.wrapTaken n).afterTake n := rfl

/-- A WRAP taken leaves all but take, the composing page's release offset and the bytes behind it. -/
theorem wrapTaken_leaves (s : State) (n : Fin 8) :
    (∀ m, (s.wrapTaken n).stream m = (s.takeTo n 0).stream m) ∧ (s.wrapTaken n).store = (s.takeTo n 0).store ∧
    (s.wrapTaken n).sc.queue = s.sc.queue ∧ (s.wrapTaken n).comp = s.comp ∧ (s.wrapTaken n).form = s.form ∧
    (s.wrapTaken n).regs = s.regs ∧ (s.wrapTaken n).hostMem = s.hostMem ∧ (s.wrapTaken n).writer = s.writer ∧
    (s.sc.readFailed = false → (s.wrapTaken n).sc.readFailed = false) := by
  have hq : (s.takeTo n 0).sc.queue = s.sc.queue := queue_of_jobs (takeTo_jobs s n 0)
  have hrf := (takeTo_buffer s n 0).2
  unfold State.wrapTaken
  dsimp only
  split
  · exact ⟨fun m => stream_streams rfl m, by simp, by simpa using hq, by simp, by simp, by simp, by simp, by simp,
      fun _ => by simp⟩
  · exact ⟨fun m => stream_streams rfl m, rfl, hq, by simp, by simp, by simp, by simp, by simp, fun h => hrf.trans h⟩

theorem markTaken_composing (s : State) (n : Fin 8) (h : RecordHeader) : (s.markTaken n h).composing = s.composing := by
  unfold State.markTaken
  rw [modComposing_composing, advanceTake_composing]
  exact fun _ => rfl

theorem markTaken_jobs (s : State) (n : Fin 8) (h : RecordHeader) : (s.markTaken n h).jobs = s.jobs :=
  (jobs_of_sc (markTaken_sc s n h)).trans (advanceTake_jobs s n _)

/-- MARK: the composing page takes its tag and its release offset, and the Composer goes on (R40, R114). -/
theorem settle_markTaken {s : State} {n : Fin 8} {i : Fin 4} (h : RecordHeader) (hb : s.regs.resetBusy = false)
    (ho : s.owner = some n) (hc : s.Composed) (hi : s.composing = some i) :
    (s.markTaken n h).WentOn n (State.settle s ((s.markTaken n h).afterTake n)) ∧
      (s.markTaken n h).comp = s.comp ∧ (s.markTaken n h).form = s.form ∧ (s.markTaken n h).hostMem = s.hostMem := by
  have hf : (s.markTaken n h).form = s.form := by simp [State.markTaken]
  have hvi : (s.markTaken n h).composing = some i := (markTaken_composing s n h).trans hi
  refine ⟨settle_goesOn s (by simpa [State.markTaken] using hb)
    ((owner_of_jobs (markTaken_jobs s n h)).trans ho) ?_ (by rw [hf]; exact hc.noCheck)
    fun _ => by rw [hvi]; exact nofun, by simp [State.markTaken], hf, by simp [State.markTaken]⟩
  rw [markTaken_sc, (advanceTake_buffer s n h.length).2]
  exact hc.readFailed

theorem markTaken_stream (s : State) (n : Fin 8) (h : RecordHeader) (m : Fin 8) :
    (s.markTaken n h).stream m = if n = m then (s.stream m).taken ((s.stream n).after h.length) else s.stream m :=
  (State.stream_congr (markTaken_sc s n h) m).trans (advanceTake_stream s n _ m)

theorem wrapTaken_stream (s : State) (n m : Fin 8) :
    (s.wrapTaken n).stream m = if n = m then (s.stream m).taken 0 else s.stream m :=
  ((wrapTaken_leaves s n).1 m).trans (takeTo_stream s n 0 m)

theorem wrapTaken_owner {s : State} {n : Fin 8} (ho : s.owner = some n) : (s.wrapTaken n).owner = some n := by
  have h : (s.wrapTaken n).jobs = s.jobs := by
    refine jobs_eq_iff.mpr ⟨(wrapTaken_leaves s n).2.2.1, fun m => ?_⟩
    rw [wrapTaken_stream]
    split <;> exact ⟨rfl, rfl⟩
  exact (owner_of_jobs h).trans ho

theorem wrapTaken_composing (s : State) (n : Fin 8) : (s.wrapTaken n).composing = s.composing :=
  (composing_congr fun k => by rw [State.slot_congr (wrapTaken_leaves s n).2.1 k]).trans (takeTo_composing s n 0)

/-- A WRAP at fill with no composing page gives ownership up (R36). -/
theorem settle_wrapLeaves {s : State} {n : Fin 8} (hb : s.regs.resetBusy = false) (ha : (s.stream n).state = .active)
    (hc : s.Composed) (hf : (s.stream n).fill = 0) (hi : s.composing = none) :
    let t := State.settle s ((s.wrapTaken n).afterTake n)
    t.store = (s.wrapTaken n).store ∧ t.form = s.form ∧ t.hostMem = s.hostMem ∧ (t.stream n).take = 0 ∧
      (t.stream n).recordsTaken = satAdd (s.stream n).recordsTaken 1 ∧
      (n ∉ s.sc.queue → (t.stream n).state = .idle ∧ t.Owes ⟨.descriptor n, true, false, false⟩) := by
  obtain ⟨-, -, w3, -, w5, w6, w7, -, -⟩ := wrapTaken_leaves s n
  have hvn : (s.wrapTaken n).stream n = (s.stream n).taken 0 := (wrapTaken_stream s n n).trans (if_pos rfl)
  have hu := afterTake_leaves (s := s.wrapTaken n) (n := n) (by rw [hvn]; exact hf) ((wrapTaken_composing s n).trans hi)
  dsimp only
  rw [hu]
  obtain ⟨g1, g2, g3, g4⟩ := giveUp_sc (s.wrapTaken n) n .idle
  have hub : ((s.wrapTaken n).giveUp n .idle).regs.resetBusy = false := by simpa [w6] using hb
  have huc : ((s.wrapTaken n).giveUp n .idle).Composed :=
    ⟨by rw [g4]; rfl, g3, by simpa [w5] using hc.noCheck⟩
  obtain ⟨k1, k2, -, -⟩ := State.settle_composed s hub huc
  obtain ⟨st, rush, kt⟩ := settle_stream s hub huc n
  have hun : ((s.wrapTaken n).giveUp n .idle).stream n = { (s.stream n).taken 0 with state := .idle } := by
    rw [giveUp_stream, if_pos rfl, hvn]
  rw [hun] at kt
  refine ⟨k1.trans (by simp), k2.trans (by simp [w5]), by simp [w7], (core_take kt),
    (core_recordsTaken kt), fun hq => ⟨?_, ?_⟩⟩
  · obtain ⟨hcore, -⟩ := settle_unqueued s hub huc (m := n) (by rw [g1, w3]; exact hq)
    exact (core_state hcore).trans (by rw [hun])
  · refine (giveUp_waits ?_ (.inl rfl)).owes.settle s hub huc
    rw [hvn]
    show (s.stream n).state ≠ _
    rw [ha]
    exact nofun

/-- Settles O41: take advances, or becomes 0, with the composing page's release offset; the page goes on. -/
theorem markAndWrapMoveTake : Obligations.MarkAndWrapMoveTake := by
  unfold Obligations.MarkAndWrapMoveTake
  intro n h s hb hr ho hcomp hc hw
  have ha := owner_state ho
  refine ⟨fun i hk hj hi => ⟨_, exec_markRecord ho hr hc hw hk, ?_⟩, fun hk => ⟨_, exec_wrapRecord ho hr hc hw hk, ?_⟩⟩
  · have hv : s.takeMark n h = (s.markTaken n h).afterTake n := if_pos hj
    obtain ⟨k, kcomp, kform, kmem⟩ := settle_markTaken h hb ho hcomp hi
    rw [hv]
    have kn := k.core n
    rw [markTaken_stream, if_pos rfl] at kn
    have kslot (j : Fin 4) := (State.slot_congr k.store j).trans (markTaken_slot hi n h j)
    have ki := (kslot i).trans (if_pos rfl)
    refine ⟨by rw [ki]; rfl, by rw [ki], by rw [ki], by rw [ki], (core_take kn),
      (core_recordsTaken kn), k.comp.cursor.trans (by rw [kcomp]), (core_state kn).trans ha,
      ?_, fun j hj => (kslot j).trans (if_neg (Ne.symm hj)), fun m hm => ?_, k.form.trans kform, k.hostMem.trans kmem⟩
    · rw [k.buffer, markTaken_sc]
      exact (advanceTake_buffer s n h.length).1
    · rw [k.core, markTaken_stream, if_neg (Ne.symm hm)]
  · rw [takeWrap_eq]
    obtain ⟨-, wstore, -, wcomp, wform, wregs, wmem, -, wrf⟩ := wrapTaken_leaves s n
    obtain ⟨p1, p2, -⟩ := takeTo_store (s := s) n 0
    have hvn : (s.wrapTaken n).stream n = (s.stream n).taken 0 := (wrapTaken_stream s n n).trans (if_pos rfl)
    have page {t : State} (ht : t.store = (s.wrapTaken n).store) (i : Fin 4) (hi : s.composing = some i) :
        (t.slot i).releaseOff = 0 ∧ (t.slot i).strikes = (s.slot i).strikes := by
      rw [State.slot_congr (ht.trans wstore), takeTo_slot hi, if_pos rfl]
      exact ⟨rfl, rfl⟩
    by_cases hg : (s.stream n).fill = 0 ∧ s.composing = none
    · obtain ⟨hf, hi⟩ := hg
      obtain ⟨k1, k2, k3, k4, k5, k6⟩ := settle_wrapLeaves hb ha hcomp hf hi
      exact ⟨k4, k5, page k1, fun h => absurd hf h, fun _ _ _ hq => k6 hq, by rw [k1, wstore, p1], by rw [k1, wstore, p2], k2, k3⟩
    · have k := settle_goesOn s (v := s.wrapTaken n) (n := n) (by rw [wregs]; exact hb) (wrapTaken_owner ho)
        (wrf hcomp.readFailed) (by rw [wform]; exact hcomp.noCheck) fun h => by
          rw [wrapTaken_composing]; rw [hvn] at h; exact fun e => hg ⟨h, e⟩
      have kn := k.core n
      rw [hvn] at kn
      refine ⟨(core_take kn), (core_recordsTaken kn), page k.store,
        fun hf => ⟨(k.comp.ready (by rw [hvn]; exact hf)).1, k.comp.cursor.trans (by rw [wcomp]),
          (core_state kn).trans ha⟩, fun hf hi => (hg ⟨hf, hi⟩).elim, by rw [k.store, wstore, p1],
        by rw [k.store, wstore, p2], k.form.trans wform, k.hostMem.trans wmem⟩

end Sys2Proof.Machine
end
section
/-! SUPPORT. Fields in a run of bytes and bits, and where each stands in what the part writes and sends (R19, R125, R154,
R166, R191, R192). -/

namespace Sys2Proof.Machine

/-! ## Little-endian fields (R191) -/

theorem byteAt_drop {b tl : List Byte} {i : Nat} {x : Byte} (h : b.drop i = x :: tl) :
    byteAt b i = x.toNat ∧ b.drop (i + 1) = tl := by
  have hx : b[i]? = some x := by rw [← List.head?_drop, h]; rfl
  refine ⟨by simp [byteAt, List.getD_eq_getElem?_getD, hx], ?_⟩
  rw [← List.tail_drop, h]
  rfl

theorem le16_drop {b tl : List Byte} {i : Nat} {x0 x1 : Byte} (h : b.drop i = x0 :: x1 :: tl) :
    le16 b i = x0.toNat + 256 * x1.toNat := by
  obtain ⟨h0, k0⟩ := byteAt_drop h
  obtain ⟨h1, -⟩ := byteAt_drop k0
  rw [le16, h0, h1]

theorem le24_drop {b tl : List Byte} {i : Nat} {x0 x1 x2 : Byte} (h : b.drop i = x0 :: x1 :: x2 :: tl) :
    le24 b i = x0.toNat + 256 * x1.toNat + 65536 * x2.toNat := by
  obtain ⟨-, k0⟩ := byteAt_drop h
  obtain ⟨-, k1⟩ := byteAt_drop k0
  obtain ⟨h2, -⟩ := byteAt_drop k1
  rw [le24, le16_drop h, h2]

theorem le32_drop {b tl : List Byte} {i : Nat} {x0 x1 x2 x3 : Byte} (h : b.drop i = x0 :: x1 :: x2 :: x3 :: tl) :
    le32 b i = x0.toNat + 256 * x1.toNat + 65536 * x2.toNat + 16777216 * x3.toNat := by
  obtain ⟨-, k0⟩ := byteAt_drop h
  obtain ⟨-, k1⟩ := byteAt_drop k0
  rw [le32, le16_drop h, le16_drop k1]
  omega

/-- A field of one byte. -/
theorem byteAt_field {b tl : List Byte} {i v : Nat} (h : b.drop i = leBytes 1 v ++ tl) (hv : v < 256) : byteAt b i = v := by
  rw [(byteAt_drop h).1, BitVec.toNat_ofNat]
  exact Nat.mod_eq_of_lt hv

/-- A field of two bytes. -/
theorem le16_field {b tl : List Byte} {i v : Nat} (h : b.drop i = leBytes 2 v ++ tl) (hv : v < 65536) : le16 b i = v := by
  rw [le16_drop h]
  simp only [BitVec.toNat_ofNat]
  omega

/-- A field of four bytes. -/
theorem le32_field {b tl : List Byte} {i v : Nat} (h : b.drop i = leBytes 4 v ++ tl) (hv : v < 2 ^ 32) : le32 b i = v := by
  rw [le32_drop h]
  simp only [BitVec.toNat_ofNat]
  omega

theorem le32_word {b tl : List Byte} {i : Nat} {w : Word32} (h : b.drop i = leBytes 4 w.toNat ++ tl) : le32 b i = w.toNat :=
  le32_field h w.isLt

theorem le16_half {b tl : List Byte} {i : Nat} {w : BitVec 16} (h : b.drop i = leBytes 2 w.toNat ++ tl) :
    le16 b i = w.toNat := le16_field h w.isLt

theorem leBytes_length (k v : Nat) : (leBytes k v).length = k := by
  induction k generalizing v with
  | zero => rfl
  | succ k ih => rw [leBytes, List.length_cons, ih]

/-! ## The codes of chapter 11 fit a byte -/

theorem StreamState.code_lt (c : StreamState) : c.code < 256 := by cases c <;> decide
theorem WaitReason.code_lt (c : WaitReason) : c.code < 256 := by cases c <;> decide
theorem RequestResult.code_lt (c : RequestResult) : c.code < 256 := by cases c <;> decide
theorem FaultCode.code_lt (c : FaultCode) : c.code < 256 := by cases c <;> decide
theorem JobOutcome.code_lt (c : JobOutcome) : c.code < 256 := by cases c <;> decide
theorem SlotState.code_lt (c : SlotState) : c.code < 256 := by cases c <;> decide
theorem EngineState.code_lt (c : EngineState) : c.code < 256 := by cases c <;> simp [EngineState.code]

/-! ## The device record and the descriptor -/

/-- Behind a field the rest of the run follows. -/
theorem drop_field {b tl : List Byte} {i k v j : Nat} (h : b.drop i = leBytes k v ++ tl) (e : i + k = j) :
    b.drop j = tl := by
  rw [← e, ← List.drop_drop, h, List.drop_left' (leBytes_length k v)]

theorem deviceRecord_eq (s : State) : s.deviceRecord.drop 0 =
    leBytes 1 s.engine.state.code ++ (leBytes 1 s.engine.state.wait.code ++ (leBytes 1 s.engine.mountedStock ++
    (leBytes 1 0 ++ (leBytes 2 s.engine.mountedLength ++ (leBytes 2 s.store.poolUsed ++
    (leBytes 1 (s.slot 0).state.code ++ (leBytes 1 (s.slot 1).state.code ++ (leBytes 1 (s.slot 2).state.code ++
    (leBytes 1 (s.slot 3).state.code ++ (leBytes 4 s.counts.underruns.toNat ++ (leBytes 4 s.counts.linkErrors.toNat ++
    (leBytes 4 s.counts.refusals.toNat ++ (leBytes 4 s.counts.bandsSent.toNat ++ (leBytes 4 s.counts.pagesExited.toNat ++
    (leBytes 4 s.cache.hits.toNat ++ (leBytes 4 s.cache.misses.toNat ++ (leBytes 4 s.cache.faults.toNat ++
    (leBytes 4 s.counts.memFaults.toNat ++ (leBytes 4 s.counts.lastFault.toNat ++ leBytes 12 0))))))))))))))))))) := by
  have slots : (allSlots.flatMap fun i => leBytes 1 (s.slot i).state.code) = leBytes 1 (s.slot 0).state.code ++
      (leBytes 1 (s.slot 1).state.code ++ (leBytes 1 (s.slot 2).state.code ++ leBytes 1 (s.slot 3).state.code)) := rfl
  rw [List.drop_zero, State.deviceRecord, slots]
  repeat rw [List.append_assoc]

theorem deviceRecord_fields (s : State) :
    let b := s.deviceRecord
    b.length = 64 ∧
      byteAt b 0 = s.engine.state.code ∧ byteAt b 1 = s.engine.state.wait.code ∧
      (s.engine.mountedStock < 256 → byteAt b 2 = s.engine.mountedStock) ∧ byteAt b 3 = 0 ∧
      (s.engine.mountedLength < 65536 → le16 b 4 = s.engine.mountedLength) ∧
      (s.store.poolUsed < 65536 → le16 b 6 = s.store.poolUsed) ∧
      (∀ i : Fin 4, byteAt b (8 + i.val) = (s.slot i).state.code) ∧ le32 b 12 = s.counts.underruns.toNat ∧
      le32 b 16 = s.counts.linkErrors.toNat ∧ le32 b 20 = s.counts.refusals.toNat ∧
      le32 b 24 = s.counts.bandsSent.toNat ∧ le32 b 28 = s.counts.pagesExited.toNat ∧
      le32 b 32 = s.cache.hits.toNat ∧ le32 b 36 = s.cache.misses.toNat ∧ le32 b 40 = s.cache.faults.toNat ∧
      le32 b 44 = s.counts.memFaults.toNat ∧ le32 b 48 = s.counts.lastFault.toNat ∧
      (∀ k, 52 ≤ k → byteAt b k = 0) := by
  have h0 := deviceRecord_eq s
  have hlen : s.deviceRecord.length = 64 := by
    have h := congrArg List.length h0
    simpa only [List.drop_zero, List.length_append, leBytes_length, Nat.reduceAdd] using h
  have h1 := drop_field h0 (j := 1) rfl
  have h2 := drop_field h1 (j := 2) rfl
  have h3 := drop_field h2 (j := 3) rfl
  have h4 := drop_field h3 (j := 4) rfl
  have h6 := drop_field h4 (j := 6) rfl
  have h8 := drop_field h6 (j := 8) rfl
  have h9 := drop_field h8 (j := 9) rfl
  have h10 := drop_field h9 (j := 10) rfl
  have h11 := drop_field h10 (j := 11) rfl
  have h12 := drop_field h11 (j := 12) rfl
  have h16 := drop_field h12 (j := 16) rfl
  have h20 := drop_field h16 (j := 20) rfl
  have h24 := drop_field h20 (j := 24) rfl
  have h28 := drop_field h24 (j := 28) rfl
  have h32 := drop_field h28 (j := 32) rfl
  have h36 := drop_field h32 (j := 36) rfl
  have h40 := drop_field h36 (j := 40) rfl
  have h44 := drop_field h40 (j := 44) rfl
  have h48 := drop_field h44 (j := 48) rfl
  have h52 := drop_field h48 (j := 52) rfl
  refine ⟨hlen, byteAt_field h0 (EngineState.code_lt _), byteAt_field h1 (WaitReason.code_lt _), byteAt_field h2,
    byteAt_field h3 (by decide), le16_field h4, le16_field h6, fun i => ?_, le32_word h12, le32_word h16,
    le32_word h20, le32_word h24, le32_word h28, le32_word h32, le32_word h36, le32_word h40, le32_word h44, le32_word h48,
    fun k hk => ?_⟩
  · match i with
    | 0 => exact byteAt_field h8 (SlotState.code_lt _)
    | 1 => exact byteAt_field h9 (SlotState.code_lt _)
    | 2 => exact byteAt_field h10 (SlotState.code_lt _)
    | 3 => exact byteAt_field h11 (SlotState.code_lt _)
  · have hz : s.deviceRecord.drop 52 = List.replicate 12 0 := h52
    have hg : s.deviceRecord[k]? = (s.deviceRecord.drop 52)[k - 52]? := by
      rw [List.getElem?_drop, Nat.add_sub_cancel' hk]
    rw [hz, List.getElem?_replicate] at hg
    rw [byteAt, List.getD_eq_getElem?_getD, hg]
    split <;> rfl

theorem shown_eq (r : StreamRec) : r.shown.drop 0 =
    leBytes 1 r.state.code ++ (leBytes 1 r.wait.code ++ (leBytes 1 r.result.code ++ (leBytes 1 r.fault.code ++
    (leBytes 4 r.take ++ (leBytes 4 r.release ++ (leBytes 4 r.recordsTaken.toNat ++ (leBytes 4 r.pagesExited.toNat ++
    (leBytes 4 r.pageNo ++ (leBytes 4 r.markTag.toNat ++ (leBytes 4 r.jobTag.toNat ++ (leBytes 1 r.jobOutcome.code ++
    (leBytes 1 r.cursorLine ++ (leBytes 2 r.reprints.toNat ++ (leBytes 2 r.late.toNat ++ (leBytes 2 r.excess.toNat ++
    (leBytes 2 r.overrun.toNat ++ (leBytes 2 r.substitutes.toNat ++ (leBytes 4 r.jobPages.toNat ++ [])))))))))))))))))) := by
  rw [List.drop_zero, StreamRec.shown, List.append_nil]
  repeat rw [List.append_assoc]

theorem shown_fields (r : StreamRec) :
    let b := r.shown
    b.length = 48 ∧ byteAt b 0 = r.state.code ∧ byteAt b 1 = r.wait.code ∧
      byteAt b 2 = r.result.code ∧ byteAt b 3 = r.fault.code ∧ (r.take < 2 ^ 32 → le32 b 4 = r.take) ∧
      (r.release < 2 ^ 32 → le32 b 8 = r.release) ∧ le32 b 12 = r.recordsTaken.toNat ∧
      le32 b 16 = r.pagesExited.toNat ∧ (r.pageNo < 2 ^ 32 → le32 b 20 = r.pageNo) ∧ le32 b 24 = r.markTag.toNat ∧
      le32 b 28 = r.jobTag.toNat ∧ byteAt b 32 = r.jobOutcome.code ∧ (r.cursorLine < 256 → byteAt b 33 = r.cursorLine) ∧
      le16 b 34 = r.reprints.toNat ∧ le16 b 36 = r.late.toNat ∧ le16 b 38 = r.excess.toNat ∧
      le16 b 40 = r.overrun.toNat ∧ le16 b 42 = r.substitutes.toNat ∧ le32 b 44 = r.jobPages.toNat := by
  have h0 := shown_eq r
  have hlen : r.shown.length = 48 := by
    have h := congrArg List.length h0
    simpa only [List.drop_zero, List.length_append, leBytes_length, List.length_nil, Nat.reduceAdd] using h
  have h1 := drop_field h0 (j := 1) rfl
  have h2 := drop_field h1 (j := 2) rfl
  have h3 := drop_field h2 (j := 3) rfl
  have h4 := drop_field h3 (j := 4) rfl
  have h8 := drop_field h4 (j := 8) rfl
  have h12 := drop_field h8 (j := 12) rfl
  have h16 := drop_field h12 (j := 16) rfl
  have h20 := drop_field h16 (j := 20) rfl
  have h24 := drop_field h20 (j := 24) rfl
  have h28 := drop_field h24 (j := 28) rfl
  have h32 := drop_field h28 (j := 32) rfl
  have h33 := drop_field h32 (j := 33) rfl
  have h34 := drop_field h33 (j := 34) rfl
  have h36 := drop_field h34 (j := 36) rfl
  have h38 := drop_field h36 (j := 38) rfl
  have h40 := drop_field h38 (j := 40) rfl
  have h42 := drop_field h40 (j := 42) rfl
  have h44 := drop_field h42 (j := 44) rfl
  exact ⟨hlen, byteAt_field h0 (StreamState.code_lt _), byteAt_field h1 (WaitReason.code_lt _),
    byteAt_field h2 (RequestResult.code_lt _), byteAt_field h3 (FaultCode.code_lt _), le32_field h4, le32_field h8,
    le32_word h12, le32_word h16, le32_field h20, le32_word h24, le32_word h28, byteAt_field h32 (JobOutcome.code_lt _),
    byteAt_field h33, le16_half h34, le16_half h36, le16_half h38, le16_half h40, le16_half h42, le32_word h44⟩

/-! ## Runs of bits and words -/

theorem getElem?_skip {α : Type} {a b : List α} {n m k : Nat} (h : a.length = n) (e : m = n + k) : (a ++ b)[m]? = b[k]? := by
  rw [e, List.getElem?_append_right (by omega), h, Nat.add_sub_cancel_left]

theorem getElem?_keep {α : Type} {a b : List α} {n k : Nat} (h : a.length = n) (hk : k < n) : (a ++ b)[k]? = a[k]? :=
  List.getElem?_append_left (by omega)

/-- Item `k` of the `j`-th of equally long runs. -/
theorem getElem?_flatMap_runs {α β : Type} {f : α → List β} {c : Nat} (hc : ∀ a, (f a).length = c) :
    ∀ (l : List α) (j : Nat) {a : α} {k : Nat}, l[j]? = some a → k < c → (l.flatMap f)[c * j + k]? = (f a)[k]?
  | [], j, a, k, h, _ => by simp at h
  | b :: l, 0, a, k, h, hk => by
    obtain rfl : b = a := by simpa using h
    rw [List.flatMap_cons, Nat.mul_zero, Nat.zero_add, getElem?_keep (hc b) hk]
  | b :: l, j + 1, a, k, h, hk => by
    rw [List.flatMap_cons, getElem?_skip (hc b) (k := c * j + k) (by rw [Nat.mul_succ]; omega)]
    exact getElem?_flatMap_runs hc l j (by simpa using h) hk

theorem length_flatMap_runs {α β : Type} {f : α → List β} {c : Nat} (hc : ∀ a, (f a).length = c) (l : List α) :
    (l.flatMap f).length = c * l.length := by
  induction l with
  | nil => rfl
  | cons a l ih => rw [List.flatMap_cons, List.length_append, hc, ih, List.length_cons, Nat.mul_succ, Nat.add_comm]

theorem bitsOf_length (n v : Nat) : (bitsOf n v).length = n := by simp [bitsOf]

theorem bitsOf_get {n k : Nat} (v : Nat) (h : k < n) : (bitsOf n v)[k]? = some (v.testBit k) := by simp [bitsOf, h]

/-! ## Frames (R192) -/

theorem frameBits_length (kind seq length : Nat) (payload : List Word32) :
    (frameBits kind seq length payload).length = 27 + 32 * payload.length := by
  rw [frameBits, List.length_append, length_flatMap_runs (c := 32) (f := fun w : Word32 => bitsOf 32 w.toNat) fun _ => bitsOf_length 32 _]
  simp [bitsOf_length]

/-- A frame on the line: the preamble, the fields one by one, and the CRC, its highest bit first. -/
theorem line_eq (f : TxFrame) : f.line = (List.replicate 16 true ++ [false, true]) ++ (bitsOf 4 f.body.kind ++
    (bitsOf 8 f.seq.toNat ++ (bitsOf 15 f.body.payload.length ++ ((f.body.payload.flatMap fun w => bitsOf 32 w.toNat) ++
      (bitsOf 16 (crcOf (frameBits f.body.kind f.seq.toNat f.body.payload.length f.body.payload)).toNat).reverse)))) := by
  simp only [TxFrame.line, frameBits, List.append_assoc]

theorem line_body (f : TxFrame) : (f.line.drop 18).take (27 + 32 * f.body.payload.length) =
    frameBits f.body.kind f.seq.toNat f.body.payload.length f.body.payload := by
  have e : f.line = (List.replicate 16 true ++ [false, true]) ++
      (frameBits f.body.kind f.seq.toNat f.body.payload.length f.body.payload ++
        (bitsOf 16 (crcOf (frameBits f.body.kind f.seq.toNat f.body.payload.length f.body.payload)).toNat).reverse) := by
    simp only [TxFrame.line, List.append_assoc]
  rw [e, List.drop_left' (by simp), List.take_left' (frameBits_length ..)]

theorem line_fields (f : TxFrame) :
    let words := f.body.payload
    let bits := f.line
    let sum := crcOf ((bits.drop 18).take (27 + 32 * words.length))
    bits.length = 61 + 32 * words.length ∧ bits.take 18 = List.replicate 16 true ++ [false, true] ∧
      (∀ k < 4, bits[18 + k]? = some (f.body.kind.testBit k)) ∧
      (∀ k < 8, bits[22 + k]? = some (f.seq.getLsbD k)) ∧
      (∀ k < 15, bits[30 + k]? = some (words.length.testBit k)) ∧
      (∀ j w, words[j]? = some w → ∀ k < 32, bits[45 + 32 * j + k]? = some (w.getLsbD k)) ∧
      (∀ k < 16, bits[45 + 32 * words.length + k]? = some (sum.getLsbD (15 - k))) := by
  dsimp only
  rw [line_body]
  have e := line_eq f
  have pre : (List.replicate 16 true ++ [false, true]).length = 18 := by simp
  have hk := bitsOf_length 4 f.body.kind
  have hs := bitsOf_length 8 f.seq.toNat
  have hl := bitsOf_length 15 f.body.payload.length
  have hw (w : Word32) := bitsOf_length 32 w.toNat
  have hp := length_flatMap_runs hw f.body.payload
  refine ⟨?_, ?_, fun k hk4 => ?_, fun k hk8 => ?_, fun k hk15 => ?_, fun j w hj k hk32 => ?_, fun k hk16 => ?_⟩
  · rw [e]
    simp only [List.length_append, pre, hk, hs, hl, hp, List.length_reverse, bitsOf_length]
    omega
  · rw [e]
    exact List.take_left' pre
  · rw [e, getElem?_skip pre rfl, getElem?_keep hk hk4, bitsOf_get _ hk4]
  · rw [e, getElem?_skip pre (k := 4 + k) (by omega), getElem?_skip hk rfl, getElem?_keep hs hk8, bitsOf_get _ hk8]
    rfl
  · rw [e, getElem?_skip pre (k := 12 + k) (by omega), getElem?_skip hk (k := 8 + k) (by omega), getElem?_skip hs rfl,
      getElem?_keep hl hk15, bitsOf_get _ hk15]
  · have hj' : j < f.body.payload.length := (List.getElem?_eq_some_iff.mp hj).1
    rw [e, getElem?_skip pre (k := 27 + 32 * j + k) (by omega), getElem?_skip hk (k := 23 + 32 * j + k) (by omega),
      getElem?_skip hs (k := 15 + 32 * j + k) (by omega), getElem?_skip hl (k := 32 * j + k) (by omega),
      getElem?_keep hp (by omega), getElem?_flatMap_runs hw _ j hj hk32, bitsOf_get _ hk32]
    rfl
  · rw [e, getElem?_skip pre (k := 27 + 32 * f.body.payload.length + k) (by omega),
      getElem?_skip hk (k := 23 + 32 * f.body.payload.length + k) (by omega),
      getElem?_skip hs (k := 15 + 32 * f.body.payload.length + k) (by omega),
      getElem?_skip hl (k := 32 * f.body.payload.length + k) (by omega), getElem?_skip hp rfl,
      List.getElem?_reverse (by rw [bitsOf_length]; omega), bitsOf_length, bitsOf_get _ (by omega)]
    rw [show 16 - 1 - k = 15 - k by omega]
    rfl

theorem crcOf_append (l : List Bool) (b : Bool) : crcOf (l ++ [b]) =
    if (crcOf l).getLsbD 15 = b then crcOf l <<< 1 else (crcOf l <<< 1) ^^^ 0x1021 := by
  have h : (crcOf l).msb = (crcOf l).getLsbD 15 := rfl
  rw [crcOf, List.foldl_append]
  show crcStep (crcOf l) b = _
  rw [crcStep, h]
  by_cases hb : (crcOf l).getLsbD 15 = b <;> simp

/-! ## The words of a message (R125, R132, R192) -/

/-- Base-4 digits from the first on. -/
def digits4 (f : Nat → Nat) (l : List Nat) : Nat := l.foldr (fun i v => f i + 4 * v) 0

theorem digits4_lt {f : Nat → Nat} (hf : ∀ i, f i ≤ 3) (l : List Nat) : digits4 f l < 4 ^ l.length := by
  induction l with
  | nil => simp [digits4]
  | cons a l ih =>
    have := hf a
    rw [List.length_cons, Nat.pow_succ]
    show f a + 4 * digits4 f l < _
    omega

theorem digits4_get {f : Nat → Nat} (hf : ∀ i, f i ≤ 3) : ∀ (l : List Nat) (k : Nat) {i : Nat}, l[k]? = some i →
    digits4 f l / 4 ^ k % 4 = f i
  | [], k, i, h => by simp at h
  | a :: l, 0, i, h => by
    obtain rfl : a = i := by simpa using h
    have := hf a
    show (f a + 4 * digits4 f l) / 4 ^ 0 % 4 = f a
    omega
  | a :: l, k + 1, i, h => by
    have := hf a
    have e : (f a + 4 * digits4 f l) / 4 = digits4 f l := by omega
    show (f a + 4 * digits4 f l) / 4 ^ (k + 1) % 4 = f i
    rw [Nat.pow_succ', ← Nat.div_div_eq_div_mul, e]
    exact digits4_get hf l k (by simpa using h)

/-- The dots of a row's word, where no density exceeds 3. -/
theorem rowWord_dots {dots : DotMap} (h : ∀ row col, densityAt dots row col ≤ 3) (row k : Nat) {i : Nat} (hi : i < 16) :
    (rowWord dots row k).toNat / 4 ^ i % 4 = densityAt dots row (16 * k + i) := by
  let f : Nat → Nat := fun i => densityAt dots row (16 * k + i)
  have hf (i : Nat) : f i ≤ 3 := h row _
  have hw : (rowWord dots row k).toNat = digits4 f (List.range 16) := by
    rw [rowWord, BitVec.toNat_ofNat]
    exact Nat.mod_eq_of_lt ((digits4_lt hf (List.range 16)).trans_le (by rw [List.length_range]; decide))
  rw [hw]
  exact digits4_get hf (List.range 16) i (List.getElem?_range hi)

theorem strobeBits_lt {o : Option Strobe} (h : ∀ k, o = some k → k.e1 < 64 ∧ k.e2 < 64 ∧ k.e3 < 64 ∧ k.period < 64) :
    strobeBits o < 2 ^ 24 := by
  cases o with
  | none => simp [strobeBits]
  | some k =>
    obtain ⟨h1, h2, h3, h4⟩ := h k rfl
    simp only [strobeBits]
    omega

/-- Word 1 of a message: the triple below bit 24, the page marks above. -/
theorem messageWord1 {m : Message} (h : ∀ k, m.strobe = some k → k.e1 < 64 ∧ k.e2 < 64 ∧ k.e3 < 64 ∧ k.period < 64) :
    let w1 := BitVec.ofNat 32 (strobeBits m.strobe + m.marks.bits)
    (∀ k, m.strobe = some k → w1.toNat % 64 = k.e1 ∧ w1.toNat / 64 % 64 = k.e2 ∧ w1.toNat / 4096 % 64 = k.e3 ∧
      w1.toNat / 2 ^ 18 % 64 = k.period) ∧
    (m.strobe = none → w1.toNat % 2 ^ 24 = 0) ∧ w1.getLsbD 24 = m.marks.first ∧ w1.getLsbD 25 = m.marks.last ∧
    w1.getLsbD 26 = m.marks.hold ∧ w1.toNat < 2 ^ 27 := by
  have hs := strobeBits_lt h
  have hb : m.marks.bits % 2 ^ 24 = 0 ∧ m.marks.bits < 2 ^ 27 ∧
      decide (m.marks.bits / 2 ^ 24 % 2 = 1) = m.marks.first ∧ decide (m.marks.bits / 2 ^ 25 % 2 = 1) = m.marks.last ∧
      decide (m.marks.bits / 2 ^ 26 % 2 = 1) = m.marks.hold := by
    obtain ⟨first, last, hold⟩ := m.marks
    cases first <;> cases last <;> cases hold <;> decide
  obtain ⟨b1, b2, b3, b4, b5⟩ := hb
  have hn : (BitVec.ofNat 32 (strobeBits m.strobe + m.marks.bits)).toNat = strobeBits m.strobe + m.marks.bits := by
    rw [BitVec.toNat_ofNat]
    exact Nat.mod_eq_of_lt (by omega)
  have bit (k : Nat) : (BitVec.ofNat 32 (strobeBits m.strobe + m.marks.bits)).getLsbD k =
      decide ((strobeBits m.strobe + m.marks.bits) / 2 ^ k % 2 = 1) := by
    rw [← BitVec.testBit_toNat, hn, Nat.testBit_eq_decide_div_mod_eq]
  dsimp only
  rw [bit, bit, bit, hn, ← b3, ← b4, ← b5]
  refine ⟨fun k hk => ?_, fun hk => ?_, decide_eq_decide.mpr (by omega), decide_eq_decide.mpr (by omega),
    decide_eq_decide.mpr (by omega), by omega⟩
  · obtain ⟨h1, h2, h3, h4⟩ := h k hk
    rw [hk] at hs ⊢
    simp only [strobeBits] at hs ⊢
    omega
  · rw [hk, show strobeBits none = 0 from rfl]
    omega

/-- Word 0 of a message: its band sequence number, its page's, and the count of rows. -/
theorem messageWord0 (seq : BitVec 16) (page : BitVec 8) {rows : Nat} (h : rows < 256) :
    let w0 := BitVec.ofNat 32 (seq.toNat + page.toNat * 2 ^ 16 + rows * 2 ^ 24)
    w0.toNat % 65536 = seq.toNat ∧ w0.toNat / 65536 % 256 = page.toNat ∧ w0.toNat / 2 ^ 24 = rows := by
  have hs := seq.isLt
  have hp := page.isLt
  dsimp only
  rw [BitVec.toNat_ofNat]
  omega

/-- The words of a band's rows, 256 to a row. -/
theorem bandRows_words (dots : DotMap) (row count : Nat) :
    let rest := (List.range count).flatMap fun r => (List.range 256).map (rowWord dots (row + r))
    rest.length = 256 * count ∧ ∀ r < count, ∀ k < 256, rest[256 * r + k]? = some (rowWord dots (row + r) k) := by
  have hc (r : Nat) : ((List.range 256).map (rowWord dots (row + r))).length = 256 := by
    rw [List.length_map, List.length_range]
  refine ⟨by rw [length_flatMap_runs hc, List.length_range], fun r hr k hk => ?_⟩
  rw [getElem?_flatMap_runs hc _ r (List.getElem?_range hr) hk, List.getElem?_map, List.getElem?_range hk]
  rfl

/-- Settles O46: every field is found where the run of bytes, words or bits is cut at its offset. -/
theorem descriptorBytesAreLaidOut : Obligations.DescriptorBytesAreLaidOut := by
  unfold Obligations.DescriptorBytesAreLaidOut
  refine ⟨⟨fun _ => rfl, fun _ _ _ => ⟨rfl, rfl⟩, rfl, rfl, rfl, rfl, rfl, rfl⟩, fun b0 b1 b2 b3 i b h => ?_,
    ⟨rfl, rfl, rfl, rfl, rfl, rfl, fun _ => rfl⟩, fun n s => ⟨rfl, rfl, rfl⟩, fun d hd => ⟨_, rfl, ?_⟩,
    fun seq page m body hbody hstrobe => ?_, fun s => ?_, line_fields, ⟨rfl, crcOf_append⟩, fun n s => ?_⟩
  · exact ⟨(byteAt_drop h).1, le16_drop h, le24_drop h, le32_drop h⟩
  · rw [BitVec.toNat_ofNat]
    omega
  · obtain ⟨k1, k2, k3, k4, k5, k6⟩ := messageWord1 hstrobe
    rcases hbody with ⟨rfl, hc⟩ | ⟨rfl, hc⟩
    · obtain ⟨a1, a2, a3⟩ := messageWord0 seq page (rows := 0) (by decide)
      refine ⟨_, _, _, rfl, a1, a2, fun _ => a3, nofun, k1, k2, k3, k4, k5, k6, fun _ => ⟨_, rfl, ?_⟩, nofun⟩
      rw [BitVec.toNat_ofNat]
      omega
    · obtain ⟨a1, a2, a3⟩ := messageWord0 seq page (rows := m.count) (by omega)
      obtain ⟨r1, r2⟩ := bandRows_words m.body.dots m.row m.count
      refine ⟨_, _, _, rfl, a1, a2, nofun, fun _ => a3, k1, k2, k3, k4, k5, k6, nofun, fun _ => ⟨r1, fun hd r hr k hk w hw i hi => ?_⟩⟩
      obtain rfl : rowWord m.body.dots (m.row + r) k = w := Option.some.inj ((r2 r hr k hk).symm.trans hw)
      exact rowWord_dots hd _ _ hi
  · obtain ⟨hlen, f1, f2, f3, f4, f5, f6, f7, f8, f9, f10, f11, f12, f13, f14, f15, f16, f17, f18⟩ := deviceRecord_fields s
    exact ⟨rfl, rfl, hlen, f1, f2, f3, f4, f5, f6, f7, f8, f9, f10, f11, f12, f13, f14, f15, f16, f17, f18, rfl, rfl⟩
  · exact ⟨rfl, rfl, shown_fields (s.stream n)⟩

end Sys2Proof.Machine
end
section
/-! SUPPORT. The parts of a LINE record: the cursor, the strike, take (R49, R50 to R56, R61 to R65). -/

namespace Sys2Proof.Machine

/-! ## The cursor (R59, R60) -/

theorem setCursor_stream (s : State) (n : Fin 8) (l : Nat) (m : Fin 8) :
    (s.setCursor n l).stream m = if n = m then { s.stream m with cursorLine := l } else s.stream m :=
  State.stream_modStream { s with comp := { s.comp with cursor := some l } } n m _

@[simp] theorem setCursor_comp (s : State) (n : Fin 8) (l : Nat) :
    (s.setCursor n l).comp = { s.comp with cursor := some l } := rfl

theorem setCursor_slot (s : State) (n : Fin 8) (l : Nat) (k : Fin 4) : (s.setCursor n l).slot k = s.slot k := rfl

theorem setCursor_composing (s : State) (n : Fin 8) (l : Nat) : (s.setCursor n l).composing = s.composing := rfl

theorem loadedForm_congr {s t : State} (h : t.form = s.form) : t.loadedForm = s.loadedForm := by
  simp only [State.loadedForm, h]

/-- A movement within the page sets the cursor. -/
theorem moveCarriage_within {s : State} {c : Carriage} {l : Nat} (h : s.loadedForm.move (s.comp.cursor.getD 1) c = (0, l))
    (n : Fin 8) (rest : RecordRest) : s.moveCarriage n c rest = s.setCursor n l := by
  rw [State.moveCarriage, h]
  rfl

theorem waits_of_ready {c : Composer} (h : c.state = .ready) : c.waits = false := by simp [Composer.waits, h]

/-! ## The strike (R61 to R65) -/

/-- The strikes a LINE adds to its page, on line `line`: none without text. -/
def State.added (s : State) (i : Fin 4) (h : RecordHeader) (line : Nat) : List Strike :=
  if h.textCount = 0 then [] else [(s.slot i).newStrike h line s.loadedForm.positions (lineCodes h s.sc.buffer)]

/-- The state in which a LINE's text has been struck on page `i`, or in which it had none. -/
def State.struck (s : State) (n : Fin 8) (i : Fin 4) (h : RecordHeader) : State :=
  if h.textCount = 0 then s else s.placeStrike n i h (s.comp.cursor.getD 1)

/-- The text of a LINE finds its line and a strike entry (R63). -/
def State.Strikes (s : State) (i : Fin 4) (h : RecordHeader) : Prop :=
  h.textCount ≠ 0 → (s.slot i).split ≤ (s.slot i).copy.top (s.comp.cursor.getD 1) ∧
    (s.slot i).strikesOn (s.comp.cursor.getD 1) < 4 ∧ s.store.poolUsed < 1024

@[simp] theorem struck_keeps (s : State) (n : Fin 8) (i : Fin 4) (h : RecordHeader) :
    (s.struck n i h).regs = s.regs ∧ (s.struck n i h).comp = s.comp ∧ (s.struck n i h).form = s.form ∧
      (s.struck n i h).cache = s.cache ∧ (s.struck n i h).hostMem = s.hostMem ∧ (s.struck n i h).sc.view = s.sc.view ∧
      (s.struck n i h).sc.queue = s.sc.queue ∧ (s.struck n i h).sc.buffer = s.sc.buffer ∧
      (s.struck n i h).sc.readFailed = s.sc.readFailed ∧ (s.struck n i h).sc.firstPage = s.sc.firstPage ∧
      (s.struck n i h).store.imaging = s.store.imaging ∧ (s.struck n i h).store.lastOpened = s.store.lastOpened := by
  unfold State.struck
  split
  · simp
  · exact ⟨rfl, rfl, rfl, rfl, rfl, rfl, rfl, rfl, rfl, rfl, rfl, rfl⟩

theorem struck_stream (s : State) (n : Fin 8) (i : Fin 4) (h : RecordHeader) (m : Fin 8) :
    (s.struck n i h).stream m = if n = m then
      { s.stream m with overrun := satAdd (s.stream m).overrun (h.textCount - s.loadedForm.positions) } else s.stream m := by
  unfold State.struck
  by_cases h0 : h.textCount = 0
  · rw [if_pos h0, h0, Nat.zero_sub, satAdd_zero]
    simp
  · rw [if_neg h0, State.placeStrike, State.stream_modStream]
    rfl

theorem struck_jobs (s : State) (n : Fin 8) (i : Fin 4) (h : RecordHeader) : (s.struck n i h).jobs = s.jobs := by
  refine jobs_eq_iff.mpr ⟨by simp, fun m => ?_⟩
  rw [struck_stream]
  split <;> exact ⟨rfl, rfl⟩

theorem struck_slot (s : State) (n : Fin 8) (i : Fin 4) (h : RecordHeader) (k : Fin 4) :
    (s.struck n i h).slot k = if i = k then { s.slot k with
        strikes := (s.slot k).strikes ++ s.added k h (s.comp.cursor.getD 1)
        seqCount := (s.slot k).seqCount + (s.added k h (s.comp.cursor.getD 1)).length } else s.slot k := by
  unfold State.struck State.added
  by_cases h0 : h.textCount = 0
  · simp [h0]
  · rw [if_neg h0, if_neg h0]
    have e : (s.placeStrike n i h (s.comp.cursor.getD 1)).slot k = (s.modSlot i fun sl =>
        { sl with
          strikes := sl.strikes ++ [sl.newStrike h (s.comp.cursor.getD 1) s.loadedForm.positions (lineCodes h s.sc.buffer)]
          seqCount := sl.seqCount + 1 }).slot k := rfl
    rw [e, State.slot_modSlot]
    rfl

theorem struck_composing (s : State) (n : Fin 8) (i : Fin 4) (h : RecordHeader) :
    (s.struck n i h).composing = s.composing :=
  composing_congr fun k => by rw [struck_slot]; split <;> rfl

theorem struck_pool (s : State) (n : Fin 8) (i : Fin 4) (h : RecordHeader) :
    (s.struck n i h).store.poolUsed = s.store.poolUsed + (s.added i h (s.comp.cursor.getD 1)).length := by
  unfold State.struck State.added
  split <;> rfl

/-- Steps 2 and 3 of R49, where the text finds its place. -/
theorem lineStrike_struck {s : State} {i : Fin 4} {h : RecordHeader} (hi : s.composing = some i)
    (hw : s.comp.waits = false) (hs : s.Strikes i h) (n : Fin 8) :
    s.lineStrike n h = (s.struck n i h).lineAfter n h := by
  have e : (if h.textCount = 0 then s else s.offerStrike n i h) = s.struck n i h := by
    unfold State.struck
    by_cases h0 : h.textCount = 0
    · rw [if_pos h0, if_pos h0]
    · obtain ⟨h1, h2, h3⟩ := hs h0
      rw [if_neg h0, if_neg h0, State.offerStrike]
      dsimp only
      have h2' : ¬ Config.lineStrikes ≤ (s.slot i).strikesOn (s.comp.cursor.getD 1) := Nat.not_le.mpr h2
      have h3' : ¬ Config.poolSize ≤ s.store.poolUsed := Nat.not_le.mpr h3
      rw [if_neg (Nat.not_lt.mpr h1), if_neg h2', if_neg h3']
  unfold State.lineStrike
  rw [hi]
  dsimp only
  rw [e, if_neg (by simp [hw])]

/-- Step 3 of R49 within the page: take advances. -/
theorem lineAfter_within {s : State} {h : RecordHeader} {a : Carriage} {l : Nat} (ha : carriageOf h.after = some a)
    (hm : s.loadedForm.move (s.comp.cursor.getD 1) a = (0, l)) (hw : s.comp.waits = false) (n : Fin 8) :
    s.lineAfter n h = (s.setCursor n l).finishLine n h := by
  simp only [State.lineAfter, ha, moveCarriage_within hm, setCursor_comp]
  rw [if_neg (by simpa [Composer.waits] using hw)]

/-- Step 1 of R49 within the page. -/
theorem lineBody_within {s : State} {h : RecordHeader} {b : Carriage} {l : Nat}
    (hm : s.loadedForm.move (s.comp.cursor.getD 1) b = (0, l)) (hw : s.comp.waits = false) (n : Fin 8) :
    s.lineBody n h b = (s.setCursor n l).lineStrike n h := by
  simp only [State.lineBody, moveCarriage_within hm, setCursor_comp]
  rw [if_neg (by simpa [Composer.waits] using hw)]

/-- A LINE that passes its checks (R31, R55). -/
theorem takeLine_body {s : State} {h : RecordHeader} {b a : Carriage} (hj : s.comp.jobInProgress = true)
    (hb : carriageOf h.before = some b) (ha : carriageOf h.after = some a) (hsb : s.loadedForm.hasStop b = true)
    (hsa : s.loadedForm.hasStop a = true) (n : Fin 8) : s.takeLine n h = s.lineBody n h b := by
  simp [State.takeLine, hj, hb, ha, hsb, hsa]

theorem exec_lineRecord {s : State} {n : Fin 8} {h : RecordHeader} (ho : s.owner = some n) (hr : s.regs.run = true)
    (hc : s.comp.state = .ready) (hw : (s.stream n).atTake s.sc.buffer = .whole h) (hk : h.kind = .line) :
    exec .lineRecord s = .next (State.settle s (s.takeLine n h)) := by
  rw [← takeRecord_whole ho hr hc hw s.takeLine, hk]
  rfl

/-! ## A LINE within one page -/

/-! ## The text placed, and what follows it (R49) -/

/-- The state in which a LINE whose text goes on the cursor's line, and whose movement after stays in the page, has been
taken. -/
def State.lineDone (s : State) (n : Fin 8) (i : Fin 4) (h : RecordHeader) (l : Nat) : State :=
  ((s.struck n i h).setCursor n l).advanceTake n h.length

theorem lineDone_slot {s : State} {i : Fin 4} (hi : s.composing = some i) (n : Fin 8) (h : RecordHeader) (l : Nat)
    (k : Fin 4) : (s.lineDone n i h l).slot k = if i = k then { s.slot k with
        strikes := (s.slot k).strikes ++ s.added k h (s.comp.cursor.getD 1)
        seqCount := (s.slot k).seqCount + (s.added k h (s.comp.cursor.getD 1)).length
        releaseOff := (s.stream n).after h.length } else s.slot k := by
  have hc : ((s.struck n i h).setCursor n l).composing = some i := by rw [setCursor_composing, struck_composing, hi]
  have ht : (((s.struck n i h).setCursor n l).stream n).after h.length = (s.stream n).after h.length := by
    rw [setCursor_stream, if_pos rfl, struck_stream, if_pos rfl]
    rfl
  rw [State.lineDone, advanceTake_slot hc, ht, setCursor_slot, struck_slot]
  split <;> rfl

theorem lineDone_stream (s : State) (n : Fin 8) (i : Fin 4) (h : RecordHeader) (l : Nat) (m : Fin 8) :
    (s.lineDone n i h l).stream m = if n = m then { (s.stream m).taken ((s.stream n).after h.length) with
        overrun := satAdd (s.stream m).overrun (h.textCount - s.loadedForm.positions)
        cursorLine := l } else s.stream m := by
  rw [State.lineDone, advanceTake_stream, setCursor_stream, setCursor_stream, struck_stream, struck_stream]
  by_cases hm : n = m
  · subst hm
    simp only [if_true]
    rfl
  · simp only [if_neg hm]

theorem lineDone_jobs (s : State) (n : Fin 8) (i : Fin 4) (h : RecordHeader) (l : Nat) :
    (s.lineDone n i h l).jobs = s.jobs :=
  (advanceTake_jobs _ n _).trans ((setCursor_jobs _ n l).trans (struck_jobs s n i h))

theorem lineDone_composing (s : State) (n : Fin 8) (i : Fin 4) (h : RecordHeader) (l : Nat) :
    (s.lineDone n i h l).composing = s.composing := by
  rw [State.lineDone, advanceTake_composing, setCursor_composing, struck_composing]

theorem lineDone_keeps (s : State) (n : Fin 8) (i : Fin 4) (h : RecordHeader) (l : Nat) :
    (s.lineDone n i h l).regs = s.regs ∧ (s.lineDone n i h l).form = s.form ∧
      (s.lineDone n i h l).hostMem = s.hostMem ∧ (s.lineDone n i h l).sc.view = s.sc.view ∧
      (s.lineDone n i h l).sc.readFailed = s.sc.readFailed ∧
      (s.lineDone n i h l).sc.buffer = s.sc.buffer.drop h.length ∧
      (s.lineDone n i h l).comp = { s.comp with cursor := some l } ∧
      (s.lineDone n i h l).store.imaging = s.store.imaging ∧
      (s.lineDone n i h l).store.lastOpened = s.store.lastOpened ∧
      (s.lineDone n i h l).store.poolUsed = s.store.poolUsed + (s.added i h (s.comp.cursor.getD 1)).length := by
  let w := (s.struck n i h).setCursor n l
  obtain ⟨b1, b2⟩ := advanceTake_buffer w n h.length
  obtain ⟨p1, p2, p3⟩ := advanceTake_store (s := w) n h.length
  obtain ⟨k1, k2, k3, -, k5, k6, -, k8, k9, -, k11, k12⟩ := struck_keeps s n i h
  refine ⟨by simp [State.lineDone], by simp [State.lineDone], by simp [State.lineDone], ?_, b2.trans k9, ?_, ?_,
    p2.trans k11, p3.trans k12, p1.trans (struck_pool s n i h)⟩
  · rw [State.lineDone, State.advanceTake_view, State.setCursor_view, k6]
  · rw [State.lineDone, b1]
    exact congrArg (List.drop h.length) k8
  · have e : (s.lineDone n i h l).comp = w.comp := by simp [State.lineDone, w]
    rw [e]
    show ({ (s.struck n i h).comp with cursor := some l } : Composer) = _
    rw [k2]

/-- Steps 2 and 3 of R49, where the text finds its place and the movement after stays in the page. -/
theorem lineStrike_within {s : State} {i : Fin 4} {h : RecordHeader} {a : Carriage} {l : Nat}
    (hi : s.composing = some i) (hw : s.comp.waits = false) (hs : s.Strikes i h) (ha : carriageOf h.after = some a)
    (hm : s.loadedForm.move (s.comp.cursor.getD 1) a = (0, l)) (n : Fin 8) :
    s.lineStrike n h = (s.lineDone n i h l).afterTake n := by
  obtain ⟨-, k2, k3, -⟩ := struck_keeps s n i h
  have hf : (s.struck n i h).loadedForm = s.loadedForm := loadedForm_congr k3
  rw [lineStrike_struck hi hw hs, lineAfter_within ha (by rw [hf, k2]; exact hm) (by rw [k2]; exact hw)]
  rfl

/-- The state in which a LINE that turns no page has been taken, before the Composer goes on. -/
def State.lineTaken (s : State) (n : Fin 8) (i : Fin 4) (h : RecordHeader) (l1 l2 : Nat) : State :=
  (s.setCursor n l1).lineDone n i h l2

theorem lineTaken_slot {s : State} {i : Fin 4} (hi : s.composing = some i) (n : Fin 8) (h : RecordHeader) (l1 l2 : Nat)
    (k : Fin 4) : (s.lineTaken n i h l1 l2).slot k = if i = k then { s.slot k with
        strikes := (s.slot k).strikes ++ s.added k h l1
        seqCount := (s.slot k).seqCount + (s.added k h l1).length
        releaseOff := (s.stream n).after h.length } else s.slot k := by
  have ht : ((s.setCursor n l1).stream n).after h.length = (s.stream n).after h.length := by
    rw [setCursor_stream, if_pos rfl]
    rfl
  rw [State.lineTaken, lineDone_slot (s := s.setCursor n l1) hi, ht, setCursor_slot]
  rfl

theorem lineTaken_stream (s : State) (n : Fin 8) (i : Fin 4) (h : RecordHeader) (l1 l2 : Nat) (m : Fin 8) :
    (s.lineTaken n i h l1 l2).stream m = if n = m then { (s.stream m).taken ((s.stream n).after h.length) with
        overrun := satAdd (s.stream m).overrun (h.textCount - s.loadedForm.positions)
        cursorLine := l2 } else s.stream m := by
  rw [State.lineTaken, lineDone_stream, setCursor_stream, setCursor_stream]
  by_cases hm : n = m
  · subst hm
    simp only [if_true]
    rfl
  · simp only [if_neg hm]

theorem lineTaken_jobs (s : State) (n : Fin 8) (i : Fin 4) (h : RecordHeader) (l1 l2 : Nat) :
    (s.lineTaken n i h l1 l2).jobs = s.jobs :=
  (lineDone_jobs _ n i h l2).trans (setCursor_jobs s n l1)

theorem lineTaken_composing (s : State) (n : Fin 8) (i : Fin 4) (h : RecordHeader) (l1 l2 : Nat) :
    (s.lineTaken n i h l1 l2).composing = s.composing := by
  rw [State.lineTaken, lineDone_composing, setCursor_composing]

theorem lineTaken_keeps (s : State) (n : Fin 8) (i : Fin 4) (h : RecordHeader) (l1 l2 : Nat) :
    (s.lineTaken n i h l1 l2).regs = s.regs ∧ (s.lineTaken n i h l1 l2).form = s.form ∧
      (s.lineTaken n i h l1 l2).hostMem = s.hostMem ∧ (s.lineTaken n i h l1 l2).sc.view = s.sc.view ∧
      (s.lineTaken n i h l1 l2).sc.readFailed = s.sc.readFailed ∧
      (s.lineTaken n i h l1 l2).sc.buffer = s.sc.buffer.drop h.length ∧
      (s.lineTaken n i h l1 l2).comp = { s.comp with cursor := some l2 } ∧
      (s.lineTaken n i h l1 l2).store.imaging = s.store.imaging ∧
      (s.lineTaken n i h l1 l2).store.poolUsed = s.store.poolUsed + (s.added i h l1).length := by
  obtain ⟨k1, k2, k3, k4, k5, k6, k7, k8, -, k10⟩ := lineDone_keeps (s.setCursor n l1) n i h l2
  exact ⟨k1, k2, k3, k4, k5, k6, k7, k8, k10⟩

/-- A LINE within one page, up to what follows it. -/
theorem takeLine_within {s : State} {n : Fin 8} {i : Fin 4} {h : RecordHeader} {b a : Carriage} {l1 l2 : Nat}
    (hc : s.comp.state = .ready) (hj : s.comp.jobInProgress = true) (hb : carriageOf h.before = some b)
    (ha : carriageOf h.after = some a) (hsb : s.loadedForm.hasStop b = true) (hsa : s.loadedForm.hasStop a = true)
    (hi : s.composing = some i) (hm1 : s.loadedForm.move (s.comp.cursor.getD 1) b = (0, l1))
    (hm2 : s.loadedForm.move l1 a = (0, l2)) (hs : (s.setCursor n l1).Strikes i h) :
    s.takeLine n h = (s.lineTaken n i h l1 l2).afterTake n := by
  rw [takeLine_body hj hb ha hsb hsa, lineBody_within hm1 (waits_of_ready hc),
    lineStrike_within (s := s.setCursor n l1) hi (waits_of_ready hc) hs ha hm2]
  rfl

end Sys2Proof.Machine
end
section
/-! PROOF. The records of a ring and the LINE within one page (R30, R31, R49, R50, R55, R61 to R63, R69, R82). -/

namespace Sys2Proof.Machine

/-! ## Records at take (R30, R31) -/

theorem satAdd_toNat {w : Nat} (c : BitVec w) (k : Nat) : (satAdd c k).toNat = min (c.toNat + k) (2 ^ w - 1) := by
  have hw : 0 < 2 ^ w := Nat.two_pow_pos w
  rw [satAdd, BitVec.toNat_ofNat]
  exact Nat.mod_eq_of_lt (by omega)

theorem recordKind_iff (v : Nat) : (recordKind v = .line ↔ v = 1) ∧ (recordKind v = .job ↔ v = 2) ∧
    (recordKind v = .endJob ↔ v = 3) ∧ (recordKind v = .mark ↔ v = 4) ∧ (recordKind v = .wrap ↔ v = 5) := by
  unfold recordKind
  split <;> simp_all

theorem sound_iff (h : RecordHeader) : h.sound = true ↔
    (h.kind = .line ∧ h.length = 8 + (h.textCount + 3) / 4 * 4 ∧ h.textCount ≤ 160) ∨ (h.kind = .job ∧ h.length = 16) ∨
      ((h.kind = .endJob ∨ h.kind = .mark) ∧ h.length = 12) ∨ (h.kind = .wrap ∧ h.length = 8) := by
  rw [RecordHeader.sound, decide_eq_true_iff, RecordHeader.ruleLength]
  cases hk : h.kind <;> simp [roundUp4]

theorem atTake_whole_iff (r : StreamRec) (b : List Byte) (h : RecordHeader) : r.atTake b = .whole h ↔
    h = recordHeader b ∧ h.sound = true ∧ h.length ≤ b.length ∧ h.length ≤ r.span ∧ r.take + h.length ≤ r.ringSize := by
  unfold StreamRec.atTake
  dsimp only
  constructor
  · intro e
    split at e
    · split at e <;> cases e
    · split at e
      · cases e
      · split at e
        · cases e
        · split at e
          · cases e
          · split at e
            · cases e
            · split at e
              · cases e
              · cases e
                have hs : (recordHeader b).sound = true := by simp_all
                exact ⟨rfl, hs, by omega, by omega, by omega⟩
  · rintro ⟨rfl, hs, hb, hsp, hr⟩
    have h8 := RecordHeader.sound_length hs
    rw [if_neg (by omega), if_neg (by omega), if_neg (by omega), if_neg (by omega), if_neg (by simp [hs]), if_neg (by omega)]

theorem atTake_bad_iff {r : StreamRec} {b : List Byte} (hb : 8 ≤ b.length) (hsp : 8 ≤ r.span)
    (hr : r.take + 8 ≤ r.ringSize) : r.atTake b = .bad (recordHeader b).kind ↔
      r.ringSize < r.take + (recordHeader b).length ∨
        ((recordHeader b).length ≤ r.span ∧ (recordHeader b).sound = false) := by
  have h1 : ¬ r.ringSize - r.take < 8 := by omega
  have h2 : ¬ (r.span < 8 ∨ b.length < 8) := by omega
  unfold StreamRec.atTake
  dsimp only
  rw [if_neg h1, if_neg h2]
  by_cases h3 : r.ringSize - r.take < (recordHeader b).length
  · rw [if_pos h3]
    exact iff_of_true rfl (.inl (by omega))
  · have h3' : ¬ r.ringSize < r.take + (recordHeader b).length := by omega
    rw [if_neg h3]
    by_cases h4 : r.span < (recordHeader b).length
    · rw [if_pos h4]
      exact iff_of_false nofun fun h => h.elim h3' fun h => by omega
    · rw [if_neg h4]
      cases hs : (recordHeader b).sound with
      | false => exact iff_of_true rfl (.inr ⟨by omega, rfl⟩)
      | true =>
        refine iff_of_false ?_ fun h => h.elim h3' fun h => nomatch h.2
        rw [if_neg (by decide)]
        split <;> exact nofun

theorem after_cases (r : StreamRec) (len : Nat) : (r.take + len = r.ringSize → r.after len = 0) ∧
    (r.take + len ≠ r.ringSize → r.after len = r.take + len) := ⟨fun h => if_pos h, fun h => if_neg h⟩

theorem span_eq {r : StreamRec} (ht : r.take < r.ringSize) (hf : r.fill < r.ringSize) :
    r.span = if r.take ≤ r.fill then r.fill - r.take else r.ringSize - r.take + r.fill := by
  rw [StreamRec.span, forward]
  split
  · next h =>
    rw [show r.fill + r.ringSize - r.take = r.fill - r.take + r.ringSize by omega, Nat.add_mod_right]
    exact Nat.mod_eq_of_lt (by omega)
  · rw [show r.fill + r.ringSize - r.take = r.ringSize - r.take + r.fill by omega]
    exact Nat.mod_eq_of_lt (by omega)

/-! ## Stops (R55, R82) -/

theorem hasStop_iff (f : Form) (k : Nat) : f.hasStop (.stop k) = true ↔ ∃ l, 1 ≤ l ∧ l ≤ f.lines ∧ f.carries k l = true := by
  simp only [Form.hasStop, Form.firstStop, List.find?_isSome, Form.linesFrom, List.mem_range'_1]
  constructor
  · rintro ⟨l, ⟨h1, h2⟩, hc⟩
    exact ⟨l, h1, by omega, hc⟩
  · rintro ⟨l, h1, h2, hc⟩
    exact ⟨l, ⟨h1, by omega⟩, hc⟩

theorem carriageOf_values : (∀ v, v ≤ 3 → carriageOf v = some (.space v)) ∧ carriageOf 0x40 = some .top ∧
    (∀ k, 1 ≤ k → k ≤ 8 → carriageOf (0x40 + k) = some (.stop k)) ∧
    ∀ v, 3 < v → v < 0x40 ∨ 0x48 < v → carriageOf v = none := by
  refine ⟨fun v h => if_pos h, rfl, fun k h1 h8 => ?_, fun v h3 h => ?_⟩ <;> unfold carriageOf
  · rw [if_neg (by omega), if_neg (by omega), if_pos (by omega), Nat.add_sub_cancel_left]
  · rw [if_neg (by omega), if_neg (by omega), if_neg (by omega)]

/-- Settles O35: the cursor, the strike and take move on one page, and the Composer goes on from there. -/
theorem linePlacesAStrike : Obligations.LinePlacesAStrike := by
  unfold Obligations.LinePlacesAStrike
  refine ⟨fun w c k => satAdd_toNat c k, fun b => ?_, sound_iff, atTake_whole_iff, fun r b => atTake_bad_iff,
    fun r len ht => ⟨(after_cases r len).1, (after_cases r len).2, span_eq ht⟩,
    fun f => ⟨fun _ => rfl, rfl, fun _ _ => rfl, hasStop_iff f⟩, carriageOf_values, ?_⟩
  · obtain ⟨k1, k2, k3, k4, k5⟩ := recordKind_iff (byteAt b 0)
    exact ⟨k1, k2, k3, k4, k5, rfl, rfl, rfl, rfl, rfl, rfl, rfl⟩
  · intro n i h b a l1 l2 s hb hr ho hcomp hc hj hw hk hbef haft hsb hsa hi hm1 hm2 hs
    have ha := owner_state ho
    refine ⟨_, exec_lineRecord ho hr hc hw hk, ?_⟩
    rw [takeLine_within (n := n) hc hj hbef haft hsb hsa hi hm1 hm2 hs]
    obtain ⟨v1, v2, v3, v4, v5, v6, v7, v8, v9⟩ := lineTaken_keeps s n i h l1 l2
    have k := settle_goesOn s (v := s.lineTaken n i h l1 l2) (n := n) (by rw [v1]; exact hb)
      ((owner_of_jobs (lineTaken_jobs ..)).trans ho) (v5.trans hcomp.readFailed) (by rw [v2]; exact hcomp.noCheck)
      fun _ => by rw [lineTaken_composing, hi]; exact nofun
    have hvn := lineTaken_stream s n i h l1 l2 n
    rw [if_pos rfl] at hvn
    have kn := k.core n
    rw [hvn] at kn
    have kslot (j : Fin 4) := (State.slot_congr k.store j).trans (lineTaken_slot hi n h l1 l2 j)
    have ki := (kslot i).trans (if_pos rfl)
    have hflush : (s.lineTaken n i h l1 l2).loadedFlush n =
        if (s.stream n).flushSecs = 0 then .stopped else .running ((s.stream n).flushSecs * 1000) := by
      rw [loadedFlush_run (by rw [v1]; exact hr), hvn]
      rfl
    have hpool : (State.settle s ((s.lineTaken n i h l1 l2).afterTake n)).store.poolUsed =
        s.store.poolUsed + (s.added i h l1).length := by rw [k.store, v9]
    have hover := core_overrun kn
    refine ⟨k.comp.cursor.trans (by rw [v7]), core_cursorLine kn, core_take kn, core_recordsTaken kn, k.buffer.trans v6,
      fun h0 => ?_, fun h0 => ?_, by rw [ki], by rw [ki], by rw [ki], by rw [ki], by rw [ki], fun hf => ?_, fun hf => ?_,
      fun j hj => (kslot j).trans (if_neg (Ne.symm hj)), fun m hm => ?_, (core_state kn).trans ha, (core_release kn).trans rfl,
      (core_late kn).trans rfl, (core_excess kn).trans rfl, by rw [k.store, v8], k.form.trans v2, ?_, k.view.trans v4, k.hostMem.trans v3⟩
    · have hadd : s.added i h l1 = [(s.slot i).newStrike h l1 s.loadedForm.positions (lineCodes h s.sc.buffer)] := if_neg h0
      rw [hpool, ki, hadd]
      exact ⟨rfl, rfl, rfl, hover⟩
    · have hadd : s.added i h l1 = [] := if_pos h0
      rw [hpool, ki, hadd]
      rw [h0, Nat.zero_sub, satAdd_zero] at hover
      exact ⟨List.append_nil _, rfl, hover⟩
    · obtain ⟨c1, c2⟩ := k.comp.ready (by rw [hvn]; exact hf)
      exact ⟨c1, c2.trans (by rw [v7])⟩
    · obtain ⟨c1, c2⟩ := k.comp.atFill (by rw [hvn]; exact hf)
      exact ⟨c1, c2.trans hflush⟩
    · rw [k.core, lineTaken_stream, if_neg (Ne.symm hm)]
    · exact k.queue.trans (queue_of_jobs (lineTaken_jobs ..))

end Sys2Proof.Machine
end
section
/-! SUPPORT. Pages that close or are released unused, and a stream that leaves its job (R38, R104, R110, R115). -/

namespace Sys2Proof.Machine

/-! ## The page a close leaves (R104 to R110) -/

/-- Of a page, steps 2 to 4 of a close touch the strikes, the rule glyph and their own marks. -/
theorem closedSlot_eq (s : State) (row : Nat) (sl : Slot) : ∃ ks ref made, ks.length = sl.strikes.length ∧
    s.closedSlot row sl = { sl with strikes := ks, ruleRef := ref, fillMade := made, firstClose := true } := by
  unfold State.closedSlot
  dsimp only
  split
  · unfold Slot.fillHeader
    split
    · exact ⟨_, _, _, by simp, rfl⟩
    · exact ⟨_, _, _, by simp, rfl⟩
  · exact ⟨_, _, _, by simp, rfl⟩

theorem closeSteps_slot_other (s : State) {i k : Fin 4} (h : k ≠ i) (row : Nat) : (s.closeSteps i row).slot k = s.slot k := by
  unfold State.closeSteps
  dsimp only
  split
  · exact (State.slot_modSlot (s.modStream _ _) i k _).trans (if_neg (Ne.symm h))
  · exact (State.slot_modSlot (s.modStream _ _) i k _).trans (if_neg (Ne.symm h))

/-- The first close of a page puts it at the tail of the imaging list; no close touches the pool. -/
theorem closeSteps_store (s : State) (i : Fin 4) (row : Nat) :
    (s.closeSteps i row).store.imaging =
      (if (s.slot i).firstClose then s.store.imaging else s.store.imaging ++ [i]) ∧
    (s.closeSteps i row).store.poolUsed = s.store.poolUsed ∧
    (s.closeSteps i row).store.lastOpened = s.store.lastOpened := by
  unfold State.closeSteps
  dsimp only
  by_cases h : (s.slot i).firstClose = true
  · rw [if_pos h, if_pos h]
    exact ⟨rfl, rfl, rfl⟩
  · rw [if_neg h, if_neg h]
    exact ⟨rfl, rfl, rfl⟩

theorem closeSteps_stream (s : State) (i : Fin 4) (row : Nat) (m : Fin 8) : (s.closeSteps i row).stream m =
    if (s.slot i).stream = m then { s.stream m with
      substitutes := satAdd (s.stream m).substitutes (s.closeSubstitutes row (s.slot i)) } else s.stream m := by
  rw [← State.stream_modStream s (s.slot i).stream m fun r =>
    { r with substitutes := satAdd r.substitutes (s.closeSubstitutes row (s.slot i)) }]
  unfold State.closeSteps
  dsimp only
  split <;> rfl

theorem closeFinal_slot_other (s : State) {i k : Fin 4} (h : k ≠ i) (e : Option JobEnd) :
    (s.closeFinal i e).slot k = s.slot k := by
  rw [State.closeFinal, State.slot_modSlot, if_neg (Ne.symm h), closeSteps_slot_other s h]

theorem closeFinal_store (s : State) (i : Fin 4) (e : Option JobEnd) :
    (s.closeFinal i e).store.imaging =
      (if (s.slot i).firstClose then s.store.imaging else s.store.imaging ++ [i]) ∧
    (s.closeFinal i e).store.poolUsed = s.store.poolUsed ∧
    (s.closeFinal i e).store.lastOpened = s.store.lastOpened := closeSteps_store s i _

theorem closeFinal_stream (s : State) (i : Fin 4) (e : Option JobEnd) (m : Fin 8) : (s.closeFinal i e).stream m =
    if (s.slot i).stream = m then { s.stream m with
      substitutes := satAdd (s.stream m).substitutes (s.closeSubstitutes (s.slot i).copy.length (s.slot i)) }
    else s.stream m := closeSteps_stream s i _ m

/-- The slot that a final close leaves (R110). -/
theorem closeFinal_slot_same (s : State) (i : Fin 4) (e : Option JobEnd) : (s.closeFinal i e).slot i =
    { (s.closedSlot (s.slot i).copy.length (s.slot i)).finalEntry with jobEnds := (s.slot i).jobEnds ++ e.toList } := by
  have h4 := (closedSlot_keeps s (s.slot i).copy.length (s.slot i)).2.2.2
  rw [State.closeFinal, State.slot_modSlot_same, closeSteps_slot]
  dsimp only
  rw [h4]

/-- A final close of slot `o` leaves the page in the state `st` with the entry `en` (R110). -/
def Slot.EndsAs (o : Slot) (st : SlotState) (en : Option Entry) : Prop :=
  ∀ sl : Slot, sl.state = o.state → sl.split = o.split → sl.entry = o.entry → sl.copy = o.copy →
    sl.finalEntry = { sl with mark := false, entry := en, state := st }

theorem Slot.endsAs_closed {o : Slot} (h : o.state = .composing) (h0 : o.split = 0) :
    o.EndsAs .closed (some ⟨0, o.copy.length⟩) := by
  intro sl h1 h2 _ h4
  unfold Slot.finalEntry
  simp only [h1.trans h]
  rw [if_pos (h2.trans h0), h2.trans h0, h4]

/-- A page flushed before goes on behind the rows it has sent. -/
theorem Slot.endsAs_imaging {o : Slot} (h : o.state = .composing) (h0 : 0 < o.split) :
    o.EndsAs .imaging (some ⟨o.split, o.copy.length⟩) := by
  intro sl h1 h2 _ h4
  unfold Slot.finalEntry
  simp only [h1.trans h]
  rw [if_neg (by omega), h2, h4]

/-- A page that has its entry from a flush keeps the row at which that begins. -/
theorem Slot.endsAs_extended {o : Slot} {e : Entry} (h : o.state ≠ .composing) (he : o.entry = some e) :
    o.EndsAs o.state (some ⟨e.first, o.copy.length⟩) := by
  intro sl h1 _ h3 h4
  unfold Slot.finalEntry
  rw [h3.trans he, h4, ← h1]
  cases hs : sl.state with
  | composing => exact absurd (h1.symm.trans hs) h
  | free | closed | imaging | sent => rfl

/-- What a final close leaves of a page (R104 to R110). -/
theorem closeFinal_page {s : State} {i : Fin 4} (e : Option JobEnd) {st : SlotState} {en : Option Entry}
    (hf : (s.slot i).EndsAs st en) :
    ∃ ks ref made, ks.length = (s.slot i).strikes.length ∧ (s.closeFinal i e).slot i =
      { s.slot i with
        strikes := ks, ruleRef := ref, fillMade := made, firstClose := true, mark := false, entry := en, state := st
        jobEnds := (s.slot i).jobEnds ++ e.toList } := by
  obtain ⟨ks, ref, made, hl, h⟩ := closedSlot_eq s (s.slot i).copy.length (s.slot i)
  refine ⟨ks, ref, made, hl, ?_⟩
  rw [closeFinal_slot_same, h,
    hf { s.slot i with strikes := ks, ruleRef := ref, fillMade := made, firstClose := true } rfl rfl rfl rfl]

/-! ## A page released unused (R115) -/

theorem newestSlot_congr {s t : State} (hi : t.store.imaging = s.store.imaging)
    (hs : ∀ k, (t.slot k).stream = (s.slot k).stream ∧ (t.slot k).state = (s.slot k).state) (n : Fin 8)
    (x : Option (Fin 4)) : t.newestSlot n x = s.newestSlot n x := by
  simp only [State.newestSlot, hi, (hs _).1, (hs _).2]

theorem newestSlot_ne {s : State} {n : Fin 8} {i k : Fin 4} (h : s.newestSlot n (some i) = some k) : k ≠ i := by
  obtain ⟨-, -, -, ⟨-, -, hk⟩, -⟩ := (newestSlot_iff n (some i) k s).mp h
  exact fun e => hk (by rw [e])

/-- With an older page of its stream, an untouched page hands that one what it holds. -/
theorem releaseUnused_older {s : State} {i k : Fin 4} (h : s.newestSlot (s.slot i).stream (some i) = some k) (e : JobEnd) :
    (s.releaseUnused i (some e)).slot i = Slot.free ∧
    (s.releaseUnused i (some e)).slot k = { s.slot k with
      releaseOff := (s.slot i).releaseOff
      markTag := (s.slot i).markTag.or (s.slot k).markTag
      jobEnds := (s.slot k).jobEnds ++ [e] } ∧
    (∀ m, ((s.releaseUnused i (some e)).stream m).release = (s.stream m).release ∧
      ((s.releaseUnused i (some e)).stream m).reports = (s.stream m).reports) ∧
    (s.releaseUnused i (some e)).writer = s.writer := by
  have hne := newestSlot_ne h
  let f : Slot → Slot := fun t =>
    { t with
      releaseOff := (s.slot i).releaseOff
      markTag := (s.slot i).markTag.or t.markTag
      jobEnds := t.jobEnds ++ [e] }
  let w := (s.modSlot k f).modStream (s.slot i).stream fun r =>
      { r with heldExits := min r.heldExits ((s.slotsOf (s.slot i).stream).length - 2) }
  have hw : s.releaseUnused i (some e) = w.clearSlot i := by
    unfold State.releaseUnused
    dsimp only
    rw [h]
    rfl
  rw [hw]
  refine ⟨(State.slot_clearSlot w i i).trans (if_pos rfl), ?_, fun m => ?_, rfl⟩
  · rw [State.slot_clearSlot, if_neg (Ne.symm hne)]
    exact (State.slot_modSlot_same s k f :)
  · have hm : (w.clearSlot i).stream m = w.stream m := rfl
    rw [hm, State.stream_modStream]
    split <;> exact ⟨rfl, rfl⟩

/-- With no older page of its stream, an untouched page hands all it holds to the Stream Controller. -/
theorem releaseUnused_last {s : State} {i : Fin 4} {n : Fin 8} (hn : (s.slot i).stream = n)
    (h : s.newestSlot n (some i) = none) (e : JobEnd) :
    (s.releaseUnused i (some e)).slot i = Slot.free ∧
    ((s.releaseUnused i (some e)).stream n).release = (s.slot i).releaseOff ∧
    ((s.releaseUnused i (some e)).stream n).reports = fallDue e.outcome (s.stream n).reports ∧
    (s.releaseUnused i (some e)).writer.reporting n = s.writer.reporting n := by
  subst hn
  let w := s.modStream (s.slot i).stream fun r => { r with release := (s.slot i).releaseOff }
  have hw : s.releaseUnused i (some e) =
      ((w.reportMark (s.slot i).stream (s.slot i).markTag).reportsFall (s.slot i).stream [e]).clearSlot i := by
    unfold State.releaseUnused
    dsimp only
    rw [h]
    rfl
  have hv : ((w.reportMark (s.slot i).stream (s.slot i).markTag).stream (s.slot i).stream).release = (s.slot i).releaseOff ∧
      ((w.reportMark (s.slot i).stream (s.slot i).markTag).stream (s.slot i).stream).reports =
        (s.stream (s.slot i).stream).reports ∧
      (w.reportMark (s.slot i).stream (s.slot i).markTag).writer.reporting (s.slot i).stream =
        s.writer.reporting (s.slot i).stream := by
    cases (s.slot i).markTag with
    | none =>
      refine ⟨?_, ?_, rfl⟩ <;> rw [State.reportMark, State.stream_modStream_same]
    | some tag =>
      refine ⟨?_, ?_, ?_⟩
      · rw [State.reportMark, State.askDescriptor, State.stream_ask, State.stream_modStream_same, State.stream_modStream_same]
      · rw [State.reportMark, State.askDescriptor, State.stream_ask, State.stream_modStream_same, State.stream_modStream_same]
      · rw [State.reportMark, State.askDescriptor, reporting_ask]
        simp [w]
  obtain ⟨h1, h2, h3⟩ := hv
  rw [hw]
  have hs (v : State) : (v.clearSlot i).stream = v.stream := rfl
  refine ⟨(State.slot_clearSlot _ i i).trans (if_pos rfl), ?_, ?_, h3⟩
  · rw [hs, State.reportsFall, State.stream_modStream_same]
    exact h1
  · rw [hs, State.reportsFall, State.stream_modStream_same]
    show fallDue e.outcome _ = _
    rw [h2]

/-! ## A stream leaves its job (R34, R35, R38) -/

/-- What the end of a job leaves of its stream, of the queue and of the Composer. -/
theorem leaveJob_leaves (s : State) (n : Fin 8) :
    (∀ m, (s.leaveJob n).stream m = if n = m then { s.stream m with
      reports := settleJob .done (s.stream m).reports, state := (s.stream n).leaving } else s.stream m) ∧
    (s.leaveJob n).sc.queue = (if (s.stream n).fill ≠ (s.stream n).take then
      if (s.stream n).rush then s.insertRushed n s.sc.queue else s.sc.queue ++ [n] else s.sc.queue) ∧
    (s.leaveJob n).sc.buffer = [] ∧ (s.leaveJob n).sc.readFailed = false ∧ (s.leaveJob n).comp = Composer.initial ∧
    (s.leaveJob n).store = s.store ∧ (s.leaveJob n).form = s.form ∧ (s.leaveJob n).regs = s.regs ∧
    (s.leaveJob n).hostMem = s.hostMem ∧ (s.leaveJob n).sc.view = s.sc.view ∧
    (s.leaveJob n).writer.reporting n = s.writer.reporting n := by
  let f : StreamRec → StreamRec := fun r => { r with reports := settleJob .done r.reports }
  let u := s.modStream n f
  have hu (m : Fin 8) : u.stream m = if n = m then f (s.stream m) else s.stream m := State.stream_modStream s n m f
  have hun : u.stream n = f (s.stream n) := (hu n).trans (if_pos rfl)
  have hg (st : StreamState) (m : Fin 8) : (u.giveUp n st).stream m =
      if n = m then { s.stream m with reports := settleJob .done (s.stream m).reports, state := st } else s.stream m := by
    rw [giveUp_stream, hu]
    split <;> rfl
  have hrep (st : StreamState) : (u.giveUp n st).writer.reporting n = s.writer.reporting n := by
    unfold State.giveUp
    rw [enterState_reporting]
    rfl
  unfold State.leaveJob StreamRec.leaving
  show (let s1 := u; _)
  dsimp only
  rw [hun]
  by_cases hf : (s.stream n).fill ≠ (s.stream n).take
  · obtain ⟨g1, g2, g3, g4⟩ := giveUp_sc u n .queued
    rw [if_pos (show (f (s.stream n)).fill ≠ (f (s.stream n)).take from hf), if_pos hf, if_pos hf]
    have hrush : ((u.giveUp n .queued).stream n).rush = (s.stream n).rush := by rw [hg, if_pos rfl]
    have hins : (u.giveUp n .queued).insertRushed n s.sc.queue = s.insertRushed n s.sc.queue :=
      insertRushed_congr (fun m => by rw [hg]; split <;> rfl) n _
    refine ⟨fun m => (stream_streams (enqueue_sc _ n).1 m).trans (hg .queued m), ?_, g2, g3, g4, by simp, by simp,
      by simp, by simp, by simp, hrep .queued⟩
    show (if ((u.giveUp n .queued).stream n).rush then (u.giveUp n .queued).insertRushed n (u.giveUp n .queued).sc.queue
      else (u.giveUp n .queued).sc.queue ++ [n]) = _
    have hq : u.sc.queue = s.sc.queue := rfl
    rw [hrush, g1, hq, hins]
  · obtain ⟨g1, g2, g3, g4⟩ := giveUp_sc u n .idle
    rw [if_neg (show ¬ (f (s.stream n)).fill ≠ (f (s.stream n)).take from hf), if_neg hf, if_neg hf]
    exact ⟨hg .idle, g1, g2, g3, g4, by simp, by simp, by simp, by simp, by simp, hrep .idle⟩

/-- A stream whose job ended with nothing left owes STREAMn (R12). -/
theorem leaveJob_waits {s : State} {n : Fin 8} (ha : (s.stream n).state = .active)
    (hf : (s.stream n).fill = (s.stream n).take) : (s.leaveJob n).Waits ⟨.descriptor n, true, false, false⟩ := by
  have hu : (s.modStream n fun r => { r with reports := settleJob .done r.reports }).stream n =
      { s.stream n with reports := settleJob .done (s.stream n).reports } := State.stream_modStream_same s n _
  unfold State.leaveJob
  dsimp only
  rw [hu, if_neg (by simp [hf])]
  refine giveUp_waits ?_ (.inl rfl)
  rw [hu]
  show (s.stream n).state ≠ _
  rw [ha]
  exact nofun

/-! ## The grant in a settlement (R35) -/

/-- With no owner and RUN 1 a settlement grants the head of the Job Queue. -/
theorem settle_head (old : State) {u : State} {m : Fin 8} {rest : List (Fin 8)} (hb : u.regs.resetBusy = false)
    (hc : u.Composed) (ho : u.owner = none) (hq : u.sc.queue = m :: rest) (hr : u.regs.run = true) :
    ((State.settle old u).stream m).state = .active ∧ ((State.settle old u).stream m).rush = false ∧
      (State.settle old u).sc.queue = rest ∧ (State.settle old u).comp = { Composer.initial with state := .ready } ∧
      ∀ k, k ≠ m → ((State.settle old u).stream k).core = (u.stream k).core := by
  obtain ⟨-, -, h3, h4⟩ := State.settle_composed old hb hc
  rw [grant_head ho hq hr] at h3 h4
  let w : State := { u with sc := { u.sc with queue := rest } }
  let f : StreamRec → StreamRec := fun r => { r with state := .active, rush := false }
  have hs (k : Fin 8) : ((State.settle old u).stream k).core = (if m = k then f (u.stream k) else u.stream k).core := by
    rw [h4.core]
    exact congrArg StreamRec.core ((State.stream_congr (t := w.modStream m f) rfl k).trans (State.stream_modStream w m k f))
  have hm := hs m
  rw [if_pos rfl] at hm
  exact ⟨(core_state hm).trans rfl, (congrArg StreamRec.rush hm :).trans rfl, h4.queue.trans rfl, h3.trans rfl,
    fun k hk => (hs k).trans (by rw [if_neg (Ne.symm hk)])⟩

end Sys2Proof.Machine
end
section
/-! PROOF. The END of a job (R38). -/

namespace Sys2Proof.Machine

/-! ## The page of the job (R38, R41) -/

/-- A page with a strike, or with its cursor past line 1, closes. -/
theorem endPage_closes {s : State} {i : Fin 4} (h : (s.slot i).strikes ≠ [] ∨ 1 < s.comp.cursor.getD 1) (e : JobEnd) :
    s.endPage i e = s.closeFinal i (some e) := by
  refine if_neg fun k => ?_
  obtain ⟨k1, k2⟩ : (s.slot i).strikes = [] ∧ s.comp.cursor.getD 1 = 1 := by simpa [State.pageEmpty] using k
  rcases h with h | h
  · exact h k1
  · omega

/-- An untouched page is released unused. -/
theorem endPage_releases {s : State} {i : Fin 4} (h : (s.slot i).strikes = []) (hc : s.comp.cursor = some 1) (e : JobEnd) :
    s.endPage i e = s.releaseUnused i (some e) := if_pos (by simp [State.pageEmpty, h, hc])

theorem endJobPage_some {s : State} {i : Fin 4} (h : s.composing = some i) (e : JobEnd) :
    s.endJobPage e = s.endPage i e := by simp only [State.endJobPage, h]

theorem endJobPage_pagesOnly (s : State) (e : JobEnd) : s.PagesOnly (s.endJobPage e) := by
  unfold State.endJobPage
  split
  · exact endPage_pagesOnly s _ e
  · exact .refl s

@[simp] theorem endJobPage_keeps (s : State) (e : JobEnd) : (s.endJobPage e).regs = s.regs ∧
    (s.endJobPage e).form = s.form ∧ (s.endJobPage e).hostMem = s.hostMem ∧ (s.endJobPage e).comp = s.comp := by
  unfold State.endJobPage
  split <;> simp

/-! ## The END taken -/

/-- The state in which an END has been taken and its page has ended, before its stream leaves the job. -/
def State.pageEnded (s : State) (n : Fin 8) (h : RecordHeader) (e : JobEnd) : State :=
  (s.advanceTake n h.length).endJobPage e

theorem pageEnded_bare (s : State) (n : Fin 8) (h : RecordHeader) (e : JobEnd) (m : Fin 8) :
    ((s.pageEnded n h e).stream m).bare =
      (if n = m then (s.stream m).taken ((s.stream n).after h.length) else s.stream m).bare := by
  rw [State.pageEnded, (endJobPage_pagesOnly _ e).bare m, advanceTake_stream]

theorem bare_fields {r q : StreamRec} (h : r.bare = q.bare) : r.state = q.state ∧ r.fill = q.fill ∧ r.take = q.take ∧
    r.rush = q.rush ∧ r.recordsTaken = q.recordsTaken :=
  ⟨(congrArg StreamRec.state h :), (congrArg StreamRec.fill h :), (congrArg StreamRec.take h :),
    (congrArg StreamRec.rush h :), (congrArg StreamRec.recordsTaken h :)⟩

theorem pageEnded_other (s : State) {n m : Fin 8} (h : RecordHeader) (e : JobEnd) (hm : m ≠ n) :
    ((s.pageEnded n h e).stream m).state = (s.stream m).state ∧ ((s.pageEnded n h e).stream m).rush = (s.stream m).rush := by
  have k := pageEnded_bare s n h e m
  rw [if_neg (Ne.symm hm)] at k
  obtain ⟨k1, -, -, k4, -⟩ := bare_fields k
  exact ⟨k1, k4⟩

/-- The stream of an END: its take and its count advance, the rest stays. -/
theorem pageEnded_own (s : State) (n : Fin 8) (h : RecordHeader) (e : JobEnd) :
    ((s.pageEnded n h e).stream n).state = (s.stream n).state ∧ ((s.pageEnded n h e).stream n).fill = (s.stream n).fill ∧
    ((s.pageEnded n h e).stream n).take = (s.stream n).after h.length ∧
    ((s.pageEnded n h e).stream n).rush = (s.stream n).rush ∧
    ((s.pageEnded n h e).stream n).recordsTaken = satAdd (s.stream n).recordsTaken 1 := by
  have k := pageEnded_bare s n h e n
  rw [if_pos rfl] at k
  exact bare_fields k

theorem pageEnded_rush (s : State) (n : Fin 8) (h : RecordHeader) (e : JobEnd) (m : Fin 8) :
    ((s.pageEnded n h e).stream m).rush = (s.stream m).rush := by
  by_cases hm : m = n
  · subst hm; exact (pageEnded_own s m h e).2.2.2.1
  · exact (pageEnded_other s h e hm).2

theorem pageEnded_lists (s : State) (n : Fin 8) (h : RecordHeader) (e : JobEnd) :
    (s.pageEnded n h e).sc.queue = s.sc.queue ∧ (s.pageEnded n h e).sc.view = s.sc.view ∧
    (s.pageEnded n h e).regs = s.regs ∧ (s.pageEnded n h e).form = s.form ∧ (s.pageEnded n h e).hostMem = s.hostMem := by
  obtain ⟨h1, -, -, h4, -⟩ := (sameLists_iff _ _).mp (endJobPage_pagesOnly (s.advanceTake n h.length) e).lists
  refine ⟨h1.symm.trans (queue_of_jobs (advanceTake_jobs s n _)), h4.symm.trans (by simp), ?_, ?_, ?_⟩ <;>
    simp [State.pageEnded]

/-- What an END of a job in progress leaves, before the settlement. -/
structure State.EndLeft (s : State) (n : Fin 8) (h : RecordHeader) (u : State) : Prop where
  regs : u.regs = s.regs
  composed : u.Composed
  owner : u.owner = none
  take : (u.stream n).take = (s.stream n).after h.length
  recordsTaken : (u.stream n).recordsTaken = satAdd (s.stream n).recordsTaken 1
  buffer : u.sc.buffer = []
  comp : u.comp = Composer.initial
  form : u.form = s.form
  view : u.sc.view = s.sc.view
  hostMem : u.hostMem = s.hostMem
  idles : (s.stream n).fill = (s.stream n).after h.length →
    (u.stream n).state = .idle ∧ u.sc.queue = s.sc.queue ∧ u.Waits ⟨.descriptor n, true, false, false⟩
  queues : (s.stream n).fill ≠ (s.stream n).after h.length → (u.stream n).state = .queued ∧
    u.sc.queue = if (s.stream n).rush then s.insertRushed n s.sc.queue else s.sc.queue ++ [n]

theorem leaveJob_endLeft {s : State} {n : Fin 8} (ha : (s.stream n).state = .active) (h1 : s.OneActive)
    (hf : s.form.noCheck = true) (h : RecordHeader) (e : JobEnd) : s.EndLeft n h ((s.pageEnded n h e).leaveJob n) := by
  obtain ⟨l1, l2, l3, l4, l5, -, l7, l8, l9, l10, -⟩ := leaveJob_leaves (s.pageEnded n h e) n
  obtain ⟨b1, b2, b3, b4, b5⟩ := pageEnded_own s n h e
  obtain ⟨q1, q2, q3, q4, q5⟩ := pageEnded_lists s n h e
  have ln := l1 n
  rw [if_pos rfl] at ln
  have hst : (((s.pageEnded n h e).leaveJob n).stream n).state = ((s.pageEnded n h e).stream n).leaving := by rw [ln]
  have hne : ((s.pageEnded n h e).stream n).leaving ≠ .active := by unfold StreamRec.leaving; split <;> exact nofun
  refine ⟨l8.trans q3, ⟨by rw [l5]; rfl, l4, by rw [l7, q4]; exact hf⟩, ?_, by rw [ln]; exact b3, by rw [ln]; exact b5, l3,
    l5, l7.trans q4, l10.trans q2, l9.trans q5, fun hfill => ?_, fun hfill => ?_⟩
  · refine owner_none_of_leaves h1 ha (by rw [hst]; exact hne) fun m hm => ?_
    rw [l1, if_neg (Ne.symm hm)]
    exact (pageEnded_other s h e hm).1
  · have heq : ((s.pageEnded n h e).stream n).fill = ((s.pageEnded n h e).stream n).take := by rw [b2, b3, hfill]
    refine ⟨hst.trans (if_neg (by simp [heq])), ?_, leaveJob_waits (b1.trans ha) heq⟩
    rw [l2, if_neg (by simp [heq]), q1]
  · have hneq : ((s.pageEnded n h e).stream n).fill ≠ ((s.pageEnded n h e).stream n).take := by rw [b2, b3]; exact hfill
    refine ⟨hst.trans (if_pos hneq), ?_⟩
    rw [l2, if_pos hneq, q1, b4, insertRushed_congr (pageEnded_rush s n h e)]

/-! ## The page -/

/-- The page that an END closes (R110). -/
theorem pageEnded_closes {s : State} {n : Fin 8} {i : Fin 4} (h : RecordHeader) (e : JobEnd) {st : SlotState}
    {en : Option Entry} (hi : s.composing = some i) (ht : (s.slot i).strikes ≠ [] ∨ 1 < s.comp.cursor.getD 1)
    (hf : (s.slot i).EndsAs st en)
    {t : State} (hst : t.store = (s.pageEnded n h e).store) :
    (t.slot i).state = st ∧ (t.slot i).mark = false ∧ (t.slot i).entry = en ∧
      (t.slot i).jobEnds = (s.slot i).jobEnds ++ [e] ∧ (t.slot i).releaseOff = (s.stream n).after h.length ∧
      t.store.imaging = (if (s.slot i).firstClose then s.store.imaging else s.store.imaging ++ [i]) := by
  have ha := (advanceTake_slot hi n h.length i).trans (if_pos rfl)
  have hcl : s.pageEnded n h e = (s.advanceTake n h.length).closeFinal i (some e) := by
    rw [State.pageEnded, endJobPage_some ((advanceTake_composing s n _).trans hi)]
    refine endPage_closes ?_ e
    rw [ha]
    simpa using ht
  obtain ⟨ks, ref, made, -, hp⟩ := closeFinal_page (s := s.advanceTake n h.length) (i := i) (some e) (st := st) (en := en)
    (by rw [ha]; exact hf)
  have hs : t.slot i = _ := (State.slot_congr (hst.trans (congrArg State.store hcl)) i).trans hp
  refine ⟨by rw [hs], by rw [hs], by rw [hs], ?_, ?_, ?_⟩
  · rw [hs, ha]; rfl
  · rw [hs, ha]
  · rw [hst, hcl, (closeFinal_store _ i _).1, ha, (advanceTake_store n h.length).2.1]

/-- The untouched page that an END releases. -/
theorem pageEnded_releases {s : State} {n : Fin 8} {i : Fin 4} (h : RecordHeader) (e : JobEnd) (hi : s.composing = some i)
    (hk : (s.slot i).strikes = []) (hc : s.comp.cursor = some 1) :
    s.pageEnded n h e = (s.advanceTake n h.length).releaseUnused i (some e) := by
  have ha := (advanceTake_slot hi n h.length i).trans (if_pos rfl)
  rw [State.pageEnded, endJobPage_some ((advanceTake_composing s n _).trans hi)]
  exact endPage_releases (by rw [ha]; exact hk) (by simpa using hc) e

theorem advanceTake_newestSlot {s : State} {n : Fin 8} {i : Fin 4} (hi : s.composing = some i) (len : Nat)
    (x : Option (Fin 4)) : (s.advanceTake n len).newestSlot n x = s.newestSlot n x :=
  newestSlot_congr (advanceTake_store n len).2.1
    (fun k => by rw [advanceTake_slot hi]; split <;> exact ⟨rfl, rfl⟩) n x

end Sys2Proof.Machine
end
section
/-! PROOF. The statement about END. -/

namespace Sys2Proof.Machine

theorem exec_endRecord {s : State} {n : Fin 8} {h : RecordHeader} (ho : s.owner = some n) (hr : s.regs.run = true)
    (hc : s.comp.state = .ready) (hw : (s.stream n).atTake s.sc.buffer = .whole h) (hk : h.kind = .endJob) :
    exec .endRecord s = .next (State.settle s (s.takeEnd n h)) := by
  rw [← takeRecord_whole ho hr hc hw s.takeEnd, hk]
  rfl

/-- The report of the only job owed falls due, DONE, where its page is released. -/
theorem leaveJob_due {s w : State} {n : Fin 8} {r : Report} (hr : (s.stream n).reports = fallDue .done [r])
    (hd : r.due = false) (hw : s.writer.reporting n = false) (hl : w = s.leaveJob n) :
    (w.stream n).reports = [{ r with due := true, outcome := .done }] ∧ w.writer.reporting n = false := by
  obtain ⟨l1, -, -, -, -, -, -, -, -, -, l11⟩ := leaveJob_leaves s n
  have ln := l1 n
  rw [if_pos rfl] at ln
  refine ⟨?_, by rw [hl, l11, hw]⟩
  rw [hl, ln]
  show settleJob .done (s.stream n).reports = _
  rw [hr]
  simp [fallDue, settleJob, hd]

/-- The head of the Job Queue that an END leaves is granted. -/
theorem EndLeft_grants {s u : State} {n m : Fin 8} {h : RecordHeader} {rest : List (Fin 8)} (hu : s.EndLeft n h u)
    (hb : s.regs.resetBusy = false) (hr : s.regs.run = true) (hq : u.sc.queue = m :: rest) (old : State) :
    ((State.settle old u).stream m).state = .active ∧ ((State.settle old u).stream m).rush = false ∧
      (State.settle old u).sc.queue = rest ∧ (State.settle old u).comp = { Composer.initial with state := .ready } ∧
      ∀ k, k ≠ m → ((State.settle old u).stream k).core = (u.stream k).core :=
  settle_head old (by rw [hu.regs]; exact hb) hu.composed hu.owner hq (by rw [hu.regs]; exact hr)

/-- Settles O40: the page ends by what it holds, the stream leaves the job, and the head of the queue is granted. -/
theorem endFinishesTheJob : Obligations.EndFinishesTheJob := by
  unfold Obligations.EndFinishesTheJob
  intro n i h j s hb hr ho hc h1 hf hj hjs hw hk hi hin
  have ha := owner_state ho
  have hjob : s.comp.jobInProgress = true := by simp [Composer.jobInProgress, hj, hjs]
  let e : JobEnd := ⟨j.tag, .done⟩
  let u := (s.pageEnded n h e).leaveJob n
  have hu : s.EndLeft n h u := leaveJob_endLeft ha h1 hf h e
  have hend : s.takeEnd n h = u := by rw [takeEnd_eq hjob, hj]; rfl
  refine ⟨_, exec_endRecord ho hr hc hw hk, ?_⟩
  rw [hend]
  have hub : u.regs.resetBusy = false := by rw [hu.regs]; exact hb
  obtain ⟨k1, k2, k3, k4⟩ := State.settle_composed s hub hu.composed
  have hstore : (State.settle s u).store = (s.pageEnded n h e).store :=
    k1.trans (leaveJob_leaves (s.pageEnded n h e) n).2.2.2.2.2.1
  obtain ⟨st, rush, kn⟩ := settle_stream s hub hu.composed n
  have hai := (advanceTake_slot hi n h.length i).trans (if_pos rfl)
  have hnew (x : Option (Fin 4)) := advanceTake_newestSlot (n := n) hi h.length x
  have hun : u.stream n = { (s.pageEnded n h e).stream n with
      reports := settleJob .done ((s.pageEnded n h e).stream n).reports
      state := ((s.pageEnded n h e).stream n).leaving } :=
    ((leaveJob_leaves (s.pageEnded n h e) n).1 n).trans (if_pos rfl)
  have hrelease : ((State.settle s u).stream n).release = ((s.pageEnded n h e).stream n).release :=
    (core_release kn).trans (by rw [hun])
  have grants {m : Fin 8} {rest : List (Fin 8)} (hq : u.sc.queue = m :: rest) := EndLeft_grants hu hb hr hq s
  refine ⟨(core_take kn).trans hu.take, (core_recordsTaken kn).trans hu.recordsTaken,
    k4.buffer.trans ((grant_keepsComposer _ hu.composed.waits).2.trans hu.buffer),
    fun ht hst hsp hfc => ?_, fun hs0 hc0 hn => ?_, fun en ht hst hen hfc => ?_, fun ht hst hsp hfc => ?_,
    fun k hs0 hc0 hn => ?_, fun hfill hq => ?_, fun hfill hrush hq => ?_, fun hfill hrush hq => ?_,
    fun m front back hfill hrush hm hq hfr hbk => ?_, fun m rest hfill hrush hm hq => ?_, k2.trans hu.form, ?_, ?_⟩
  · obtain ⟨p1, p2, p3, p4, p5, p6⟩ := pageEnded_closes (n := n) h e hi ht (Slot.endsAs_closed hst hsp) hstore
    exact ⟨p1, p2, p3, p4, p5, by rw [p6, hfc]; rfl⟩
  · have hpe := pageEnded_releases (n := n) h e hi hs0 hc0
    obtain ⟨r1, r2, r3, r4⟩ := releaseUnused_last (s := s.advanceTake n h.length) (i := i) (n := n) (by rw [hai]; exact hin)
      ((hnew _).trans hn) e
    rw [← hpe] at r1 r2 r3 r4
    refine ⟨(State.slot_congr hstore i).trans r1, hrelease.trans (by rw [r2, hai]), fun r hrep hd hwr => ?_⟩
    obtain ⟨d1, d2⟩ := leaveJob_due (w := u) (r := r)
      (r3.trans (by rw [advanceTake_stream, if_pos rfl]; exact congrArg (fallDue .done) hrep)) hd (r4.trans (by simpa using hwr)) rfl
    obtain ⟨⟨s1, s2, s3, -⟩, s5, -⟩ := settle_due s hub hu.composed d1 rfl d2
    exact ⟨s1, s2, s3, s5⟩
  · obtain ⟨p1, p2, p3, p4, p5, p6⟩ := pageEnded_closes (n := n) h e hi ht (Slot.endsAs_extended hst hen) hstore
    exact ⟨p1, p2, p3, p4, by rw [p6, hfc]; rfl⟩
  · obtain ⟨p1, p2, p3, p4, p5, p6⟩ := pageEnded_closes (n := n) h e hi ht (Slot.endsAs_imaging hst hsp) hstore
    exact ⟨p1, p2, p3, p4, by rw [p6, hfc]; rfl⟩
  · have hne := newestSlot_ne hn
    have hpe := pageEnded_releases (n := n) h e hi hs0 hc0
    obtain ⟨r1, r2, r3, -⟩ := releaseUnused_older (s := s.advanceTake n h.length) (i := i) (k := k)
      (by rw [hai]; show State.newestSlot _ (s.slot i).stream _ = _; rw [hin, hnew]; exact hn) e
    rw [← hpe] at r1 r2 r3
    refine ⟨(State.slot_congr hstore i).trans r1, ?_, ?_⟩
    · rw [State.slot_congr hstore k, r2, advanceTake_slot hi, if_neg (Ne.symm hne), hai]
      cases (s.slot i).markTag <;> rfl
    · rw [hrelease, (r3 n).1, advanceTake_stream, if_pos rfl]
      rfl
  · obtain ⟨i1, i2, i3⟩ := hu.idles hfill
    obtain ⟨hcore, -⟩ := settle_unqueued s hub hu.composed (m := n) (by rw [i2]; exact hq)
    exact ⟨(core_state hcore).trans i1, i3.owes.settle s hub hu.composed,
      fun hq0 => (settle_settled s hub hu.composed (.inr (.inl (i2.trans hq0)))).comp.trans hu.comp⟩
  · obtain ⟨-, q2⟩ := hu.queues hfill
    rw [if_pos hrush, ← List.nil_append s.sc.queue, insertRushed_behind (by simp) hq] at q2
    obtain ⟨g1, g2, g3, g4, -⟩ := grants q2
    rw [g4]
    exact ⟨g1, g2, g3, rfl, rfl, rfl⟩
  · obtain ⟨-, q2⟩ := hu.queues hfill
    rw [if_neg (by simp [hrush]), hq] at q2
    obtain ⟨g1, g2, g3, g4, -⟩ := grants q2
    rw [g4]
    exact ⟨g1, g2, g3, rfl, rfl, rfl⟩
  · obtain ⟨q1, q2⟩ := hu.queues hfill
    rw [if_pos hrush, hq, insertRushed_behind hfr hbk] at q2
    obtain ⟨g1, g2, g3, g4, g5⟩ := grants q2
    rw [g4]
    exact ⟨(core_state (g5 n (Ne.symm hm))).trans q1, g3, g1, g2, rfl⟩
  · obtain ⟨q1, q2⟩ := hu.queues hfill
    rw [if_neg (by simp [hrush]), hq] at q2
    obtain ⟨g1, g2, g3, g4, g5⟩ := grants q2
    rw [g4]
    exact ⟨(core_state (g5 n (Ne.symm hm))).trans q1, g3, g1, g2, rfl, rfl, rfl⟩
  · rw [State.settle_view]; exact hu.view
  · simpa using hu.hostMem

end Sys2Proof.Machine
end
section
/-! PROOF. Records that fail their checks (R31, R41, R55, R68). -/

namespace Sys2Proof.Machine

/-! ## The records that fault their stream (R31, R55) -/

theorem jobInProgress_iff (c : Composer) : c.jobInProgress = true ↔ ∃ j, c.job = some j ∧ j.started = true := by
  unfold Composer.jobInProgress
  cases c.job <;> simp

/-- A record is bad by the kind its first byte names. -/
theorem atTake_bad_kind {r : StreamRec} {b : List Byte} {k : RecordKind} (h : r.atTake b = .bad k) :
    k = recordKind (byteAt b 0) := by
  have e : k = (recordHeader b).kind := by
    unfold StreamRec.atTake at h
    dsimp only at h
    split at h
    · split at h <;> cases h
      rfl
    · split at h
      · cases h
      · split at h
        · cases h; rfl
        · split at h
          · cases h
          · split at h
            · cases h; rfl
            · split at h <;> cases h
  exact e

theorem takeLine_noJob {s : State} (h : s.comp.jobInProgress = false) (n : Fin 8) (r : RecordHeader) :
    s.takeLine n r = s.faultActive n .noJob := by simp [State.takeLine, h]

theorem takeLine_badCarriage {s : State} {h : RecordHeader} (hj : s.comp.jobInProgress = true)
    (hc : carriageOf h.before = none ∨ carriageOf h.after = none) (n : Fin 8) :
    s.takeLine n h = s.faultActive n .badCarriage := by
  rw [State.takeLine, if_pos hj]
  rcases hc with hc | hc
  · rw [hc]
  · rw [hc]
    cases carriageOf h.before <;> rfl

theorem takeLine_missingStop {s : State} {h : RecordHeader} {b a : Carriage} (hj : s.comp.jobInProgress = true)
    (hb : carriageOf h.before = some b) (ha : carriageOf h.after = some a)
    (hs : s.loadedForm.hasStop b = false ∨ s.loadedForm.hasStop a = false) (n : Fin 8) :
    s.takeLine n h = s.faultActive n .missingStop := by
  rw [State.takeLine, if_pos hj, hb, ha]
  exact if_neg (by rcases hs with hs | hs <;> simp [hs])

/-- What a whole record of kind `k` at take does. -/
def State.actOn (s : State) (k : RecordKind) (n : Fin 8) (h : RecordHeader) : State :=
  match k with
  | .line => s.takeLine n h
  | .job => s.takeJob n
  | .endJob => s.takeEnd n h
  | .mark => s.takeMark n h
  | .wrap => s.takeWrap n
  | .unknown => s

/-- `c` is the command that takes records of kind `k`. -/
def TakesKind (c : Instr) (k : RecordKind) : Prop :=
  (c = .lineRecord ∧ k = .line) ∨ (c = .jobRecord ∧ k = .job) ∨ (c = .endRecord ∧ k = .endJob) ∨
    (c = .markRecord ∧ k = .mark) ∨ (c = .wrapRecord ∧ k = .wrap)

theorem exec_takes {c : Instr} {k : RecordKind} (h : TakesKind c k) (s : State) :
    exec c s = .next (State.settle s (s.takeRecord k (s.actOn k))) := by
  rcases h with ⟨rfl, rfl⟩ | ⟨rfl, rfl⟩ | ⟨rfl, rfl⟩ | ⟨rfl, rfl⟩ | ⟨rfl, rfl⟩ <;> rfl

/-! ## The page of the job that faults (R41) -/

/-- An untouched page of the job is released unused, its job's end FAULTED. -/
theorem faultPage_releases {s : State} {n : Fin 8} {c : FaultCode} {j : JobInfo} {i : Fin 4} (hj : s.comp.job = some j)
    (hs : j.started = true) (hi : s.composing = some i) (hk : (s.slot i).strikes = []) (hc : s.comp.cursor = some 1) :
    s.faultPage n c = (s.releaseUnused i (some ⟨j.tag, .faulted⟩)).modStream n fun r =>
      { r with reports := settleJob .faulted r.reports } := by
  have hp := endPage_releases hk hc ⟨j.tag, .faulted⟩
  simp only [State.faultPage, hj, hs, hi, if_pos]
  rw [hp]

/-- What a fault leaves of the reports and of the writes owed, but for the state's own event. -/
theorem faultActive_reports (s : State) (n : Fin 8) (c : FaultCode) :
    ((s.faultActive n c).stream n).reports = ((s.abandonLoad.faultPage n c).stream n).reports ∧
    ((s.faultActive n c).stream n).jobTag = ((s.abandonLoad.faultPage n c).stream n).jobTag ∧
    ((s.faultActive n c).stream n).jobOutcome = ((s.abandonLoad.faultPage n c).stream n).jobOutcome ∧
    (s.faultActive n c).writer.reporting n = (s.abandonLoad.faultPage n c).writer.reporting n := by
  have h : (s.faultActive n c).stream n =
      { { (s.abandonLoad.faultPage n c).stream n with fault := c } with state := .faulted } := by
    rw [State.faultActive, giveUp_stream, if_pos rfl, State.stream_modStream_same]
  rw [h]
  exact ⟨rfl, rfl, rfl, enterState_reporting _ n n .faulted⟩

/-- Where an untouched last page of the stream ends the job, its only report is made with the fault. -/
theorem faultPage_due {s : State} {n : Fin 8} {c : FaultCode} {j : JobInfo} {i : Fin 4} {r : Report}
    (hj : s.comp.job = some j) (hs : j.started = true) (hi : s.composing = some i) (hk : (s.slot i).strikes = [])
    (hc : s.comp.cursor = some 1) (hn : (s.slot i).stream = n) (hnew : s.newestSlot n (some i) = none)
    (hr : (s.stream n).reports = [r]) (hd : r.due = false) (hw : s.writer.reporting n = false) :
    (s.faultPage n c).slot i = Slot.free ∧
      ((s.faultPage n c).stream n).reports = [{ r with due := true, outcome := .faulted }] ∧
      (s.faultPage n c).writer.reporting n = false := by
  obtain ⟨r1, -, r3, r4⟩ := releaseUnused_last hn hnew ⟨j.tag, .faulted⟩
  rw [faultPage_releases hj hs hi hk hc]
  refine ⟨r1, ?_, r4.trans hw⟩
  rw [State.stream_modStream_same, r3, hr]
  simp [fallDue, settleJob, hd]

/-- A fault at a JOB record with no JOB taken adds the report of that JOB (log 22). -/
theorem faultPage_untaken {s : State} {n : Fin 8} (hj : s.comp.job = none) (hb : s.sc.buffer ≠ [])
    (hk : recordKind (byteAt s.sc.buffer 0) = .job) :
    ((s.faultPage n .badRecord).stream n).reports = (s.stream n).reports ++ [⟨s.untakenTag n, .faulted, true, 0⟩] ∧
      (s.faultPage n .badRecord).writer = s.writer := by
  have ha : s.atJobRecord .badRecord = true := by simp [State.atJobRecord, hb, hk]
  have e : s.faultPage n .badRecord = s.reportUntakenJob n := by simp [State.faultPage, hj, ha]
  rw [e]
  exact ⟨congrArg StreamRec.reports (State.stream_modStream_same s n fun r =>
    { r with reports := r.reports ++ [⟨s.untakenTag n, .faulted, true, 0⟩] }), rfl⟩

theorem faultPage_noJob {s : State} {n : Fin 8} {c : FaultCode} (hj : s.comp.job = none)
    (hk : recordKind (byteAt s.sc.buffer 0) ≠ .job) : s.faultPage n c = s := by
  have ha : s.atJobRecord c = false := by simp [State.atJobRecord, hk]
  simp [State.faultPage, hj, ha]

theorem abandonLoad_stream (s : State) (m : Fin 8) : s.abandonLoad.stream m = s.stream m := State.stream_congr (by simp) m

theorem abandonLoad_slot (s : State) (k : Fin 4) : s.abandonLoad.slot k = s.slot k := State.slot_congr (by simp) k

theorem abandonLoad_composing (s : State) : s.abandonLoad.composing = s.composing :=
  composing_congr fun k => by rw [abandonLoad_slot]

theorem abandonLoad_newestSlot (s : State) (n : Fin 8) (x : Option (Fin 4)) :
    s.abandonLoad.newestSlot n x = s.newestSlot n x :=
  newestSlot_congr (by simp) (fun k => by rw [abandonLoad_slot]; exact ⟨rfl, rfl⟩) n x

/-! ## The settlement of a fault -/

section Settled
variable {s : State} {n : Fin 8} {c : FaultCode} (hb : s.regs.resetBusy = false) (ha : (s.stream n).state = .active)
  (hq : n ∉ s.sc.queue)
include hb

theorem faultActive_noReset : (s.faultActive n c).regs.resetBusy = false := by simpa using hb

include hq in
/-- The record, the read buffer and the owed write of the stream that faults (R31, R41). -/
theorem settle_faulted : let t := State.settle s (s.faultActive n c)
    (t.stream n).state = .faulted ∧ (t.stream n).fault = c ∧ (t.stream n).take = (s.stream n).take ∧
      (t.stream n).fill = (s.stream n).fill ∧ (t.stream n).recordsTaken = (s.stream n).recordsTaken ∧
      t.sc.buffer = [] ∧ (s.sc.queue = [] → t.comp = Composer.initial) := by
  obtain ⟨-, h2, h3, -, h5⟩ := faultActive_leaves s n c
  obtain ⟨r1, r2, r3, r4, r5⟩ := faultActive_record s n c
  have hub := faultActive_noReset hb (n := n) (c := c)
  have huc := faultActive_composed s n c
  obtain ⟨hcore, -⟩ := settle_unqueued s hub huc (m := n) (by rw [h2]; exact hq)
  obtain ⟨-, -, -, k4⟩ := State.settle_composed s hub huc
  exact ⟨(core_state hcore).trans r1, (core_fault hcore).trans r2, (core_take hcore).trans r3, (core_fill hcore).trans r4,
    (core_recordsTaken hcore).trans r5, k4.buffer.trans ((grant_keepsComposer _ huc.waits).2.trans h3),
    fun hq0 => (settle_settled s hub huc (.inr (.inl (h2.trans hq0)))).comp.trans h5⟩

include ha in
theorem settle_faulted_owes : (State.settle s (s.faultActive n c)).Owes ⟨.descriptor n, true, false, false⟩ :=
  (faultActive_waits (by rw [ha]; exact nofun) c).owes.settle s (faultActive_noReset hb) (faultActive_composed s n c)

/-- The report that the fault's page leaves at the head of the list is made. -/
theorem settle_faulted_due {p : Report} {rest : List Report}
    (hr : ((s.abandonLoad.faultPage n c).stream n).reports = p :: rest) (hd : p.due = true)
    (hw : (s.abandonLoad.faultPage n c).writer.reporting n = false) : let t := State.settle s (s.faultActive n c)
    (t.stream n).Shows p rest ∧ t.Owes ⟨.descriptor n, true, true, false⟩ := by
  obtain ⟨f1, -, -, f4⟩ := faultActive_reports s n c
  obtain ⟨h1, h2, -⟩ := settle_due s (faultActive_noReset hb) (faultActive_composed s n c) (f1.trans hr) hd (f4.trans hw)
  exact ⟨h1, h2⟩

theorem settle_faulted_store :
    (State.settle s (s.faultActive n c)).store = (s.abandonLoad.faultPage n c).store :=
  (State.settle_composed s (faultActive_noReset hb) (faultActive_composed s n c)).1.trans (faultActive_store s n c)

end Settled

/-! ## The statement -/

/-- A whole record of kind `k` and header `h` fails the check of which `code` tells (R31, R55). -/
def State.FailsCheck (s : State) (k : RecordKind) (h : RecordHeader) (code : FaultCode) : Prop :=
  (k = .job ∧ s.comp.jobInProgress = true ∧ code = .badRecord) ∨
    ((k = .line ∨ k = .endJob ∨ k = .mark) ∧ s.comp.jobInProgress = false ∧ code = .noJob) ∨
    (k = .line ∧ s.comp.jobInProgress = true ∧
      ((carriageOf h.before = none ∨ carriageOf h.after = none) ∧ code = .badCarriage ∨
        (∃ b a, carriageOf h.before = some b ∧ carriageOf h.after = some a ∧
          (s.loadedForm.hasStop b = false ∨ s.loadedForm.hasStop a = false) ∧ code = .missingStop)))

theorem actOn_faults {s : State} {k : RecordKind} {h : RecordHeader} {code : FaultCode} (hf : s.FailsCheck k h code)
    (n : Fin 8) : s.actOn k n h = s.faultActive n code := by
  rcases hf with ⟨rfl, hj, rfl⟩ | ⟨rfl | rfl | rfl, hj, rfl⟩ | ⟨rfl, hj, ⟨hc, rfl⟩ | ⟨b, a, hb, ha, hs, rfl⟩⟩
  · exact if_pos hj
  · exact takeLine_noJob hj n h
  · exact if_neg (by simp [hj])
  · exact if_neg (by simp [hj])
  · exact takeLine_badCarriage hj hc n
  · exact takeLine_missingStop hj hb ha hs n

theorem exec_faults {n : Fin 8} {c : Instr} {k : RecordKind} {code : FaultCode} {s : State} (hr : s.regs.run = true)
    (ho : s.owner = some n) (hc : s.comp.state = .ready) (hk : TakesKind c k)
    (h : ((∃ k', (s.stream n).atTake s.sc.buffer = .bad k' ∧ (k' = k ∨ k' = .unknown)) ∧ code = .badRecord) ∨
      (∃ h, (s.stream n).atTake s.sc.buffer = .whole h ∧ h.kind = k ∧ s.FailsCheck k h code)) :
    exec c s = .next (State.settle s (s.faultActive n code)) := by
  rw [exec_takes hk]
  rcases h with ⟨⟨k', hw, hk'⟩, rfl⟩ | ⟨r, hw, rfl, hf⟩
  · rw [takeRecord_bad ho hr hc hw hk']
  · rw [takeRecord_whole ho hr hc hw, actOn_faults hf]

/-- Settles O38: each failed check is one fault, whose page, report and owed write are those of `faultActive`. -/
theorem badRecordsFaultTheStream : Obligations.BadRecordsFaultTheStream := by
  unfold Obligations.BadRecordsFaultTheStream
  refine ⟨jobInProgress_iff, fun n c k code s hb hr ho hc hq hk hf => ?_⟩
  have ha := owner_state ho
  have hexec := exec_faults hr ho hc hk hf
  obtain ⟨t1, t2, t3, t4, t5, t6, t7⟩ := settle_faulted (c := code) hb hq
  have hstore := settle_faulted_store (n := n) (c := code) hb
  have hcomp : s.abandonLoad.comp = s.comp := by simp
  refine ⟨_, hexec, t1, t2, t3, t4, t5, t6, settle_faulted_owes hb ha, fun _ => t7,
    fun i j hi hj hs ht hst hsp => ?_, fun i j r hi hj hs hs0 hc0 hn hnew hrep hd hw => ?_,
    fun hj hw hrep hwr hbuf => ?_, fun hj hkd hrep => ?_, by rw [State.settle_view]; simp, by simp⟩
  · obtain ⟨ks, ref, made, hl, hp⟩ := closeFinal_page (s := s.abandonLoad) (i := i) (some ⟨j.tag, .faulted⟩)
      (by rw [abandonLoad_slot]; exact Slot.endsAs_closed hst hsp)
    have hcl := faultPage_closes (s := s.abandonLoad) (n := n) (c := code) (hcomp ▸ hj) hs
      ((abandonLoad_composing s).trans hi) (by rw [abandonLoad_slot, hcomp]; exact ht)
    rw [State.slot_congr (hstore.trans hcl), hp]
    rw [abandonLoad_slot] at hl ⊢
    exact ⟨rfl, rfl, rfl, rfl, hl⟩
  · obtain ⟨f1, f2, f3⟩ := faultPage_due (s := s.abandonLoad) (c := code) (hcomp ▸ hj) hs ((abandonLoad_composing s).trans hi)
      (by rw [abandonLoad_slot]; exact hs0) (by rw [hcomp]; exact hc0) (by rw [abandonLoad_slot]; exact hn)
      ((abandonLoad_newestSlot s n _).trans hnew) (by rw [abandonLoad_stream]; exact hrep) hd (by simpa using hw)
    obtain ⟨⟨s1, s2, s3, -⟩, s5⟩ := settle_faulted_due hb f2 rfl f3
    exact ⟨(State.slot_congr hstore i).trans f1, s1, s2, s3, s5⟩
  · have hkd := atTake_bad_kind hw
    obtain rfl : code = .badRecord := by
      rcases hf with ⟨-, h⟩ | ⟨h, hwh, -⟩
      · exact h
      · rw [hw] at hwh; cases hwh
    have hsc : s.abandonLoad.sc = s.sc := by simp
    obtain ⟨f1, f2⟩ := faultPage_untaken (s := s.abandonLoad) (n := n) (hcomp ▸ hj) (hsc ▸ hbuf) (hsc ▸ hkd.symm)
    rw [abandonLoad_stream, hrep] at f1
    obtain ⟨⟨s1, s2, s3, -⟩, s5⟩ := settle_faulted_due hb f1 rfl (by rw [f2]; simpa using hwr)
    refine ⟨s2, s3, s5, fun h16 hsp hr => s1.trans ?_⟩
    show s.abandonLoad.untakenTag n = _
    unfold State.untakenTag
    dsimp only
    rw [abandonLoad_stream, hsc]
    exact if_pos ⟨h16, hsp, hr⟩
  · have hsc : s.abandonLoad.sc = s.sc := by simp
    have hp : s.abandonLoad.faultPage n code = s.abandonLoad := faultPage_noJob (hcomp ▸ hj) (hsc ▸ hkd)
    obtain ⟨f1, f2, f3, -⟩ := faultActive_reports s n code
    rw [hp, abandonLoad_stream] at f1 f2 f3
    obtain ⟨k1, k2, k3, -⟩ := settle_noneDue s (faultActive_noReset hb) (faultActive_composed s n code) (n := n)
      (by rw [f1, hrep]; rfl)
    exact ⟨k1.trans (f1.trans hrep), k2.trans f2, k3.trans f3⟩

end Sys2Proof.Machine
end
section
/-! PROOF. CANCEL of the ACTIVE stream after its JOB (R25, R116, R180). -/

namespace Sys2Proof.Machine

theorem core_discardReports {r q : StreamRec} (h : r.core = q.core) : r.discardReports = q.discardReports :=
  (congrArg StreamRec.discardReports h :)

/-- The report that CANCEL adds for a JOB taken whose job is not yet in progress (R25). -/
def Composer.untakenReports (c : Composer) : List Report :=
  match c.job with
  | some j => if j.started then [] else [⟨j.tag, .cancelled, true, 0⟩]
  | none => []

theorem cancelJobs_adds (s : State) (n m : Fin 8) : (s.cancelJobs n).stream m = if n = m then
    { s.stream m with reports := cancelReports (s.stream m).reports ++ s.comp.untakenReports } else s.stream m :=
  State.stream_modStream s n m _

/-- The record of a stream whose job is cancelled: what is left of the job is discarded without a report. -/
def StreamRec.cancelled (r : StreamRec) (more : List Report) : StreamRec :=
  { r.discarding false with
    release := r.take, heldExits := 0, state := r.leaving, reports := cancelReports r.reports ++ more }

/-- What CANCEL of the ACTIVE stream leaves behind the discard of its slots. -/
structure State.CancelLeft (s : State) (n : Fin 8) (v : State) : Prop where
  stream : v.stream n = (s.stream n).cancelled s.comp.untakenReports
  queue : v.sc.queue = s.sc.queue
  buffer : v.sc.buffer = []
  comp : v.comp = Composer.initial
  composed : v.Composed
  form : ∀ l, v.form ≠ .loading l
  store : v.store = (s.discardSlots n).store
  engine : v.engine = (s.discardSlots n).engine
  linkOut : v.linkOut = (s.discardSlots n).linkOut
  reporting : v.writer.reporting n = s.writer.reporting n
  regs : v.regs = s.regs
  hostMem : v.hostMem = s.hostMem
  view : v.sc.view = s.sc.view

theorem cancelActive_left (s : State) (n : Fin 8) : s.CancelLeft n (s.cancelActive n) := by
  obtain ⟨hl, hdn, -⟩ := discardSlots_streams s n
  obtain ⟨lq, -, -, -, -⟩ := (sameLists_iff _ _).mp hl
  let b := (s.discardSlots n).abandonLoad.beginDiscard n false
  let f : StreamRec → StreamRec := fun r => { r with release := r.take, heldExits := 0 }
  let w := (b.modStream n f).cancelJobs n
  have hcomp : (b.modStream n f).comp = s.comp := by simp [b]
  have hb : b.stream n = (s.stream n).discarding false := by
    rw [beginDiscard_stream, if_pos rfl, abandonLoad_stream, hdn]
  have hw : w.stream n = { f ((s.stream n).discarding false) with
      reports := cancelReports (s.stream n).reports ++ s.comp.untakenReports } := by
    have h := cancelJobs_adds (b.modStream n f) n n
    rw [if_pos rfl, State.stream_modStream_same, hb, hcomp] at h
    exact h
  have hform : w.form = (s.discardSlots n).abandonLoad.form := by simp [w, b]
  obtain ⟨g1, g2, g3, g4⟩ := giveUp_sc w n (w.stream n).leaving
  have e : s.cancelActive n = w.giveUp n (w.stream n).leaving := rfl
  have hf : (w.giveUp n (w.stream n).leaving).form = (s.discardSlots n).abandonLoad.form := by simpa using hform
  rw [e]
  refine ⟨?_, g1.trans ?_, g2, g4, ⟨by rw [g4]; rfl, g3, by rw [hf]; exact (abandonLoad_form _).1⟩,
    fun l => by rw [hf]; exact (abandonLoad_form _).2.1 l, by simp [w, b], by simp [w, b], by simp [w, b], ?_, by simp [w, b],
    by simp [w, b], by simp [w, b]⟩
  · rw [giveUp_stream, if_pos rfl, hw]
    rfl
  · have h : w.sc.queue = (s.discardSlots n).sc.queue := by
      show (s.discardSlots n).abandonLoad.sc.queue = _
      rw [(by simp : (s.discardSlots n).abandonLoad.sc = (s.discardSlots n).sc)]
    exact h.trans lq.symm
  · unfold State.giveUp
    rw [enterState_reporting]
    have h : w.writer = s.writer := by simp [w, b]
    exact congrArg (fun v : StatusWriter => v.reporting n) h

/-- Settles O29: the slots by whether a HALT goes out, the record and the reports by what `cancelActive` leaves. -/
theorem cancelEndsTheActiveJob : Obligations.CancelEndsTheActiveJob := by
  unfold Obligations.CancelEndsTheActiveJob
  intro n x base size s hb hp hc ha hj ho h1 hq hr
  obtain ⟨v, hv, hdo⟩ : ∃ v, s.CancelLeft n v ∧ s.doCancel n x = v.answer n x .accepted := by
    refine ⟨_, cancelActive_left s n, ?_⟩
    obtain ⟨j, hj⟩ := Option.ne_none_iff_exists'.mp hj
    simp [State.doCancel, State.cancelStream, ha, hj]
  have hexec : exec .cancelRequest s = .next (State.settle s (v.answer n x .accepted)) := by
    have e : exec .cancelRequest s = .next (State.settle s (s.onRequest .cancel s.doCancel)) := rfl
    rw [e, onRequest_acts hp hc s.doCancel, hdo]
  have hvb : v.regs.resetBusy = false := hv.regs ▸ hb
  obtain ⟨a, st⟩ := settle_answered s hvb hv.composed (.inr (.inl (hv.queue.trans hq))) n x .accepted
  have hub : (v.answer n x .accepted).regs.resetBusy = false := by simpa using hvb
  have huc := answer_composed hv.composed n x .accepted
  have hcore : ((State.settle s (v.answer n x .accepted)).stream n).core =
      { (s.stream n).cancelled s.comp.untakenReports with result := .accepted }.core := by
    rw [a.core, hv.stream]
    rfl
  have hslot (i : Fin 4) : (State.settle s (v.answer n x .accepted)).slot i = (s.discardSlots n).slot i :=
    State.slot_congr (a.store.trans hv.store) i
  have hun : (v.answer n x .accepted).stream n =
      { (s.stream n).cancelled s.comp.untakenReports with result := .accepted } := by
    rw [answer_stream, if_pos rfl, hv.stream]
  have hw : (v.answer n x .accepted).writer.reporting n = s.writer.reporting n := by
    have e : (v.answer n x .accepted).writer.reporting n = v.writer.reporting n := by
      simp only [State.answer, reporting_ask, Bool.and_false, Bool.or_false]
      rfl
    exact e.trans hv.reporting
  have due {p : Report} {rest : List Report}
      (h : cancelReports (s.stream n).reports ++ s.comp.untakenReports = p :: rest) (hd : p.due = true)
      (hwr : s.writer.reporting n = false) := settle_due s hub huc (n := n) (by rw [hun]; exact h) hd (hw.trans hwr)
  refine ⟨_, hexec, a.phase, a.owes, (core_state hcore).trans rfl, (core_discard hcore).trans rfl,
    (core_discardReports hcore).trans rfl, (core_release hcore).trans rfl, (core_take hcore).trans rfl,
    (core_fill hcore).trans rfl, (core_result hcore).trans rfl, a.queue.trans (hv.queue.trans hq), st.buffer.trans hv.buffer,
    a.comp.trans hv.comp, fun l => a.form ▸ hv.form l, fun i h => ?_, fun hoff => ?_, fun hon hh => ?_,
    fun j r rest hjs hrep hd hwr => ?_, fun j hjs hs hrep hwr => ?_, a.hostMem.trans hv.hostMem⟩
  · rw [hslot] at h ⊢
    exact discardSlots_frees s n h
  · obtain ⟨-, d2, d3, d4⟩ := discardSlots_quiet (.inr hoff)
    have hcalm : (v.answer n x .accepted).refusalWaits = false :=
      refusalWaits_filter hr (fun m => !SentMsg.dropped (s.slotsOf n) m)
        (by show v.engine.sent = _; rw [hv.engine, d3])
    refine ⟨fun i hi => ?_, ?_⟩
    · rw [hslot, d4, if_neg fun h => hi h.1]
    · rw [(State.settle_calm s hub huc hcalm).1]
      exact (by simp : (v.answer n x .accepted).linkOut = v.linkOut).trans (hv.linkOut.trans d2)
  · obtain ⟨d1, d2, d3, d4, -⟩ := discardSlots_halts hon hh
    have he : (v.answer n x .accepted).engine = (s.discardSlots n).engine :=
      (by simp : (v.answer n x .accepted).engine = v.engine).trans hv.engine
    have hcalm : (v.answer n x .accepted).refusalWaits = false := by rw [State.refusalWaits, he, d4]; rfl
    obtain ⟨c1, -, -, -, -, c6, -⟩ := State.settle_calm s hub huc hcalm
    obtain ⟨es, eo, ee⟩ := engineTurn_engine (v.answer n x .accepted)
    rw [ee, he] at c6
    refine ⟨?_, by rw [c6]; exact d2, by rw [c6]; exact d3, by rw [c6]; exact d4⟩
    rw [c1]
    exact (by simp : (v.answer n x .accepted).linkOut = v.linkOut).trans (hv.linkOut.trans d1)
  · obtain ⟨⟨s1, s2, s3, s4⟩, -, s6⟩ := due
      (p := { r with due := true, outcome := if r.outcome = .faulted then .faulted else .cancelled })
      (rest := cancelReports rest ++ s.comp.untakenReports) (by rw [hrep]; simp [cancelReports, hd]) rfl hwr
    refine ⟨s1, s2, s3, s6 _ rfl (answer_waits v n x .accepted), s4.trans ?_⟩
    simp only [Composer.untakenReports, hjs]
    rfl
  · have hu : s.comp.untakenReports = [⟨j.tag, .cancelled, true, 0⟩] := by simp [Composer.untakenReports, hjs, hs]
    obtain ⟨⟨s1, s2, s3, s4⟩, -, s6⟩ := due (p := ⟨j.tag, .cancelled, true, 0⟩) (rest := [])
      (by rw [hrep, hu]; rfl) rfl hwr
    exact ⟨s1, s2, s3, s4, s6 _ rfl (answer_waits v n x .accepted)⟩

end Sys2Proof.Machine
end
section
/-! PROOF. A discard skips records (R42, R44, R45). -/

namespace Sys2Proof.Machine

/-! ## The owner and the held record -/

/-- A stream that is not ACTIVE before nor after, with the others as they were, changes no owner. -/
theorem owner_none_others {s v : State} {n : Fin 8} (hs : (s.stream n).state ≠ .active) (hv : (v.stream n).state ≠ .active)
    (ho : ∀ m, m ≠ n → (v.stream m).state = (s.stream m).state) : v.owner = none ↔ s.owner = none :=
  owner_none_congr fun m => by
    by_cases e : m = n
    · subst e; exact iff_of_false hv hs
    · rw [ho m e]

theorem grant_held (s : State) : s.grant.sc.held = s.sc.held := by
  unfold State.grant
  split
  · split <;> rfl
  · rfl

theorem settle_heldRecord (old : State) {u : State} (hb : u.regs.resetBusy = false) (hc : u.Composed) :
    (State.settle old u).sc.held = u.sc.held := by
  obtain ⟨-, -, -, h⟩ := State.settle_composed old hb hc
  exact h.held.trans (grant_held u)

theorem enterState_held (s : State) (n : Fin 8) (st : StreamState) : (s.enterState n st).sc.held = s.sc.held := by
  rw [enterState_sc]
  rfl

/-! ## A stream that ends its discard (R45) -/

theorem requeue_stream (s : State) (n m : Fin 8) : (s.requeue n).stream m =
    if n = m then { s.stream m with state := (s.stream n).leaving } else s.stream m := by
  unfold State.requeue StreamRec.leaving
  split
  · exact (stream_streams (enqueue_sc _ n).1 m).trans (enterState_stream s n .queued m)
  · exact enterState_stream s n .idle m

theorem requeue_queue (s : State) (n : Fin 8) : (s.requeue n).sc.queue =
    if (s.stream n).fill ≠ (s.stream n).take then
      if (s.stream n).rush then s.insertRushed n s.sc.queue else s.sc.queue ++ [n]
    else s.sc.queue := by
  have hr (m : Fin 8) : ((s.enterState n .queued).stream m).rush = (s.stream m).rush := by
    rw [enterState_stream]
    split <;> rfl
  unfold State.requeue
  split
  · show (if ((s.enterState n .queued).stream n).rush then
      (s.enterState n .queued).insertRushed n (s.enterState n .queued).sc.queue
      else (s.enterState n .queued).sc.queue ++ [n]) = _
    rw [hr, enterState_queue, insertRushed_congr hr]
  · exact enterState_queue s n .idle

theorem requeue_keepsScan (s : State) (n : Fin 8) : (s.requeue n).sc.held = s.sc.held ∧
    (s.requeue n).sc.readFailed = s.sc.readFailed ∧ (s.requeue n).writer.reporting n = s.writer.reporting n := by
  unfold State.requeue
  split
  · exact ⟨enterState_held s n _, enterState_readFailed s n _, enterState_reporting s n n _⟩
  · exact ⟨enterState_held s n _, enterState_readFailed s n _, enterState_reporting s n n _⟩

/-! ## The record skipped (R44) -/

/-- Where take comes to behind the record of header `h`. -/
def StreamRec.behind (r : StreamRec) (h : RecordHeader) : Nat := if h.kind = .wrap then 0 else r.after h.length

/-- The record of a stream that skips the record `b` of header `h`: take and release come to `next`. -/
def StreamRec.skipped (r : StreamRec) (next exits : Nat) (h : RecordHeader) (b : List Byte) : StreamRec :=
  { r with
    take := next
    release := next
    heldExits := exits
    discardTag := if h.kind = .job then some (jobTagOf b) else r.discardTag }

/-- The record of a stream whose discard ends at an END of tag `tag`. -/
def StreamRec.discarded (r : StreamRec) (tag : Word32) : StreamRec :=
  { r with
    discard := false
    discardReports := false
    discardTag := none
    reports := if r.discardReports then r.reports ++ [⟨r.discardTag.getD tag, .cancelled, true, 0⟩] else r.reports }

/-- The state in which a record has been skipped, before an END or fill at take is looked at. -/
def State.skipping (s : State) (n : Fin 8) (h : RecordHeader) (b : List Byte) : State :=
  (s.dropHeld n).modStream n fun r => r.skipped ((s.stream n).behind h) (s.slotsOf n).length h b

theorem skipping_stream (s : State) (n : Fin 8) (h : RecordHeader) (b : List Byte) (m : Fin 8) :
    (s.skipping n h b).stream m = if n = m then
      (s.stream m).skipped ((s.stream n).behind h) (s.slotsOf n).length h b else s.stream m :=
  State.stream_modStream (s.dropHeld n) n m _

theorem skipping_held {s : State} {n : Fin 8} {bytes : List Byte} (hh : s.sc.held = some ⟨n, bytes⟩) (h : RecordHeader)
    (b : List Byte) : (s.skipping n h b).sc.held = none := by
  show s.sc.held.filter _ = none
  rw [hh]
  simp [Option.filter]

theorem skipRecord_eq (s : State) (n : Fin 8) (h : RecordHeader) (b : List Byte) : s.skipRecord n h b =
    if h.kind = .endJob then ((s.skipping n h b).modStream n fun r => r.discarded (shortTag b)).requeue n
    else if ((s.skipping n h b).stream n).fill = (s.stream n).behind h ∧ ((s.skipping n h b).stream n).state = .queued then
      (s.skipping n h b).enterState n .idle
    else s.skipping n h b := rfl

/-- What a record skipped leaves of the other blocks and of the other streams. -/
structure State.SkipLeft (s : State) (n : Fin 8) (u : State) : Prop where
  noReset : u.regs.resetBusy = false
  run : u.regs.run = true
  composed : u.Composed
  inactive : (u.stream n).state ≠ .active
  others : ∀ m, m ≠ n → u.stream m = s.stream m
  held : u.sc.held = none
  reporting : u.writer.reporting n = s.writer.reporting n
  comp : u.comp = s.comp
  store : u.store = s.store
  form : u.form = s.form
  hostMem : u.hostMem = s.hostMem

section Skipped
variable {s : State} {n : Fin 8} {bytes : List Byte} (hb : s.regs.resetBusy = false) (hr : s.regs.run = true)
  (hc : s.Composed) (hh : s.sc.held = some ⟨n, bytes⟩) (hst : (s.stream n).state = .idle ∨ (s.stream n).state = .queued)
include hb hr hc hh hst

/-- A record that is no END: fill at take makes the stream IDLE (R44). -/
theorem skipRecord_on {h : RecordHeader} (hk : h.kind ≠ .endJob) (b : List Byte) : let u := s.skipRecord n h b
    s.SkipLeft n u ∧ u.sc.queue = s.sc.queue ∧
      u.stream n = { (s.stream n).skipped ((s.stream n).behind h) (s.slotsOf n).length h b with
        state := if (s.stream n).fill = (s.stream n).behind h then .idle else (s.stream n).state } := by
  have hv := skipping_stream s n h b
  have hvn := (hv n).trans (if_pos rfl)
  have hm {u : State} (hu : ∀ m, m ≠ n → u.stream m = (s.skipping n h b).stream m) (m : Fin 8) (e : m ≠ n) :
      u.stream m = s.stream m := by rw [hu m e, hv, if_neg (Ne.symm e)]
  have hvh := skipping_held hh h b
  dsimp only
  rw [skipRecord_eq, if_neg hk]
  by_cases he : (s.stream n).fill = (s.stream n).behind h ∧ (s.stream n).state = .queued
  · have hs (m : Fin 8) := enterState_stream (s.skipping n h b) n .idle m
    have hsn := (hs n).trans (if_pos rfl)
    rw [if_pos (by rw [hvn]; exact he)]
    refine ⟨⟨by simpa [State.skipping] using hb, by simpa [State.skipping] using hr,
      ⟨by simpa [State.skipping] using hc.waits, (enterState_readFailed _ n _).trans hc.readFailed,
        by simpa [State.skipping] using hc.noCheck⟩, by rw [hsn]; exact nofun,
      hm fun m e => by rw [hs, if_neg (Ne.symm e)], (enterState_held _ n _).trans hvh, enterState_reporting _ n n _,
      by simp [State.skipping], by simp [State.skipping], by simp [State.skipping], by simp [State.skipping]⟩,
      enterState_queue _ n _, ?_⟩
    rw [hsn, hvn, if_pos he.1]
  · rw [if_neg (by rw [hvn]; exact he)]
    refine ⟨⟨hb, hr, ⟨hc.waits, hc.readFailed, hc.noCheck⟩, ?_, hm fun _ _ => rfl, hvh, rfl, rfl, rfl, rfl, rfl⟩, rfl, ?_⟩
    · rw [hvn]
      show (s.stream n).state ≠ .active
      rcases hst with e | e <;> rw [e] <;> exact nofun
    · rw [hvn]
      by_cases hf : (s.stream n).fill = (s.stream n).behind h
      · rw [if_pos hf, ← hst.resolve_right fun e => he ⟨hf, e⟩]
        rfl
      · rw [if_neg hf]
        rfl

omit hst in
/-- An END ends the discard: the stream goes on as IDLE or QUEUED (R45). -/
theorem skipRecord_end {h : RecordHeader} (hk : h.kind = .endJob) (b : List Byte) : let u := s.skipRecord n h b
    s.SkipLeft n u ∧
      u.stream n = { ((s.stream n).skipped ((s.stream n).behind h) (s.slotsOf n).length h b).discarded (shortTag b) with
        state := if (s.stream n).fill ≠ (s.stream n).behind h then .queued else .idle } ∧
      u.sc.queue = if (s.stream n).fill ≠ (s.stream n).behind h then
        if (s.stream n).rush then s.insertRushed n s.sc.queue else s.sc.queue ++ [n] else s.sc.queue := by
  let v := (s.skipping n h b).modStream n fun r => r.discarded (shortTag b)
  have hv (m : Fin 8) : v.stream m = if n = m then
      ((s.stream m).skipped ((s.stream n).behind h) (s.slotsOf n).length h b).discarded (shortTag b) else s.stream m := by
    rw [State.stream_modStream, skipping_stream]
    split <;> rfl
  have hvn := (hv n).trans (if_pos rfl)
  have hrush (m : Fin 8) : (v.stream m).rush = (s.stream m).rush := by rw [hv]; split <;> rfl
  have hs := requeue_stream v n
  have hsn := (hs n).trans (if_pos rfl)
  have hl : (v.stream n).leaving = if (s.stream n).fill ≠ (s.stream n).behind h then .queued else .idle := by rw [hvn]; rfl
  obtain ⟨q1, q2, q3⟩ := requeue_keepsScan v n
  dsimp only
  rw [skipRecord_eq, if_pos hk]
  refine ⟨⟨by simpa [State.skipping] using hb, by simpa [State.skipping] using hr,
      ⟨by simpa [State.skipping] using hc.waits, q2.trans hc.readFailed,
        by simpa [State.skipping] using hc.noCheck⟩, ?_,
      fun m e => by rw [hs, if_neg (Ne.symm e), hv, if_neg (Ne.symm e)], q1.trans (skipping_held hh h b), q3,
      by simp [State.skipping], by simp [State.skipping], by simp [State.skipping], by simp [State.skipping]⟩, ?_, ?_⟩
  · rw [hsn]
    exact leaving_inactive _
  · rw [hsn, hl, hvn]
  · have hf : (v.stream n).fill = (s.stream n).fill ∧ (v.stream n).take = (s.stream n).behind h := by
      rw [hvn]; exact ⟨rfl, rfl⟩
    have e := requeue_queue v n
    rw [hf.1, hf.2, hrush, insertRushed_congr hrush] at e
    exact e

end Skipped

end Sys2Proof.Machine
end
section
/-! PROOF. The statement about the records that a discard skips. -/

namespace Sys2Proof.Machine

theorem exec_discardRecord {s : State} {n : Fin 8} {bytes : List Byte} (hr : s.regs.run = true)
    (hh : s.sc.held = some ⟨n, bytes⟩) (hd : (s.stream n).discard = true)
    (hst : (s.stream n).state = .idle ∨ (s.stream n).state = .queued)
    (h8 : min 8 ((s.stream n).ringSize - (s.stream n).take) ≤ bytes.length) :
    (∀ k, (s.stream n).atTake (bytes ++ List.replicate (recordHeader bytes).length 0) = .bad k →
      exec .discardRecord s = .next (State.settle s (s.faultInactive n .badRecord))) ∧
    ∀ h, (s.stream n).atTake (bytes ++ List.replicate (recordHeader bytes).length 0) = .whole h →
      h.skipBytes ≤ bytes.length → exec .discardRecord s = .next (State.settle s (s.skipRecord n h bytes)) := by
  have e : exec .discardRecord s = .next (State.settle s s.discardRecord) := rfl
  have hdis : s.discarding n = true := by simp [State.discarding, hd, hr, hst]
  have h8' : ¬ bytes.length < min 8 ((s.stream n).ringSize - (s.stream n).take) := Nat.not_lt.mpr h8
  rw [e]
  unfold State.discardRecord State.discardHeld
  simp only [hh]
  rw [if_pos hdis, if_neg h8']
  refine ⟨fun k hw => ?_, fun h hw hs => ?_⟩
  · simp only [hw]
  · simp only [hw]
    rw [if_neg (Nat.not_lt.mpr hs)]

theorem skipBytes_eq (h : RecordHeader) :
    h.skipBytes = if h.kind = .job then 16 else if h.kind = .endJob then 12 else 8 := by
  unfold RecordHeader.skipBytes
  cases h.kind <;> rfl

theorem core_discardTag {r q : StreamRec} (h : r.core = q.core) : r.discardTag = q.discardTag :=
  (congrArg StreamRec.discardTag h :)

/-! ## The settlement of a skip or of its fault -/

theorem SkipLeft_owner {s u : State} {n : Fin 8} (hu : s.SkipLeft n u)
    (hst : (s.stream n).state = .idle ∨ (s.stream n).state = .queued) : u.owner = none ↔ s.owner = none :=
  owner_none_others (by rcases hst with e | e <;> rw [e] <;> exact nofun) hu.inactive fun m hm => by rw [hu.others m hm]

/-- A skip after which nothing is granted. -/
theorem settle_skipped {s u : State} {n : Fin 8} (hu : s.SkipLeft n u) (hg : u.owner ≠ none ∨ u.sc.queue = []) :
    u.Settled (State.settle s u) :=
  settle_settled s hu.noReset hu.composed (hg.imp id .inl)

/-- The other streams, the blocks and the reports that a skip leaves, whether it grants or not. -/
theorem settle_skipLeft {s u : State} {n : Fin 8} (hu : s.SkipLeft n u) : let t := State.settle s u
    (∃ st rush, (t.stream n).core = { u.stream n with state := st, rush := rush }.core) ∧ t.sc.held = none ∧
      t.store = s.store ∧ t.form = s.form ∧ t.hostMem = s.hostMem := by
  obtain ⟨k1, k2, -, -⟩ := State.settle_composed s hu.noReset hu.composed
  exact ⟨settle_stream s hu.noReset hu.composed n, (settle_heldRecord s hu.noReset hu.composed).trans hu.held,
    k1.trans hu.store, k2.trans hu.form, by simpa using hu.hostMem⟩

/-- A fault of a discarding stream, which is out of the Job Queue and drops the record it held (R42). -/
theorem faultInactive_skipLeft {s : State} {n : Fin 8} {bytes : List Byte} (hb : s.regs.resetBusy = false)
    (hr : s.regs.run = true) (hc : s.Composed) (hh : s.sc.held = some ⟨n, bytes⟩) (c : FaultCode) :
    s.SkipLeft n (s.faultInactive n c) := by
  obtain ⟨f1, -, f3, -⟩ := faultInactive_leaves s n c
  refine ⟨by simpa using hb, by simpa using hr, ⟨by simpa using hc.waits, f3.trans hc.readFailed, by simpa using hc.noCheck⟩,
    by rw [f1, if_pos rfl]; exact nofun, fun m e => by rw [f1, if_neg (Ne.symm e)], ?_, ?_, by simp, by simp, by simp, by simp⟩
  · unfold State.faultInactive
    rw [enterState_held]
    show s.sc.held.filter _ = none
    rw [hh]
    simp [Option.filter]
  · unfold State.faultInactive
    exact enterState_reporting _ n n _

/-- Settles O42: the fault of a record that fails its checks, a record skipped, and the END by where the stream goes. -/
theorem discardSkipsRecordsToTheEnd : Obligations.DiscardSkipsRecordsToTheEnd := by
  unfold Obligations.DiscardSkipsRecordsToTheEnd
  refine ⟨skipBytes_eq, fun n bytes k s hb hr hc hg hh hd hst h8 hw => ?_, fun n bytes s => ?_⟩
  · have hu := faultInactive_skipLeft hb hr hc hh (n := n) .badRecord
    obtain ⟨f1, f2, -, f4⟩ := faultInactive_leaves s n .badRecord
    have fn := (f1 n).trans (if_pos rfl)
    have hne : (s.stream n).state ≠ .faulted := by rcases hst with e | e <;> rw [e] <;> exact nofun
    have k := settle_skipped hu (hg.imp (fun h => (SkipLeft_owner hu hst).not.mpr h) fun h => by rw [f2, h]; rfl)
    obtain ⟨-, t1, t2, t3, t4⟩ := settle_skipLeft hu
    have kn := k.core n
    rw [fn] at kn
    refine ⟨_, (exec_discardRecord hr hh hd hst h8).1 _ hw, (core_state kn).trans rfl, (core_fault kn).trans rfl,
      (core_take kn).trans rfl, (core_release kn).trans rfl, (core_fill kn).trans rfl, by rw [k.queue, f2]; simp, t1,
      (f4 hne).owes.settle s hu.noReset hu.composed, fun hrep => ?_, fun m e => by rw [k.core, hu.others m e],
      k.comp.trans hu.comp, t2, t3, t4⟩
    obtain ⟨n1, n2, n3, -⟩ := settle_noneDue s hu.noReset hu.composed (n := n) (by rw [fn]; show noneDue (s.stream n).reports = _; rw [hrep]; rfl)
    rw [fn] at n1 n2 n3
    exact ⟨n1.trans hrep, n2, n3⟩
  · intro h next hb hr hc hg hh hd hst hw hs
    have hnext : next = (s.stream n).behind h := rfl
    clear_value next
    subst hnext
    have h8 : min 8 ((s.stream n).ringSize - (s.stream n).take) ≤ bytes.length := by
      have := skipBytes_eq h
      split at this
      · omega
      · split at this <;> omega
    have hexec := (exec_discardRecord hr hh hd hst h8).2 h hw hs
    by_cases hk : h.kind = .endJob
    · obtain ⟨hu, hun, hq⟩ := skipRecord_end hb hr hc hh (h := h) hk bytes
      refine ⟨_, hexec, ?_⟩
      generalize s.skipRecord n h bytes = u at *
      obtain ⟨⟨st, rush, kn⟩, t1, t2, t3, t4⟩ := settle_skipLeft hu
      rw [hun] at kn
      have still (e : s.owner ≠ none ∨ (s.stream n).fill = (s.stream n).behind h) : u.Settled (State.settle s u) := by
        refine settle_skipped hu (e.elim (fun e => .inl ((SkipLeft_owner hu hst).not.mpr e)) fun e => ?_)
        refine hg.imp (fun g => (SkipLeft_owner hu hst).not.mpr g) fun g => ?_
        rw [hq, if_neg (by simp [e]), g]
      have granted (e : s.owner = none) (hf : (s.stream n).fill ≠ (s.stream n).behind h) := by
        have hq0 := hg.resolve_left fun g => g e
        have hqn : u.sc.queue = [n] := by
          rw [hq, if_pos hf, hq0]
          split <;> rfl
        exact settle_head s hu.noReset hu.composed ((SkipLeft_owner hu hst).mpr e) hqn hu.run
      have hrep : (u.stream n).reports = if (s.stream n).discardReports then (s.stream n).reports ++
          [⟨(s.stream n).discardTag.getD (shortTag bytes), .cancelled, true, 0⟩] else (s.stream n).reports := by
        rw [hun]
        simp [StreamRec.discarded, StreamRec.skipped, hk]
      refine ⟨(core_take kn).trans rfl, (core_release kn).trans rfl, fun e => absurd hk e,
        fun e => (nomatch hk.symm.trans e), fun _ => ⟨(core_discard kn).trans rfl, fun hf => ?_, fun ho hf hru => ?_,
        fun front back ho hf hru he hfr hbk => ?_, fun ho hf => ?_, fun hd hrep0 hw1 hw2 => ?_, fun hd hrep0 => ?_⟩, t1,
        (core_fill kn).trans rfl, fun m e => ?_, fun e => ?_, t2, t3, t4⟩
      · have k := still (.inr hf)
        exact ⟨(core_state (k.core n)).trans (by rw [hun, if_neg (by simp [hf])]),
          k.queue.trans (by rw [hq, if_neg (by simp [hf])])⟩
      · have k := still (.inl ho)
        exact ⟨(core_state (k.core n)).trans (by rw [hun, if_pos hf]), k.queue.trans (by rw [hq, if_pos hf, if_neg (by simp [hru])])⟩
      · have k := still (.inl ho)
        refine ⟨(core_state (k.core n)).trans (by rw [hun, if_pos hf]), k.queue.trans ?_⟩
        rw [hq, if_pos hf, if_pos hru, he, insertRushed_behind hfr hbk]
      · obtain ⟨g1, g2, g3, g4, -⟩ := granted ho hf
        exact ⟨g1, g2, g3, by rw [g4], by rw [g4]; rfl⟩
      · obtain ⟨⟨s1, s2, s3, -⟩, s5, -⟩ := settle_due s hu.noReset hu.composed (n := n) (rest := [])
          (p := ⟨(s.stream n).discardTag.getD (shortTag bytes), .cancelled, true, 0⟩)
          (by rw [hrep, if_pos hd, hrep0]; rfl) rfl (by rw [hu.reporting, StatusWriter.reporting, hw1, hw2]; rfl)
        exact ⟨s1, s2, s3, s5⟩
      · obtain ⟨n1, n2, n3, n4⟩ := settle_noneDue s hu.noReset hu.composed (n := n)
          (by rw [hrep, if_neg (by simp [hd]), hrep0]; rfl)
        rw [hrep, if_neg (by simp [hd])] at n1
        rw [hun] at n2 n3 n4
        exact ⟨n1.trans hrep0, n2, n3, n4⟩
      · by_cases g : s.owner ≠ none ∨ (s.stream n).fill = (s.stream n).behind h
        · rw [(still g).core, hu.others m e]
        · obtain ⟨g1, g2⟩ := not_or.mp g
          obtain ⟨-, -, -, -, g5⟩ := granted (not_not.mp g1) g2
          rw [g5 m e, hu.others m e]
      · exact (still (e.imp id fun e => e.resolve_left fun e => e hk)).comp.trans hu.comp
    · obtain ⟨hu, hq, hun⟩ := skipRecord_on hb hr hc hh hst hk bytes
      refine ⟨_, hexec, ?_⟩
      generalize s.skipRecord n h bytes = u at *
      obtain ⟨-, t1, t2, t3, t4⟩ := settle_skipLeft hu
      have k := settle_skipped hu (hg.imp (fun g => (SkipLeft_owner hu hst).not.mpr g) fun g => hq.trans g)
      have kn := k.core n
      rw [hun] at kn
      have hstate := core_state kn
      exact ⟨(core_take kn).trans rfl, (core_release kn).trans rfl,
        fun _ => ⟨(core_discard kn).trans hd, k.queue.trans hq, fun hf => hstate.trans (if_pos hf),
          fun hf => hstate.trans (if_neg hf)⟩,
        fun e => (core_discardTag kn).trans (if_pos e), fun e => absurd e hk, t1, (core_fill kn).trans rfl,
        fun m e => by rw [k.core, hu.others m e], fun _ => k.comp.trans hu.comp, t2, t3, t4⟩

end Sys2Proof.Machine
end
section
/-! SUPPORT. The settlement in which a wait of the Composer ends or goes on, and the page that opens (R66, R67, R99). -/

namespace Sys2Proof.Machine

/-! ## A settlement that ends a wait (R65 to R67) -/

/-- What shows of the streams when a settlement resumes the Composer and grants nothing: what the Composer's turn makes
of a state that differs from `u` in the Band Builder and the cache alone. -/
theorem settle_resumed (old : State) {u : State} (hb : u.regs.resetBusy = false) (hn : u.form.noCheck = true) :
    ∃ v : State, v.sc = u.sc ∧ v.comp = u.comp ∧ v.form = u.form ∧ v.store = u.store ∧ v.regs = u.regs ∧
      v.writer = u.writer ∧ v.hostMem = u.hostMem ∧
      (v.resumeWait.sc.readFailed = false → v.resumeWait.GrantsNothing →
        v.resumeWait.Settled (State.settle old u) ∧
        ∃ w : State, w.sc = v.resumeWait.sc ∧ w.writer = v.resumeWait.writer ∧
          State.settle old u = (State.settleStatus old w).serveBus) := by
  have hi : u.settleImaging = (u.startRebuild Config.sentMax).cacheBoundary :=
    State.checkForm_composed (by simpa using hn)
  refine ⟨u.settleImaging, by rw [hi]; simp, by rw [hi]; simp, by rw [hi]; simp, by rw [hi]; simp, by rw [hi]; simp,
    by rw [hi]; simp, by rw [hi]; simp, fun hr hg => ?_⟩
  generalize hv : u.settleImaging = v at hr hg ⊢
  have hsc : v.settleComposer = v.resumeWait := by
    rw [State.settleComposer, State.memReadFault_composed hr]
    exact State.grant_none (hg.imp id Or.symm)
  have hs : State.settle old u = (State.settleStatus old v.resumeWait.settleEngine).serveBus := by
    rw [State.settle, if_neg (by simp [hb]), hv, hsc]
  have hview : v.resumeWait.sc.view = u.sc.view := by rw [← hv, hi]; simp
  have hsame : (State.settle old u).SameStreams v.resumeWait := by
    rw [hs]
    exact (State.serveBus_same _).trans ((State.settleStatus_same _ _).trans (.of_eq (by simp [State.settleEngine])))
  refine ⟨⟨by rw [hs]; simp [State.settleEngine], by rw [hs]; simp [State.settleEngine], by rw [hs]; simp [State.settleEngine],
    hsame.core, hsame.queue, hsame.buffer, hsame.view, by rw [hs]; simp [State.settleEngine], fun o ho => ?_⟩,
    v.resumeWait.settleEngine, by simp [State.settleEngine], by simp [State.settleEngine], hs⟩
  rw [hs]
  have he : v.resumeWait.KeepsOwed v.resumeWait.settleEngine := .of_eq (by simp [State.settleEngine])
  exact ((he o ho).settleStatus old).serveBus

/-- The Composer's wait goes on: no slot is FREE, or no strike entry is (R65, R66). -/
def State.WaitStays (s : State) : Prop :=
  (s.comp.state = .waitSlot ∧ s.freeSlot = none) ∨ (s.comp.state = .waitStrike ∧ 1024 ≤ s.store.poolUsed)

theorem freeSlot_congr {s t : State} (h : t.store = s.store) : t.freeSlot = s.freeSlot := by
  simp only [State.freeSlot, h, State.slot_congr h]

theorem resumeWait_stays {s : State} (h : s.WaitStays) : s.resumeWait = s := by
  unfold State.resumeWait
  cases s.owner with
  | none => rfl
  | some n =>
    rcases h with ⟨h, hf⟩ | ⟨h, hp⟩
    · simp only [h, hf]
      cases s.comp.waiting <;> rfl
    · simp only [h]
      exact if_neg (Nat.not_lt.mpr hp)

theorem settle_stays (old : State) {u : State} (hb : u.regs.resetBusy = false) (hn : u.form.noCheck = true)
    (hr : u.sc.readFailed = false) (hg : u.GrantsNothing) (hw : u.WaitStays) : u.Settled (State.settle old u) := by
  obtain ⟨v, h1, h2, h3, h4, h5, h6, h7, hv⟩ := settle_resumed old hb hn
  have hstay : v.resumeWait = v := resumeWait_stays (by
    unfold State.WaitStays
    rw [h2, h4, freeSlot_congr h4]
    exact hw)
  rw [hstay] at hv
  obtain ⟨k, -⟩ := hv (h1 ▸ hr) (hg.imp (fun h => (State.owner_congr h1).symm ▸ h) fun h => h.imp (fun h => h1 ▸ h) fun h => h5 ▸ h)
  exact ⟨k.store.trans h4, k.form.trans h3, k.comp.trans h2, fun m => (k.core m).trans (by rw [State.stream_congr h1]),
    k.queue.trans (by rw [h1]), k.buffer.trans (by rw [h1]), k.view.trans (by rw [h1]), k.hostMem.trans h7,
    fun o ho => settle_keepsOwed old u o ho⟩

/-! ## The composing page and the free slot (R99) -/

theorem composing_iff (s : State) (i : Fin 4) : s.composing = some i ↔
    (s.slot i).mark = true ∧ ∀ k < i, (s.slot k).mark = false := by
  have h : ∀ (p : Fin 4 → Bool) (i : Fin 4), allSlots.find? p = some i ↔ p i = true ∧ ∀ k < i, p k = false := by decide
  exact h (fun k => (s.slot k).mark) i

theorem freeSlot_none_iff (s : State) : s.freeSlot = none ↔ ∀ i, (s.slot i).state ≠ .free := by
  have h : ∀ (l : Fin 4) (p : Fin 4 → Bool), (ringOrder l).find? p = none ↔ ∀ k, p k = false := by decide
  simpa [State.freeSlot, -List.find?_eq_none] using h s.store.lastOpened fun i => decide ((s.slot i).state = .free)

theorem freeSlot_some_iff (s : State) (i : Fin 4) : s.freeSlot = some i ↔ (s.slot i).state = .free ∧
    ∀ k : Fin 4, (k.val + 3 - s.store.lastOpened.val) % 4 < (i.val + 3 - s.store.lastOpened.val) % 4 →
      (s.slot k).state ≠ .free := by
  have h : ∀ (l : Fin 4) (p : Fin 4 → Bool) (i : Fin 4), (ringOrder l).find? p = some i ↔
      p i = true ∧ ∀ k : Fin 4, (k.val + 3 - l.val) % 4 < (i.val + 3 - l.val) % 4 → p k = false := by decide
  simpa [State.freeSlot] using h s.store.lastOpened (fun i => decide ((s.slot i).state = .free)) i

/-- The slot opened for the first page after all marks are gone is the composing page. -/
theorem composing_of_only {s : State} {i : Fin 4} (h : (s.slot i).mark = true) (ho : ∀ k, k ≠ i → (s.slot k).mark = false) :
    s.composing = some i := (composing_iff s i).mpr ⟨h, fun k hk => ho k (Fin.ne_of_lt hk)⟩

/-! ## The page that opens (R58, R59, R99) -/

theorem openAt_slot (s : State) (i : Fin 4) (n : Fin 8) (tag : Word32) (p : Nat) (first : Bool) (k : Fin 4) :
    (s.openAt i n tag p first).slot k = if i = k then s.openedSlot n tag p first else s.slot k :=
  State.slot_modSlot s i k fun _ => s.openedSlot n tag p first

theorem openAt_stream (s : State) (i : Fin 4) (n : Fin 8) (tag : Word32) (p : Nat) (first : Bool) (m : Fin 8) :
    (s.openAt i n tag p first).stream m = if n = m then { s.stream m with pageNo := p } else s.stream m := by
  unfold State.openAt
  dsimp only
  rw [State.stream_modStream]
  rfl

theorem openAt_composing {s : State} (h : ∀ k, (s.slot k).mark = false) (i : Fin 4) (n : Fin 8) (tag : Word32) (p : Nat)
    (first : Bool) : (s.openAt i n tag p first).composing = some i :=
  composing_of_only (by rw [openAt_slot, if_pos rfl]; rfl) fun k hk => by rw [openAt_slot, if_neg (Ne.symm hk)]; exact h k

end Sys2Proof.Machine
end
section
/-! PROOF. The form accepted and the first page of its job (R37, R75, R81, R93, R99). -/

namespace Sys2Proof.Machine

/-! ## The form a load gives (R81, R93) -/

theorem byteAt_lt (b : List Byte) (k : Nat) : byteAt b k < 256 := (b.getD k 0).isLt

theorem le16_lt (b : List Byte) (k : Nat) : le16 b k < 65536 := by
  have h0 := byteAt_lt b k
  have h1 := byteAt_lt b (k + 1)
  unfold le16
  omega

/-- Entry `c` of a translate table. -/
theorem translateEntries_at (xlate : List Byte) (c : Byte) :
    ((translateEntries xlate).getD c.toNat 0).toNat = le16 xlate (2 * c.toNat) := by
  have hc : c.toNat < 256 := c.isLt
  have h : (translateEntries xlate).getD c.toNat 0 = BitVec.ofNat 16 (le16 xlate (2 * c.toNat)) := by
    simp [translateEntries, List.getD, hc]
  rw [h, BitVec.toNat_ofNat]
  exact Nat.mod_eq_of_lt (le16_lt _ _)

/-- The stops of the lines that the form has are those of its vertical format table. -/
theorem formOf_carries (number : Nat) (b vft xlate : List Byte) (stop n : Nat) (h1 : 1 ≤ n) (hn : n ≤ byteAt b 1) :
    (formOf number b vft xlate).carries stop n = (vft.getD (n - 1) 0).getLsbD (stop - 1) := by
  have h : (vft.take (byteAt b 1)).getD (n - 1) 0 = vft.getD (n - 1) 0 := by
    simp [List.getD, show n - 1 < byteAt b 1 by omega]
  exact congrArg (fun x : Byte => x.getLsbD (stop - 1)) h

theorem formOf_rules (number : Nat) (b vft xlate : List Byte) : ∀ r < 4,
    (formOf number b vft xlate).rules[r]? = some ⟨byteAt b (32 + 4 * r), byteAt b (33 + 4 * r), byteAt b (34 + 4 * r)⟩ := by
  intro r hr
  match r, hr with
  | 0, _ | 1, _ | 2, _ | 3, _ => rfl

/-! ## The first page opens (R37, R99) -/

/-- The state in which the first page of job `j` stands open in slot `i`, before take advances past the JOB. -/
def State.jobOpened (s : State) (i : Fin 4) (n : Fin 8) (j : JobInfo) : State :=
  let s1 := s.openAt i n j.tag (j.firstPage % Config.pageNumbers) true
  let s2 := { s1 with comp := { s1.comp with job := some { j with started := true }, waiting := none } }
  (s2.setCursor n 1).modStream n fun r => { r with reports := r.reports ++ [⟨j.tag, .noneYet, false, 0⟩] }

theorem startJob_eq (s : State) (i : Fin 4) (n : Fin 8) (j : JobInfo) :
    s.startJob i n j = ((s.jobOpened i n j).advanceTake n 16).afterTake n := rfl

theorem jobOpened_slot (s : State) (i : Fin 4) (n : Fin 8) (j : JobInfo) (k : Fin 4) : (s.jobOpened i n j).slot k =
    if i = k then s.openedSlot n j.tag (j.firstPage % Config.pageNumbers) true else s.slot k :=
  openAt_slot s i n j.tag (j.firstPage % Config.pageNumbers) true k

theorem jobOpened_composing {s : State} (h : ∀ k, (s.slot k).mark = false) (i : Fin 4) (n : Fin 8) (j : JobInfo) :
    (s.jobOpened i n j).composing = some i :=
  openAt_composing h i n j.tag (j.firstPage % Config.pageNumbers) true

theorem jobOpened_stream (s : State) (i : Fin 4) (n : Fin 8) (j : JobInfo) (m : Fin 8) : (s.jobOpened i n j).stream m =
    if n = m then { s.stream m with
      pageNo := j.firstPage % Config.pageNumbers, cursorLine := 1
      reports := (s.stream m).reports ++ [⟨j.tag, .noneYet, false, 0⟩] } else s.stream m := by
  unfold State.jobOpened
  dsimp only
  rw [State.stream_modStream, setCursor_stream]
  have h := openAt_stream s i n j.tag (j.firstPage % Config.pageNumbers) true m
  have e (c : Composer) : ({ s.openAt i n j.tag (j.firstPage % Config.pageNumbers) true with comp := c } : State).stream m =
      (s.openAt i n j.tag (j.firstPage % Config.pageNumbers) true).stream m := rfl
  rw [e, h]
  split <;> rfl

theorem jobOpened_keeps (s : State) (i : Fin 4) (n : Fin 8) (j : JobInfo) :
    (s.jobOpened i n j).regs = s.regs ∧ (s.jobOpened i n j).form = s.form ∧ (s.jobOpened i n j).hostMem = s.hostMem ∧
    (s.jobOpened i n j).sc.view = s.sc.view ∧ (s.jobOpened i n j).sc.queue = s.sc.queue ∧
    (s.jobOpened i n j).sc.buffer = s.sc.buffer ∧ (s.jobOpened i n j).sc.readFailed = s.sc.readFailed ∧
    (s.jobOpened i n j).store.lastOpened = i ∧
    (s.jobOpened i n j).comp = { s.comp with job := some { j with started := true }, waiting := none, cursor := some 1 } :=
  ⟨rfl, rfl, rfl, rfl, rfl, rfl, rfl, rfl, rfl⟩

theorem jobOpened_jobs (s : State) (i : Fin 4) (n : Fin 8) (j : JobInfo) : (s.jobOpened i n j).jobs = s.jobs := by
  refine jobs_eq_iff.mpr ⟨rfl, fun m => ?_⟩
  rw [jobOpened_stream]
  split <;> exact ⟨rfl, rfl⟩

/-- The first page opened, the Composer goes on behind the JOB. -/
theorem settle_startJob (old : State) {s : State} {n : Fin 8} (i : Fin 4) (j : JobInfo) (hb : s.regs.resetBusy = false)
    (ho : s.owner = some n) (hr : s.sc.readFailed = false) (hn : s.form.noCheck = true)
    (hm : ∀ k, (s.slot k).mark = false) :
    ((s.jobOpened i n j).advanceTake n 16).WentOn n (State.settle old (s.startJob i n j)) := by
  obtain ⟨h1, h2, -, -, -, -, h7, -, -⟩ := jobOpened_keeps s i n j
  refine settle_goesOn old (by simpa [h1] using hb) ?_ ?_ (by simpa [h2] using hn) fun _ => ?_
  · exact (owner_of_jobs ((advanceTake_jobs _ n 16).trans (jobOpened_jobs s i n j))).trans ho
  · rw [(advanceTake_buffer _ n 16).2, h7]; exact hr
  · rw [advanceTake_composing, jobOpened_composing hm]; exact nofun

/-! ## The last transfer of the load (R76) -/

theorem takeFormBytes_accepts {s : State} {n : Fin 8} {l : Load} {b : List Byte} (hf : s.form = .loading l)
    (hl : l.step = .translate) (h : 512 ≤ (l.translateBytes ++ b).length) (ho : s.owner = some n) : s.takeFormBytes b =
      ({ s with form := .loaded (formOf l.number l.recordBytes l.vftBytes (l.translateBytes ++ b)) } : State).openJob n := by
  have ht : l.took b = { l with translateBytes := l.translateBytes ++ b } := by simp [Load.took, hl]
  have hc : (l.took b).complete = true := by rw [ht]; exact decide_eq_true ⟨hl, h⟩
  have ho' (f : FormUnit) : ({ s with form := f } : State).owner = some n := (State.owner_congr rfl).trans ho
  unfold State.takeFormBytes
  simp only [hf]
  rw [if_pos hc, ht]
  dsimp only
  rw [ho']

theorem openJob_opens {s : State} {j : JobInfo} {i : Fin 4} (hj : s.comp.job = some j) (hi : s.freeSlot = some i)
    (n : Fin 8) : s.openJob n = s.startJob i n j := by simp only [State.openJob, hj, hi]

theorem openJob_waits {s : State} {j : JobInfo} (hj : s.comp.job = some j) (hi : s.freeSlot = none) (n : Fin 8) :
    s.openJob n = s.waitSlot ⟨1, 0, j.firstPage % Config.pageNumbers, .openJob⟩ := by simp only [State.openJob, hj, hi]

/-- The state in which the form `f` stands LOADED. -/
structure State.Accepted (s : State) (f : Form) (w : State) : Prop where
  form : w.form = .loaded f
  sc : w.sc = s.sc
  comp : w.comp = s.comp
  store : w.store = s.store
  regs : w.regs = s.regs
  hostMem : w.hostMem = s.hostMem

theorem exec_formTransfer_accepts {s : State} {n : Fin 8} {l : Load} {len : Nat} {data : List Byte} (hd : data.length = len)
    (h : s.OnBus .translate len) (hf : s.form = .loading l) (hl : l.step = .translate)
    (h512 : 512 ≤ (l.translateBytes ++ data).length) (ho : s.owner = some n) : ∃ w : State,
      s.Accepted (formOf l.number l.recordBytes l.vftBytes (l.translateBytes ++ data)) w ∧
      exec (.formTransfer data) s = .next (State.settle s (w.openJob n)) := by
  obtain ⟨q, hq⟩ := completed_read h (p := (·.isForm)) rfl hd fun _ s => s.takeFormBytes data
  refine ⟨_, ?_, (congrArg (fun t => Host.Outcome.next (State.settle s t)) (hq.trans (takeFormBytes_accepts
    (s := s.endTransfer q) hf hl h512 ((State.owner_congr rfl).trans ho))) :)⟩
  exact ⟨rfl, rfl, rfl, rfl, rfl, rfl⟩

/-- The page that the accepted form opens, and the stream's record of it. -/
theorem settle_firstPage {s w : State} {f : Form} {n : Fin 8} {i : Fin 4} (j : JobInfo) (hw : s.Accepted f w)
    (hb : s.regs.resetBusy = false) (ho : s.owner = some n) (hr : s.sc.readFailed = false)
    (hm : ∀ k, (s.slot k).mark = false) : let t := State.settle s (w.startJob i n j)
    t.slot i = { s.openedSlot n j.tag (j.firstPage % Config.pageNumbers) true with
      copy := f.copy, releaseOff := (s.stream n).after 16 } ∧ (∀ k, k ≠ i → t.slot k = s.slot k) ∧
    t.store.lastOpened = i ∧ t.comp.cursor = some 1 ∧ t.comp.job = some { j with started := true } ∧
    (t.stream n).core = ({ s.stream n with pageNo := j.firstPage % Config.pageNumbers, cursorLine := 1 }.taken
      ((s.stream n).after 16)).core ∧
    (∀ m, m ≠ n → (t.stream m).core = (s.stream m).core) ∧ t.sc.buffer = s.sc.buffer.drop 16 ∧
    t.form = .loaded f ∧ t.sc.queue = s.sc.queue ∧ t.hostMem = s.hostMem := by
  have hws (m : Fin 8) : w.stream m = s.stream m := State.stream_congr hw.sc m
  have hwl (k : Fin 4) : w.slot k = s.slot k := State.slot_congr hw.store k
  have hwm (k : Fin 4) : (w.slot k).mark = false := by rw [hwl]; exact hm k
  have k := settle_startJob s i j (hw.regs ▸ hb) ((State.owner_congr hw.sc).trans ho) (hw.sc ▸ hr) (by rw [hw.form]; rfl) hwm
  have hcm : (w.jobOpened i n j).composing = some i := jobOpened_composing hwm i n j
  obtain ⟨-, j2, j3, -, j5, j6, -, j8, j9⟩ := jobOpened_keeps w i n j
  have hafter : ((w.jobOpened i n j).stream n).after 16 = (s.stream n).after 16 := by
    rw [jobOpened_stream, if_pos rfl, ← hws n]; rfl
  have ks (m : Fin 4) := (State.slot_congr k.store m).trans (advanceTake_slot hcm n 16 m)
  refine ⟨(ks i).trans ?_, fun m e => (ks m).trans ?_, ?_, ?_, ?_, (k.core n).trans ?_, fun m e => (k.core m).trans ?_, ?_, ?_, ?_, ?_⟩
  · rw [if_pos rfl, jobOpened_slot, if_pos rfl, hafter]
    have hl : w.loadedForm = f := by simp only [State.loadedForm, hw.form]
    unfold State.openedSlot
    rw [hl]
  · rw [if_neg (Ne.symm e), jobOpened_slot, if_neg (Ne.symm e), hwl]
  · rw [k.store, (advanceTake_store n 16).2.2, j8]
  · exact k.comp.cursor.trans (by rw [(by simp : ((w.jobOpened i n j).advanceTake n 16).comp = (w.jobOpened i n j).comp), j9])
  · exact k.comp.job.trans (by rw [(by simp : ((w.jobOpened i n j).advanceTake n 16).comp = (w.jobOpened i n j).comp), j9])
  · rw [advanceTake_stream, if_pos rfl, hafter, jobOpened_stream, if_pos rfl, hws]
    rfl
  · rw [advanceTake_stream, if_neg (Ne.symm e), jobOpened_stream, if_neg (Ne.symm e), hws]
  · rw [k.buffer, (advanceTake_buffer _ n 16).1, j6, hw.sc]
  · exact k.form.trans ((by simp : ((w.jobOpened i n j).advanceTake n 16).form = (w.jobOpened i n j).form).trans (j2.trans hw.form))
  · rw [k.queue, queue_of_jobs (advanceTake_jobs _ n 16), j5, hw.sc]
  · exact k.hostMem.trans ((by simp : ((w.jobOpened i n j).advanceTake n 16).hostMem = (w.jobOpened i n j).hostMem).trans
      (j3.trans hw.hostMem))

/-- Settles O44: the form by its fields, and the JOB's page by whether a slot is FREE. -/
theorem acceptedFormOpensTheFirstPage : Obligations.AcceptedFormOpensTheFirstPage := by
  unfold Obligations.AcceptedFormOpensTheFirstPage
  refine ⟨composing_iff, fun s => ⟨freeSlot_none_iff s, freeSlot_some_iff s⟩, fun number b vft xlate => ?_, fun f => ?_,
    fun n l j len data s hd h hf hl h512 ho hc hj hr hm => ?_⟩
  · refine ⟨rfl, rfl, rfl, rfl, rfl, rfl, rfl, rfl, rfl, rfl, rfl, rfl, rfl, rfl, rfl, rfl, rfl, rfl, rfl, rfl, rfl, rfl, rfl,
      formOf_rules number b vft xlate, fun _ => rfl, translateEntries_at xlate, formOf_carries number b vft xlate,
      fun h1 h2 h3 h4 => ?_⟩
    simp only [formOf]
    omega
  · refine ⟨rfl, fun _ => rfl, fun s hs => ?_⟩
    simp only [State.loadedForm, hs]
  · obtain ⟨w, hw, hexec⟩ := exec_formTransfer_accepts hd h hf hl h512 ho
    have hwj : w.comp.job = some j := hw.comp ▸ hj
    have hwf : w.freeSlot = s.freeSlot := freeSlot_congr hw.store
    refine ⟨_, hexec, ?_⟩
    cases hi : s.freeSlot with
    | some i =>
      rw [openJob_opens hwj (hwf.trans hi)]
      obtain ⟨k1, k2, k3, k4, k5, k6, k7, k8, k9, k10, k11⟩ := settle_firstPage (i := i) j hw h.1 ho hr hm
      refine ⟨k9, fun i' hi' => ?_, nofun, k7, k10, ?_, k11⟩
      · obtain rfl : i = i' := Option.some.inj hi'
        rw [k1]
        exact ⟨rfl, rfl, rfl, rfl, rfl, rfl, rfl, rfl, rfl, rfl, k3, k4, k5, (core_take k6).trans rfl,
          (core_pageNo k6).trans rfl, (core_cursorLine k6).trans rfl, k8, k2⟩
      · rw [State.settle_view, startJob_eq]
        simp [(jobOpened_keeps w i n j).2.2.2.1, hw.sc]
    | none =>
      rw [openJob_waits hwj (hwf.trans hi)]
      let p : PendingOpen := ⟨1, 0, j.firstPage % Config.pageNumbers, .openJob⟩
      have k := settle_stays s (u := w.waitSlot p) (by show w.regs.resetBusy = false; rw [hw.regs]; exact h.1)
        (by show w.form.noCheck = true; rw [hw.form]; rfl) (by show w.sc.readFailed = false; rw [hw.sc]; exact hr)
        (grantsNothing_owner ((State.owner_congr (t := s) hw.sc).trans ho)) (.inl ⟨rfl, hwf.trans hi⟩)
      have kc (m : Fin 8) : ((State.settle s (w.waitSlot p)).stream m).core = (s.stream m).core :=
        (k.core m).trans (congrArg StreamRec.core (State.stream_congr hw.sc m))
      exact ⟨k.form.trans hw.form, nofun, fun _ => ⟨congrArg Composer.state k.comp, congrArg Composer.cursor k.comp,
        (congrArg Composer.job k.comp).trans hwj, core_take (kc n), k.store.trans hw.store⟩, fun m _ => kc m,
        k.queue.trans (by show w.sc.queue = _; rw [hw.sc]), k.view.trans (by show w.sc.view = _; rw [hw.sc]),
        k.hostMem.trans hw.hostMem⟩

end Sys2Proof.Machine
end
section
/-! SUPPORT. Exits, frames received, and what a settlement leaves of the engine's and the device's counts (R33, R39, R103,
R161, R165, R176). -/

namespace Sys2Proof.Machine

/-! ## A page that exits (R33, R39, R40, R103) -/

/-- The record of a stream after the exit of its page `sl`. -/
def StreamRec.exited (r : StreamRec) (sl : Slot) : StreamRec :=
  { r with
    release := r.exitRelease sl.releaseOff
    heldExits := r.heldExits - 1
    pagesExited := satAdd r.pagesExited 1
    markTag := sl.markTag.getD r.markTag
    reports := sl.jobEnds.foldl (fun rs e => fallDue e.outcome rs) (countExit r.reports) }

theorem freeExited_slot (s : State) (i k : Fin 4) :
    (s.freeExited i).slot k = if i = k then Slot.free else s.slot k := by
  have h : (s.freeExited i).slot k = ((s.pageExit (s.slot i).stream (s.slot i)).clearSlot i).slot k := rfl
  rw [h, State.slot_clearSlot, State.slot_congr (t := s) (by simp)]

theorem freeExited_store (s : State) (i : Fin 4) : (s.freeExited i).store.imaging = s.store.imaging.filter (· ≠ i) ∧
    (s.freeExited i).store.poolUsed = s.store.poolUsed - (s.slot i).strikes.length ∧
    (s.freeExited i).store.lastOpened = s.store.lastOpened ∧
    (s.freeExited i).counts = { s.counts with pagesExited := satAdd s.counts.pagesExited 1 } := by
  let w := s.pageExit (s.slot i).stream (s.slot i)
  have hw : w.store = s.store := by simp [w]
  have hc : w.counts = s.counts := by simp [w]
  have hp : (s.freeExited i).store.poolUsed = w.store.poolUsed - (w.slot i).strikes.length := rfl
  have hi : (s.freeExited i).store.imaging = w.store.imaging.filter (· ≠ i) := rfl
  have hl : (s.freeExited i).store.lastOpened = w.store.lastOpened := rfl
  have hn : (s.freeExited i).counts = { w.counts with pagesExited := satAdd w.counts.pagesExited 1 } := rfl
  rw [hp, hi, hl, hn, State.slot_congr hw, hw, hc]
  exact ⟨rfl, rfl, rfl, rfl⟩

theorem reportMark_stream (s : State) (n : Fin 8) (t : Option Word32) (m : Fin 8) : (s.reportMark n t).stream m =
    if n = m then { s.stream m with markTag := t.getD (s.stream m).markTag } else s.stream m := by
  cases t with
  | none => exact (ite_self _).symm
  | some tag => exact State.stream_modStream s n m fun r => { r with markTag := tag }

theorem freeExited_stream (s : State) (i : Fin 4) (m : Fin 8) : (s.freeExited i).stream m =
    if (s.slot i).stream = m then (s.stream m).exited (s.slot i) else s.stream m := by
  have h : (s.freeExited i).stream m = (s.pageExit (s.slot i).stream (s.slot i)).stream m := rfl
  rw [h]
  unfold State.pageExit State.reportsFall
  dsimp only
  rw [State.stream_modStream, reportMark_stream, State.stream_modStream]
  split <;> rfl

/-- A page that exits with a mark owes STREAMn, and asks the Status Writer for nothing else. -/
theorem freeExited_writer (s : State) (i : Fin 4) : (s.freeExited i).writer =
    if (s.slot i).markTag = none then s.writer else (s.ask ⟨.descriptor (s.slot i).stream, true, false, false⟩).writer := by
  have h : (s.freeExited i).writer = (s.pageExit (s.slot i).stream (s.slot i)).writer := rfl
  rw [h]
  unfold State.pageExit State.reportsFall
  dsimp only
  cases (s.slot i).markTag <;> rfl

theorem freeExited_lists (s : State) (i : Fin 4) : (s.freeExited i).sc.queue = s.sc.queue ∧
    (s.freeExited i).sc.buffer = s.sc.buffer ∧ (s.freeExited i).sc.readFailed = s.sc.readFailed := by
  have h : (s.freeExited i).sc = (s.pageExit (s.slot i).stream (s.slot i)).sc := rfl
  rw [h]
  unfold State.pageExit State.reportsFall
  dsimp only
  cases (s.slot i).markTag <;> exact ⟨rfl, rfl, rfl⟩

theorem dropStale_engine (s : State) : ∃ l, s.dropStale.engine = { s.engine with sent := l } := by
  unfold State.dropStale
  split
  · exact ⟨_, by simp; rfl⟩
  · exact ⟨s.engine.sent, rfl⟩

/-! ## The exits that a page sequence number names (R176) -/

/-- A number that names no SENT slot of the imaging list frees none. -/
theorem takeExit_none {s : State} {q : BitVec 8} (h : ∀ i, (s.slot i).state = .sent → (s.slot i).pageSeq ≠ some q) :
    s.takeExit q = s := by
  have hs : s.sentSlot q = none := List.find?_eq_none.mpr fun i _ => by simpa using h i
  simp only [State.takeExit, hs]

/-- The oldest of the imaging list exits alone. -/
theorem takeExit_oldest {s : State} {q : BitVec 8} {i : Fin 4} {rest : List (Fin 4)} (hl : s.store.imaging = i :: rest)
    (hs : (s.slot i).state = .sent) (hq : (s.slot i).pageSeq = some q) : s.takeExit q = (s.freeExited i).dropStale := by
  have hf : s.sentSlot q = some i := by simp [State.sentSlot, hl, hs, hq]
  have hn : s.exitNames i = [i] := by simp [State.exitNames, hl]
  simp only [State.takeExit, hf, hn, List.foldl_cons, List.foldl_nil]

/-- The second of the imaging list takes the oldest, SENT as it is, with it. -/
theorem takeExit_second {s : State} {q : BitVec 8} {i k : Fin 4} {rest : List (Fin 4)}
    (hl : s.store.imaging = i :: k :: rest) (hik : i ≠ k) (hi : (s.slot i).state = .sent) (hiq : (s.slot i).pageSeq ≠ some q)
    (hk : (s.slot k).state = .sent) (hkq : (s.slot k).pageSeq = some q) :
    s.takeExit q = ((s.freeExited i).freeExited k).dropStale := by
  have hf : s.sentSlot q = some k := by simp [State.sentSlot, hl, hiq, hk, hkq]
  have hn : s.exitNames k = [i, k] := by simp [State.exitNames, hl, hik, hi]
  simp only [State.takeExit, hf, hn, List.foldl_cons, List.foldl_nil]

/-! ## Frames received (R165) -/

theorem takeSequence_eq (s : State) (q : BitVec 8) :
    (s.takeSequence q).engine = { s.engine with expected := some (q + 1) } ∧
    (s.takeSequence q).counts = { s.counts with linkErrors := match s.engine.expected with
      | some e => satAdd s.counts.linkErrors (q - e).toNat
      | none => s.counts.linkErrors } := by
  unfold State.takeSequence
  cases s.engine.expected <;> exact ⟨rfl, rfl⟩

theorem receive_exit {s : State} {f : RxFrame} (hb : s.regs.resetBusy = false) (hp : f.passes = true) (hk : f.kind = 9)
    (ho : s.engine.state ≠ .offline) :
    s.receive f = (s.takeSequence f.seq).takeExit (BitVec.ofNat 8 (payloadWord f.payload 0).toNat) := by
  have ho' : (s.takeSequence f.seq).engine.state ≠ .offline := by rw [(takeSequence_eq s f.seq).1]; exact ho
  have h8 : f.kind ≠ 8 := by rw [hk]; decide
  rw [State.receive, if_neg (by simp [hb]), if_neg (by simp [hp])]
  dsimp only
  rw [if_neg h8, if_neg ho', if_pos hk]

theorem receive_status {s : State} {f : RxFrame} (hb : s.regs.resetBusy = false) (hp : f.passes = true) (hk : f.kind = 8) :
    s.receive f = (s.takeSequence f.seq).takeStatus (conditionOf (payloadWord f.payload 0) (payloadWord f.payload 1)) := by
  rw [State.receive, if_neg (by simp [hb]), if_neg (by simp [hp])]
  dsimp only
  rw [if_pos hk]

/-! ## What a settlement leaves of the engine and of the counts -/

/-- SLEWs sent again leave what the engine has reported and the counts of exits and refusals. -/
theorem resendSlews_keepsReports (k : Nat) (s : State) : (s.resendSlews k).engine.expected = s.engine.expected ∧
    (s.resendSlews k).engine.lastExit = s.engine.lastExit ∧
    (s.resendSlews k).counts.pagesExited = s.counts.pagesExited ∧ (s.resendSlews k).counts.refusals = s.counts.refusals := by
  have one (s : State) (o : SentMsg) (m : Message) : (s.resend o m).engine.expected = s.engine.expected ∧
      (s.resend o m).engine.lastExit = s.engine.lastExit ∧ (s.resend o m).counts.pagesExited = s.counts.pagesExited ∧
      (s.resend o m).counts.refusals = s.counts.refusals := by
    unfold State.resend
    dsimp only
    split <;> exact ⟨rfl, rfl, rfl, rfl⟩
  induction k generalizing s with
  | zero => exact ⟨rfl, rfl, rfl, rfl⟩
  | succ k ih =>
    unfold State.resendSlews
    split
    · next e _ =>
      split
      · obtain ⟨h1, h2, h3, h4⟩ := ih (s.resend e e.slew)
        obtain ⟨o1, o2, o3, o4⟩ := one s e e.slew
        exact ⟨h1.trans o1, h2.trans o2, h3.trans o3, h4.trans o4⟩
      · exact ⟨rfl, rfl, rfl, rfl⟩
    · exact ⟨rfl, rfl, rfl, rfl⟩

theorem settle_keepsReports (old s : State) : (State.settle old s).engine.expected = s.engine.expected ∧
    (State.settle old s).engine.lastExit = s.engine.lastExit ∧
    (State.settle old s).counts.pagesExited = s.counts.pagesExited ∧
    (State.settle old s).counts.refusals = s.counts.refusals := by
  unfold State.settle
  split
  · exact ⟨rfl, rfl, rfl, rfl⟩
  · obtain ⟨w, hw, hwe, hwc⟩ : ∃ w, w = s.settleImaging.settleComposer ∧ w.engine = s.engine ∧ w.counts = s.counts :=
      ⟨_, rfl, by simp [State.settleComposer, State.settleImaging], by simp [State.settleComposer, State.settleImaging]⟩
    rw [← hw]
    obtain ⟨st, ho, he⟩ := engineTurn_engine w
    obtain ⟨r1, r2, r3, r4⟩ := resendSlews_keepsReports Config.sentMax w.holdAtBoundary.lookAtGate
    have hc : w.holdAtBoundary.lookAtGate.counts = s.counts := by simpa using hwc
    rw [he, hwe] at r1 r2
    rw [hc] at r3 r4
    have served (v : State) : v.serveBus.counts.pagesExited = v.counts.pagesExited ∧
        v.serveBus.counts.refusals = v.counts.refusals :=
      ⟨(congrArg DeviceCounts.pagesExited (State.serveBus_counts v) :),
        (congrArg DeviceCounts.refusals (State.serveBus_counts v) :)⟩
    have hse : (State.settleStatus old w.settleEngine).serveBus.engine = w.settleEngine.engine := by simp
    have hsc : (State.settleStatus old w.settleEngine).counts = w.settleEngine.counts :=
      (State.settleStatus_keeps _ _).2.2.2.2.2.2.2.2.1
    rw [hse, (served _).1, (served _).2, hsc]
    exact ⟨r1, r2, r3, r4⟩

/-! ## A report that goes into a write without one (R161) -/

theorem roomForReport_iff (w : StatusWriter) (n : Fin 8) :
    w.roomForReport n = true ↔ ∃ o ∈ w.waiting, o.kind = .descriptor n ∧ o.report = false := by
  simp [StatusWriter.roomForReport]

theorem reporting_iff (w : StatusWriter) (n : Fin 8) : w.reporting n = true ↔
    ∃ o, (o ∈ w.waiting ∨ w.issued = some o) ∧ o.kind = .descriptor n ∧ o.report = true := by
  simp only [StatusWriter.reporting, List.any_eq_true, List.mem_append, Option.mem_toList, Bool.and_eq_true,
    decide_eq_true_eq]

/-- A request that carries no report of stream `n` leaves a write of it without one. -/
theorem roomForReport_ask {s : State} {n : Fin 8} {o : Owed} (h : s.writer.roomForReport n = true)
    (ho : o.kind = .descriptor n → o.report = false) : (s.ask o).writer.roomForReport n = true := by
  obtain ⟨p, hp, hk, hr⟩ := (roomForReport_iff _ n).mp h
  refine (roomForReport_iff _ n).mpr ?_
  show ∃ p ∈ askOwed o s.writer.waiting, _
  generalize s.writer.waiting = l at hp
  clear h
  induction l with
  | nil => cases hp
  | cons a l ih =>
    by_cases ha : a.kind = o.kind
    · rw [askOwed, if_pos ha]
      rcases List.mem_cons.mp hp with rfl | hp
      · exact ⟨_, List.mem_cons_self, hk, by simp [hr, ho (ha ▸ hk)]⟩
      · exact ⟨p, List.mem_cons_of_mem _ hp, hk, hr⟩
    · rw [askOwed, if_neg ha]
      rcases List.mem_cons.mp hp with rfl | hp
      · exact ⟨p, List.mem_cons_self, hk, hr⟩
      · obtain ⟨p', hp', h'⟩ := ih hp
        exact ⟨p', List.mem_cons_of_mem _ hp', h'⟩

end Sys2Proof.Machine
end
section
/-! SUPPORT. A report that falls due while another is on its way, in a write that waits without one (R161). -/

namespace Sys2Proof.Machine

theorem askChanged_room (old : State) {s : State} {n : Fin 8} (h : s.writer.roomForReport n = true) :
    (State.askChanged old s).writer.roomForReport n = true := by
  unfold State.askChanged
  generalize allStreams = l
  induction l generalizing s with
  | nil => exact h
  | cons a l ih =>
    rw [List.foldl_cons]
    refine ih ?_
    split
    · exact h
    · exact roomForReport_ask h fun _ => rfl

theorem makeReport_room (old : State) {s : State} {n m : Fin 8} (hm : m ≠ n) (h : s.writer.roomForReport n = true) :
    (State.makeReport old s m).writer.roomForReport n = true := by
  rcases makeReport_cases old s m with e | ⟨p, rest, -, -, -, e⟩ <;> rw [e]
  · exact h
  · exact roomForReport_ask (s := s.modStream m _) h fun e => absurd (OwedKind.descriptor.inj e) hm

theorem foldl_makeReport_room (old : State) {n : Fin 8} {l : List (Fin 8)} (hn : n ∉ l) {s : State}
    (h : s.writer.roomForReport n = true) : (l.foldl (State.makeReport old) s).writer.roomForReport n = true := by
  induction l generalizing s with
  | nil => exact h
  | cons a l ih =>
    obtain ⟨ha, hl⟩ := not_or.mp (List.mem_cons.not.mp hn)
    exact ih hl (makeReport_room old (Ne.symm ha) h)

/-- The Status Writer's turn at stream `n`, with the writes that wait for it then. -/
theorem settleStatus_turn (old s : State) (n : Fin 8) : ∃ v : State,
    v.stream n = { s.stream n with wait := (v.stream n).wait } ∧ v.writer.reporting n = s.writer.reporting n ∧
    (s.writer.roomForReport n = true → v.writer.roomForReport n = true) ∧
    (State.settleStatus old s).stream n = (State.makeReport old v n).stream n ∧
    ∀ o, (State.makeReport old v n).Waits o → (State.settleStatus old s).Waits o := by
  obtain ⟨l₁, l₂, e, h1, h2⟩ := allStreams_split n
  let w := State.askChanged old s.syncWaits
  have hw : w.stream n = s.syncWaits.stream n := State.stream_congr (by simp [w]) n
  obtain ⟨k1, k2⟩ := foldl_makeReport_other old h1 w
  have hf : (allStreams.foldl (State.makeReport old) w).stream n =
      (State.makeReport old (l₁.foldl (State.makeReport old) w) n).stream n := by
    rw [e, List.foldl_append, List.foldl_cons]
    exact (foldl_makeReport_other old h2 _).1
  refine ⟨l₁.foldl (State.makeReport old) w, ?_, ?_, fun h => foldl_makeReport_room old h1 (askChanged_room old h), ?_,
    fun o h => ?_⟩
  · rw [k1, hw]; exact syncWaits_stream s n
  · rw [k2, askChanged_reporting]; rfl
  · rw [← hf]; exact State.stream_congr (by simp [State.settleStatus, w]) n
  · have hall : (allStreams.foldl (State.makeReport old) w).Waits o := by
      rw [e, List.foldl_append, List.foldl_cons]
      exact h.foldl_makeReport old l₂
    rw [State.settleStatus, State.askRecordChanged]
    split
    · exact hall.ask _
    · exact hall

/-- A report that falls due now is made by a write of its own, or by one that waits without a report. -/
theorem settleStatus_falls (old : State) {s : State} {n : Fin 8} {p : Report} {rest : List Report}
    (h : (s.stream n).reports = p :: rest) (hd : p.due = true) (ho : noneDue (old.stream n).reports = true)
    (hw : s.writer.reporting n = false ∨ s.writer.roomForReport n = true) :
    ((State.settleStatus old s).stream n).Shows p rest ∧
      (State.settleStatus old s).Waits ⟨.descriptor n, true, true, false⟩ := by
  obtain ⟨v, h1, h2, h3, h4, h5⟩ := settleStatus_turn old s n
  have hv : (v.stream n).reports = p :: rest := by rw [h1]; exact h
  have hgo : (p.due && (!v.writer.reporting n || (v.writer.roomForReport n && noneDue (old.stream n).reports))) = true := by
    rcases hw with hw | hw
    · simp [hd, h2, hw]
    · simp [hd, h3 hw, ho]
  have hm : State.makeReport old v n = (v.modStream n fun r => { r with
      jobTag := p.tag, jobOutcome := p.outcome, jobPages := p.pages, reports := rest }).ask
        ⟨.descriptor n, true, true, false⟩ := by
    unfold State.makeReport
    simp only [hv]
    rw [if_pos hgo]
  rw [hm] at h4 h5
  refine ⟨?_, h5 _ (State.ask_waits _ _)⟩
  rw [h4, State.stream_ask, State.stream_modStream_same]
  exact ⟨rfl, rfl, rfl, rfl⟩

theorem settle_falls (old : State) {u : State} (hb : u.regs.resetBusy = false) (hc : u.Composed) {n : Fin 8} {p : Report}
    {rest : List Report} (h : (u.stream n).reports = p :: rest) (hd : p.due = true)
    (ho : noneDue (old.stream n).reports = true)
    (hw : u.writer.reporting n = false ∨ u.writer.roomForReport n = true) :
    ((State.settle old u).stream n).Shows p rest ∧ (State.settle old u).Owes ⟨.descriptor n, true, true, false⟩ := by
  obtain ⟨v, h1, h2, e⟩ := settle_status old hb hc
  have hv : (v.stream n).reports = p :: rest := by rw [State.stream_congr h1 n, (grant_reports u n).1, h]
  obtain ⟨k1, k2⟩ := settleStatus_falls old hv hd ho (by rw [h2]; exact hw)
  rw [e, stream_streams (serveBus_streams _) n]
  exact ⟨k1, k2.owes.serveBus⟩

end Sys2Proof.Machine
end
section
/-! SUPPORT. The page that an EXIT frees, and a wait for a slot that its freeing ends (R33, R66, R67, R103). -/

namespace Sys2Proof.Machine

/-! ## The oldest page exits (R103, R176) -/

/-- From `s` to `u` the page in slot `i` exits, the oldest of the imaging list, of which `rest` is left. -/
structure State.PageFreed (s : State) (i : Fin 4) (rest : List (Fin 4)) (u : State) : Prop where
  slot : ∀ k, u.slot k = if i = k then Slot.free else s.slot k
  imaging : u.store.imaging = rest
  pool : u.store.poolUsed = s.store.poolUsed - (s.slot i).strikes.length
  opened : u.store.lastOpened = s.store.lastOpened
  stream : ∀ m, u.stream m = if (s.slot i).stream = m then (s.stream m).exited (s.slot i) else s.stream m
  comp : u.comp = s.comp
  form : u.form = s.form
  regs : u.regs = s.regs
  hostMem : u.hostMem = s.hostMem
  buffer : u.sc.buffer = s.sc.buffer
  readFailed : u.sc.readFailed = s.sc.readFailed
  jobs : u.jobs = s.jobs

/-- The streams and the pages are those of another state. -/
theorem State.PageFreed.congr {s u v : State} {i : Fin 4} {rest : List (Fin 4)} (h : s.PageFreed i rest u)
    (hsc : v.sc = u.sc) (hst : v.store = u.store) (hc : v.comp = u.comp) (hf : v.form = u.form) (hr : v.regs = u.regs)
    (hm : v.hostMem = u.hostMem) : s.PageFreed i rest v := by
  refine ⟨fun k => (State.slot_congr hst k).trans (h.slot k), by rw [hst]; exact h.imaging,
    by rw [hst]; exact h.pool, by rw [hst]; exact h.opened, fun m => (State.stream_congr hsc m).trans (h.stream m),
    hc.trans h.comp, hf.trans h.form, hr.trans h.regs, hm.trans h.hostMem, by rw [hsc]; exact h.buffer,
    by rw [hsc]; exact h.readFailed, (jobs_of_sc hsc).trans h.jobs⟩

theorem freeExited_pageFreed {s : State} {i : Fin 4} {rest : List (Fin 4)} (hl : s.store.imaging = i :: rest)
    (hi : i ∉ rest) : s.PageFreed i rest (s.freeExited i) := by
  obtain ⟨h1, h2, h3, -⟩ := freeExited_store s i
  obtain ⟨-, l2, l3⟩ := freeExited_lists s i
  refine ⟨freeExited_slot s i, ?_, h2, h3, freeExited_stream s i, by simp, by simp, by simp, by simp, l2, l3,
    freeExited_jobs s i⟩
  rw [h1, hl, List.filter_cons_of_neg (by simp)]
  exact List.filter_eq_self.mpr fun k hk => by simpa using fun e : k = i => hi (e ▸ hk)

/-- An EXIT frame that names the oldest page. -/
theorem receive_frees {s : State} {f : RxFrame} {q : BitVec 8} {i : Fin 4} {rest : List (Fin 4)}
    (hb : s.regs.resetBusy = false) (hp : f.passes = true) (hk : f.kind = 9)
    (hq : q = BitVec.ofNat 8 (payloadWord f.payload 0).toNat) (ho : s.engine.state ≠ .offline)
    (hl : s.store.imaging = i :: rest) (hi : i ∉ rest) (hs : (s.slot i).state = .sent) (hn : (s.slot i).pageSeq = some q) :
    s.PageFreed i rest (s.receive f) ∧ (s.receive f).engine.expected = some (f.seq + 1) ∧
    (s.receive f).counts.pagesExited = satAdd s.counts.pagesExited 1 ∧
    (s.receive f).writer = (if (s.slot i).markTag = none then s.writer
      else (s.ask ⟨.descriptor (s.slot i).stream, true, false, false⟩).writer) := by
  let w := s.takeSequence f.seq
  have hwst : w.store = s.store := by simp [w]
  have hwsc : w.sc = s.sc := by simp [w]
  have hws : w.slot i = s.slot i := State.slot_congr hwst i
  have e : s.receive f = (w.freeExited i).dropStale := by
    rw [receive_exit hb hp hk ho, ← hq]
    exact takeExit_oldest (by rw [hwst]; exact hl) (by rw [hws]; exact hs) (by rw [hws]; exact hn)
  have hf : w.PageFreed i rest (w.freeExited i) := freeExited_pageFreed (by rw [hwst]; exact hl) hi
  obtain ⟨d, hd⟩ := dropStale_engine (w.freeExited i)
  obtain ⟨t1, t2⟩ := takeSequence_eq s f.seq
  rw [e]
  refine ⟨?_, ?_, ?_, ?_⟩
  · have h : w.PageFreed i rest (w.freeExited i).dropStale :=
      hf.congr (by simp) (by simp) (by simp) (by simp) (by simp) (by simp)
    refine ⟨fun k => (h.slot k).trans (by rw [State.slot_congr hwst]), h.imaging, h.pool.trans (by rw [hwst, hws]),
      h.opened.trans (by rw [hwst]), fun m => (h.stream m).trans (by rw [State.stream_congr hwsc, hws]),
      h.comp.trans (by simp [w]), h.form.trans (by simp [w]), h.regs.trans (by simp [w]), h.hostMem.trans (by simp [w]),
      h.buffer.trans (by rw [hwsc]), h.readFailed.trans (by rw [hwsc]), h.jobs.trans (jobs_of_sc hwsc)⟩
  · rw [hd]
    have : (w.freeExited i).engine = w.engine := by simp
    rw [this, t1]
  · have h1 : (w.freeExited i).dropStale.counts = (w.freeExited i).counts := by simp
    rw [h1, (freeExited_store w i).2.2.2, t2]
  · have h1 : (w.freeExited i).dropStale.writer = (w.freeExited i).writer := by simp
    have h2 : w.writer = s.writer := by simp [w]
    rw [h1, freeExited_writer, hws, h2]
    show (if _ then _ else { w.writer with waiting := askOwed _ w.writer.waiting }) = _
    rw [h2]
    rfl

/-- What the exit leaves of stream `n` for the record at take. -/
theorem State.PageFreed.takes {s u : State} {i : Fin 4} {rest : List (Fin 4)} (h : s.PageFreed i rest u) (n : Fin 8) :
    (u.stream n).take = (s.stream n).take ∧ (u.stream n).fill = (s.stream n).fill ∧
    (u.stream n).overrun = (s.stream n).overrun ∧ ∀ len, (u.stream n).after len = (s.stream n).after len := by
  rw [h.stream n]
  split <;> exact ⟨rfl, rfl, rfl, fun _ => rfl⟩

theorem State.PageFreed.loadedForm {s u : State} {i : Fin 4} {rest : List (Fin 4)} (h : s.PageFreed i rest u) :
    u.loadedForm = s.loadedForm := loadedForm_congr h.form

/-- With no slot FREE before, the exit frees the one slot that the next page opens in. -/
theorem State.PageFreed.freeSlot {s u : State} {i : Fin 4} {rest : List (Fin 4)} (h : s.PageFreed i rest u)
    (hf : s.freeSlot = none) : u.freeSlot = some i := by
  have hn := (freeSlot_none_iff s).mp hf
  refine (freeSlot_some_iff u i).mpr ⟨by rw [h.slot, if_pos rfl]; rfl, fun k hk => ?_⟩
  have hne : i ≠ k := fun e => by rw [e] at hk; exact absurd hk (Nat.lt_irrefl _)
  rw [h.slot, if_neg hne]
  exact hn k

end Sys2Proof.Machine
end
section
/-! SUPPORT. A wait for a slot that ends: the page that opens, and what the record does on it (R49, R58, R66). -/

namespace Sys2Proof.Machine

/-! ## The page opened where a turn waited (R58, R66) -/

/-- The Composer READY, with the page that the wait `p` was for open in slot `i`. -/
def State.reopened (s : State) (i : Fin 4) (n : Fin 8) (p : PendingOpen) : State :=
  ({ s with comp := { s.comp with state := .ready, waiting := none } } : State).openNext i n p.pageNo

theorem resumeWait_turn {s : State} {n : Fin 8} {i : Fin 4} {p : PendingOpen} (hc : s.comp.state = .waitSlot)
    (hp : s.comp.waiting = some p) (ho : s.owner = some n) (hf : s.freeSlot = some i) (hr : p.rest ≠ .openJob) :
    s.resumeWait = (let t := State.turnPages n p.line p.rest p.turns (s.reopened i n p)
      if t.comp.waits then t else t.resumeRecord n p.rest) := by
  simp only [State.resumeWait, ho, hc, hp, hf]
  cases h : p.rest with
  | openJob => exact absurd h hr
  | strikeAndAfter => rfl
  | nothing => rfl

theorem resumeWait_openJob {s : State} {n : Fin 8} {i : Fin 4} {p : PendingOpen} (hc : s.comp.state = .waitSlot)
    (hp : s.comp.waiting = some p) (ho : s.owner = some n) (hf : s.freeSlot = some i) (hr : p.rest = .openJob) :
    s.resumeWait = s.openJob n := by
  simp only [State.resumeWait, ho, hc, hp, hf, hr]

theorem resumeWait_strike {s : State} {n : Fin 8} (hc : s.comp.state = .waitStrike) (ho : s.owner = some n)
    (hu : s.store.poolUsed < 1024) : s.resumeWait =
      ({ s with comp := { s.comp with state := .ready } } : State).lineStrike n (recordHeader s.sc.buffer) := by
  have hu' : s.store.poolUsed < Config.poolSize := hu
  simp only [State.resumeWait, ho, hc, if_pos hu']

section
variable (s : State) (i : Fin 4) (n : Fin 8) (p : PendingOpen)

theorem reopened_slot (k : Fin 4) : (s.reopened i n p).slot k =
    if i = k then s.openedSlot n ((s.comp.job.map (·.tag)).getD 0) p.pageNo false else s.slot k :=
  openAt_slot _ i n _ p.pageNo false k

theorem reopened_stream (m : Fin 8) : (s.reopened i n p).stream m =
    if n = m then { s.stream m with pageNo := p.pageNo } else s.stream m :=
  openAt_stream _ i n _ p.pageNo false m

theorem reopened_keeps : (s.reopened i n p).comp = { s.comp with state := .ready, waiting := none } ∧
    (s.reopened i n p).form = s.form ∧ (s.reopened i n p).regs = s.regs ∧ (s.reopened i n p).hostMem = s.hostMem ∧
    (s.reopened i n p).sc.buffer = s.sc.buffer ∧ (s.reopened i n p).sc.readFailed = s.sc.readFailed ∧
    (s.reopened i n p).store.lastOpened = i ∧ (s.reopened i n p).store.imaging = s.store.imaging ∧
    (s.reopened i n p).store.poolUsed = s.store.poolUsed := ⟨rfl, rfl, rfl, rfl, rfl, rfl, rfl, rfl, rfl⟩

theorem reopened_jobs : (s.reopened i n p).jobs = s.jobs :=
  (openAt_jobs _ i n _ p.pageNo false).trans (jobs_of_sc rfl)

theorem reopened_composing (h : ∀ k, (s.slot k).mark = false) : (s.reopened i n p).composing = some i :=
  openAt_composing (s := { s with comp := { s.comp with state := .ready, waiting := none } }) h i n _ p.pageNo false

end

/-! ## What a settlement shows behind a record with which the wait ended -/

theorem wentOn_of_settled {v t : State} {n : Fin 8} (k : (v.afterTake n).Settled t)
    (h : (v.stream n).fill = (v.stream n).take → v.composing ≠ none) : v.WentOn n t := by
  obtain ⟨c, e, hc⟩ := afterTake_goesOn h
  rw [e] at k
  exact ⟨k.store, k.form, k.comp ▸ hc, k.core, k.queue, k.buffer, k.view, k.hostMem⟩

theorem State.GoesOn.state {s : State} {n : Fin 8} {c : Composer} (h : s.GoesOn n c) :
    c.state = if (s.stream n).fill = (s.stream n).take then .atFill else .ready := by
  split
  · next e => exact (h.atFill e).1
  · next e => exact (h.ready e).1

theorem State.GoesOn.waits {s : State} {n : Fin 8} {c : Composer} (h : s.GoesOn n c) : c.waits = false := by
  have hs := h.state
  unfold Composer.waits
  rw [hs]
  split <;> rfl

section
variable (old : State) {s u : State} {i : Fin 4} {rest : List (Fin 4)} {n : Fin 8}

/-- The settlement that comes to a wait of the Composer after the exit of the page in slot `i`. -/
theorem settle_resumes (h : s.PageFreed i rest u) (hb : s.regs.resetBusy = false) (hn : s.form.noCheck = true) :
    ∃ v : State, s.PageFreed i rest v ∧
      (v.resumeWait.sc.readFailed = false → v.resumeWait.owner = some n → v.resumeWait.Settled (State.settle old u)) := by
  obtain ⟨v, h1, h2, h3, h4, h5, -, h7, hv⟩ := settle_resumed old (u := u) (by rw [h.regs]; exact hb) (by rw [h.form]; exact hn)
  exact ⟨v, h.congr h1 h4 h2 h3 h5 h7, fun hr ho => (hv hr (grantsNothing_owner ho)).1⟩

/-- The wait ends, and the record with it: `act` is what it still had to do. -/
theorem settle_finishes (h : s.PageFreed i rest u) (hb : s.regs.resetBusy = false) (hn : s.form.noCheck = true)
    (hr : s.sc.readFailed = false) (ho : s.owner = some n) {act : State → State}
    (hact : ∀ v, s.PageFreed i rest v → v.resumeWait = (act v).afterTake n ∧ (act v).jobs = v.jobs ∧
      (act v).sc.readFailed = v.sc.readFailed ∧ (act v).composing ≠ none) :
    ∃ v : State, s.PageFreed i rest v ∧ (act v).WentOn n (State.settle old u) := by
  obtain ⟨v, hv, hs⟩ := settle_resumes old (n := n) h hb hn
  obtain ⟨e, hj, hrf, hc⟩ := hact v hv
  obtain ⟨c, ec, -⟩ := afterTake_goesOn (s := act v) (n := n) fun _ => hc
  have hw : v.resumeWait = { act v with comp := c } := e.trans ec
  have ho' : (act v).owner = some n := (owner_of_jobs (hj.trans hv.jobs)).trans ho
  refine ⟨v, hv, wentOn_of_settled (e ▸ hs ?_ ?_) fun _ => hc⟩
  · rw [hw]
    exact hrf.trans (hv.readFailed.trans hr)
  · rw [hw]
    exact (State.owner_congr rfl).trans ho'

end

end Sys2Proof.Machine
end
section
/-! SUPPORT. The waits that an EXIT ends: a page that opens, and text that finds its entry (R49, R58, R61, R65 to R67). -/

namespace Sys2Proof.Machine

section
variable {s v : State} {i : Fin 4} {rest : List (Fin 4)} {n : Fin 8} {p : PendingOpen}

theorem State.PageFreed.marks (h : s.PageFreed i rest v) (hm : ∀ k, (s.slot k).mark = false) (k : Fin 4) :
    (v.slot k).mark = false := by
  rw [h.slot]
  split
  · rfl
  · exact hm k

/-- The page that a wait was for, opened where the exit freed its slot. -/
structure State.PageReopened (s : State) (i : Fin 4) (rest : List (Fin 4)) (n : Fin 8) (p : PendingOpen) (tag : Word32)
    (o : State) : Prop where
  page : o.slot i = s.openedSlot n tag p.pageNo false
  slot : ∀ k, k ≠ i → o.slot k = s.slot k
  composing : o.composing = some i
  comp : o.comp = { s.comp with state := .ready, waiting := none }
  opened : o.store.lastOpened = i
  imaging : o.store.imaging = rest
  pool : o.store.poolUsed = s.store.poolUsed - (s.slot i).strikes.length
  form : o.form = s.form
  hostMem : o.hostMem = s.hostMem
  buffer : o.sc.buffer = s.sc.buffer
  readFailed : o.sc.readFailed = s.sc.readFailed
  jobs : o.jobs = s.jobs
  pageNo : (o.stream n).pageNo = p.pageNo
  take : (o.stream n).take = (s.stream n).take
  fill : (o.stream n).fill = (s.stream n).fill
  overrun : (o.stream n).overrun = (s.stream n).overrun
  after : ∀ len, (o.stream n).after len = (s.stream n).after len

theorem State.PageFreed.reopened (h : s.PageFreed i rest v) (hm : ∀ k, (s.slot k).mark = false) {j : JobInfo}
    (hj : s.comp.job = some j) : s.PageReopened i rest n p j.tag (v.reopened i n p) := by
  obtain ⟨h1, h2, -, h4, h5, h6, h7, h8, h9⟩ := reopened_keeps v i n p
  obtain ⟨t1, t2, t3, t4⟩ := h.takes n
  have hn : (v.reopened i n p).stream n = { v.stream n with pageNo := p.pageNo } := by rw [reopened_stream, if_pos rfl]
  refine ⟨?_, fun k hk => ?_, reopened_composing v i n p (h.marks hm), by rw [h1, h.comp], h7, h8.trans h.imaging,
    h9.trans h.pool, h2.trans h.form, h4.trans h.hostMem, h5.trans h.buffer, h6.trans h.readFailed,
    (reopened_jobs v i n p).trans h.jobs, by rw [hn], by rw [hn]; exact t1, by rw [hn]; exact t2, by rw [hn]; exact t3,
    fun len => by rw [hn]; exact t4 len⟩
  · rw [reopened_slot, if_pos rfl, h.comp, hj]
    simp only [State.openedSlot, h.loadedForm, t1]
    rfl
  · rw [reopened_slot, if_neg (Ne.symm hk), h.slot, if_neg (Ne.symm hk)]

/-- A wait for a slot with nothing of the record left but its end. -/
theorem settle_waitEnds (old : State) {u : State} {j : JobInfo} (h : s.PageFreed i rest u) (hb : s.regs.resetBusy = false)
    (hn : s.form.noCheck = true) (hr : s.sc.readFailed = false) (ho : s.owner = some n) (hc : s.comp.state = .waitSlot)
    (hp : s.comp.waiting = some p) (hrest : p.rest = .nothing) (ht : p.turns = 0) (hj : s.comp.job = some j)
    (hm : ∀ k, (s.slot k).mark = false) (hf : s.freeSlot = none) : let t := State.settle old u
    let r := (s.stream n).after (recordHeader s.sc.buffer).length
    t.slot i = { s.openedSlot n j.tag p.pageNo false with releaseOff := r } ∧ (∀ k, k ≠ i → t.slot k = s.slot k) ∧
    t.store.lastOpened = i ∧ t.store.imaging = rest ∧ t.comp.waits = false ∧ (t.stream n).pageNo = p.pageNo ∧
    t.comp.cursor = some p.line ∧ (t.stream n).cursorLine = p.line ∧ (t.stream n).take = r ∧
    t.comp.state = (if (s.stream n).fill = r then .atFill else .ready) ∧ t.form = s.form ∧ t.hostMem = s.hostMem := by
  let act (v : State) : State :=
    ((v.reopened i n p).setCursor n p.line).advanceTake n (recordHeader s.sc.buffer).length
  obtain ⟨v, hv, k⟩ := settle_finishes old (act := act) h hb hn hr ho fun v hv => by
    have o := hv.reopened (p := p) (n := n) hm hj
    have hcc : ((v.reopened i n p).setCursor n p.line).comp.waits = false := by
      rw [setCursor_comp, o.comp]; rfl
    refine ⟨?_, ?_, ?_, ?_⟩
    · rw [resumeWait_turn (by rw [hv.comp]; exact hc) (by rw [hv.comp]; exact hp)
        ((owner_of_jobs hv.jobs).trans ho) (hv.freeSlot hf) (by rw [hrest]; decide), ht, hrest]
      show (if ((v.reopened i n p).setCursor n p.line).comp.waits then _ else _) = _
      rw [hcc]
      show ((v.reopened i n p).setCursor n p.line).finishLine n (recordHeader (v.reopened i n p).sc.buffer) = _
      rw [o.buffer]
      rfl
    · exact ((advanceTake_jobs _ n _).trans (setCursor_jobs _ n p.line)).trans (reopened_jobs v i n p)
    · exact (advanceTake_buffer _ n _).2
    · rw [advanceTake_composing, setCursor_composing, o.composing]; exact nofun
  have o := hv.reopened (p := p) (n := n) hm hj
  have hci : ((v.reopened i n p).setCursor n p.line).composing = some i := (setCursor_composing ..).trans o.composing
  have hstream : (act v).stream n = { (v.reopened i n p).stream n with cursorLine := p.line }.taken
      ((s.stream n).after (recordHeader s.sc.buffer).length) := by
    rw [advanceTake_stream, if_pos rfl, setCursor_stream, if_pos rfl, ← o.after]
    rfl
  have hslot (m : Fin 4) : (State.settle old u).slot m = if i = m then
      { (v.reopened i n p).slot m with releaseOff := (s.stream n).after (recordHeader s.sc.buffer).length }
      else (v.reopened i n p).slot m := by
    rw [State.slot_congr k.store, advanceTake_slot hci, setCursor_slot, setCursor_stream, if_pos rfl, ← o.after]
    rfl
  have htake : ((State.settle old u).stream n).take = (s.stream n).after (recordHeader s.sc.buffer).length :=
    (core_take (k.core n)).trans (by rw [hstream]; rfl)
  have hfill : ((act v).stream n).fill = (s.stream n).fill := by rw [hstream]; exact o.fill
  have htake' : ((act v).stream n).take = (s.stream n).after (recordHeader s.sc.buffer).length := by rw [hstream]; rfl
  obtain ⟨a1, a2, a3⟩ := advanceTake_store (s := (v.reopened i n p).setCursor n p.line) n (recordHeader s.sc.buffer).length
  refine ⟨?_, fun m hm => ?_, ?_, ?_, k.comp.waits, ?_, ?_, ?_, htake, ?_, ?_, ?_⟩
  · rw [hslot, if_pos rfl, o.page]
  · rw [hslot, if_neg (Ne.symm hm), o.slot m hm]
  · rw [k.store]; exact a3.trans o.opened
  · rw [k.store]; exact a2.trans o.imaging
  · exact (core_pageNo (k.core n)).trans (by rw [hstream]; exact o.pageNo)
  · exact k.comp.cursor.trans (by simp [act])
  · exact (core_cursorLine (k.core n)).trans (by rw [hstream]; rfl)
  · rw [k.comp.state, hfill, htake']
  · exact k.form.trans ((by simp [act] : (act v).form = (v.reopened i n p).form).trans o.form)
  · exact k.hostMem.trans ((by simp [act] : (act v).hostMem = (v.reopened i n p).hostMem).trans o.hostMem)

end

end Sys2Proof.Machine
end
section
/-! SUPPORT. The waits that an EXIT ends, with the first page of a job, with a turn more, and with text to place (R49, R58,
R61, R65 to R67). -/

namespace Sys2Proof.Machine

section
variable (old : State) {s u v : State} {i : Fin 4} {rest : List (Fin 4)} {n : Fin 8} {p : PendingOpen} {j : JobInfo}

/-- A wait for the slot of the first page of a job. -/
theorem settle_waitOpens (h : s.PageFreed i rest u) (hb : s.regs.resetBusy = false)
    (hn : s.form.noCheck = true) (hr : s.sc.readFailed = false) (ho : s.owner = some n) (hc : s.comp.state = .waitSlot)
    (hp : s.comp.waiting = some p) (hrest : p.rest = .openJob) (hj : s.comp.job = some j)
    (hm : ∀ k, (s.slot k).mark = false) (hf : s.freeSlot = none) : let t := State.settle old u
    let r := (s.stream n).after 16
    t.slot i = { s.openedSlot n j.tag (j.firstPage % 1000000) true with releaseOff := r } ∧
    (∀ k, k ≠ i → t.slot k = s.slot k) ∧ t.store.lastOpened = i ∧ t.store.imaging = rest ∧ t.comp.waits = false ∧
    t.comp.job = some { j with started := true } ∧ t.comp.cursor = some 1 ∧ (t.stream n).take = r ∧
    t.comp.state = (if (s.stream n).fill = r then .atFill else .ready) ∧ t.form = s.form ∧ t.hostMem = s.hostMem := by
  let act (v : State) : State := (v.jobOpened i n j).advanceTake n 16
  have hcm {v : State} (hv : s.PageFreed i rest v) : (v.jobOpened i n j).composing = some i :=
    jobOpened_composing (hv.marks hm) i n j
  obtain ⟨v, hv, k⟩ := settle_finishes old (act := act) h hb hn hr ho fun v hv => by
    refine ⟨?_, ?_, ?_, ?_⟩
    · rw [resumeWait_openJob (by rw [hv.comp]; exact hc) (by rw [hv.comp]; exact hp) ((owner_of_jobs hv.jobs).trans ho)
        (hv.freeSlot hf) hrest, openJob_opens (by rw [hv.comp]; exact hj) (hv.freeSlot hf), startJob_eq]
    · exact (advanceTake_jobs _ n _).trans (jobOpened_jobs v i n j)
    · exact (advanceTake_buffer _ n _).2
    · rw [advanceTake_composing, hcm hv]; exact nofun
  obtain ⟨-, j2, j3, -, -, -, -, j8, j9⟩ := jobOpened_keeps v i n j
  obtain ⟨t1, t2, -, t4⟩ := hv.takes n
  have hafter : ((v.jobOpened i n j).stream n).after 16 = (s.stream n).after 16 := by
    rw [jobOpened_stream, if_pos rfl, ← t4]; rfl
  have hstream : (act v).stream n = { v.stream n with
      pageNo := j.firstPage % Config.pageNumbers, cursorLine := 1
      reports := (v.stream n).reports ++ [(⟨j.tag, .noneYet, false, 0⟩ : Report)] }.taken ((s.stream n).after 16) := by
    rw [advanceTake_stream, if_pos rfl, hafter, jobOpened_stream, if_pos rfl]
  have hslot (m : Fin 4) : (State.settle old u).slot m = if i = m then
      { (v.jobOpened i n j).slot m with releaseOff := (s.stream n).after 16 } else (v.jobOpened i n j).slot m := by
    rw [State.slot_congr k.store, advanceTake_slot (hcm hv), hafter]
  have hcomp : (act v).comp = (v.jobOpened i n j).comp := by simp [act]
  obtain ⟨-, a2, a3⟩ := advanceTake_store (s := v.jobOpened i n j) n 16
  refine ⟨?_, fun m hm => ?_, ?_, ?_, k.comp.waits, ?_, ?_, ?_, ?_, ?_, ?_⟩
  · rw [hslot, if_pos rfl, jobOpened_slot, if_pos rfl]
    simp only [State.openedSlot, hv.loadedForm, t1]
    rfl
  · rw [hslot, if_neg (Ne.symm hm), jobOpened_slot, if_neg (Ne.symm hm), hv.slot, if_neg (Ne.symm hm)]
  · rw [k.store]; exact a3.trans j8
  · rw [k.store]; exact a2.trans hv.imaging
  · rw [k.comp.job, hcomp, j9]
  · rw [k.comp.cursor, hcomp, j9]
  · exact (core_take (k.core n)).trans (by rw [hstream]; rfl)
  · have hft : ((act v).stream n).fill = (s.stream n).fill ∧ ((act v).stream n).take = (s.stream n).after 16 := by
      rw [hstream]; exact ⟨t2, rfl⟩
    rw [k.comp.state, hft.1, hft.2]
  · exact k.form.trans ((by simp [act] : (act v).form = (v.jobOpened i n j).form).trans (j2.trans hv.form))
  · exact k.hostMem.trans ((by simp [act] : (act v).hostMem = (v.jobOpened i n j).hostMem).trans (j3.trans hv.hostMem))

/-- A wait for a slot with text still to place, on the page that opens. -/
theorem settle_waitStrikes {h : RecordHeader} {a : Carriage} {l : Nat} (hu : s.PageFreed i rest u)
    (hb : s.regs.resetBusy = false) (hn : s.form.noCheck = true) (hr : s.sc.readFailed = false) (ho : s.owner = some n)
    (hc : s.comp.state = .waitSlot) (hp : s.comp.waiting = some p) (hrest : p.rest = .strikeAndAfter) (ht : p.turns = 0)
    (hj : s.comp.job = some j) (hm : ∀ k, (s.slot k).mark = false) (hf : s.freeSlot = none)
    (hh : recordHeader s.sc.buffer = h) (ha : carriageOf h.after = some a) (hl : s.loadedForm.move p.line a = (0, l))
    (hpool : h.textCount ≠ 0 → s.store.poolUsed - (s.slot i).strikes.length < 1024) :
    ∃ o, s.PageReopened i rest n p j.tag o ∧ (o.lineTaken n i h p.line l).WentOn n (State.settle old u) := by
  let act (v : State) : State := (v.reopened i n p).lineTaken n i h p.line l
  obtain ⟨v, hv, k⟩ := settle_finishes old (act := act) hu hb hn hr ho fun v hv => by
    have o := hv.reopened (p := p) (n := n) hm hj
    have hwait : ((v.reopened i n p).setCursor n p.line).comp.waits = false := by rw [setCursor_comp, o.comp]; rfl
    refine ⟨?_, ?_, ?_, ?_⟩
    · rw [resumeWait_turn (by rw [hv.comp]; exact hc) (by rw [hv.comp]; exact hp)
        ((owner_of_jobs hv.jobs).trans ho) (hv.freeSlot hf) (by rw [hrest]; decide), ht, hrest]
      show (if ((v.reopened i n p).setCursor n p.line).comp.waits then _ else _) = _
      rw [hwait]
      show ((v.reopened i n p).setCursor n p.line).lineStrike n (recordHeader (v.reopened i n p).sc.buffer) = _
      rw [o.buffer, hh]
      refine lineStrike_within (s := (v.reopened i n p).setCursor n p.line) ((setCursor_composing ..).trans o.composing)
        hwait (fun h0 => ?_) ha ?_ n
      · rw [setCursor_slot, o.page]
        exact ⟨Nat.zero_le _, (by decide : (0 : Nat) < 4), (o.pool.trans_lt (hpool h0) :)⟩
      · exact (congrArg (fun f : Form => f.move p.line a) (loadedForm_congr o.form)).trans hl
    · exact (lineTaken_jobs ..).trans (reopened_jobs v i n p)
    · exact (lineTaken_keeps _ n i h p.line l).2.2.2.2.1
    · rw [lineTaken_composing, o.composing]; exact nofun
  exact ⟨_, hv.reopened hm hj, k⟩

/-- The turn that the exit ends is followed by another, which finds no slot: the page opened closes, and the Composer
waits again. -/
theorem settle_waitTurns (hu : s.PageFreed i rest u) (hb : s.regs.resetBusy = false) (hn : s.form.noCheck = true)
    (hr : s.sc.readFailed = false) (ho : s.owner = some n) (hc : s.comp.state = .waitSlot) (hp : s.comp.waiting = some p)
    (hrest : p.rest ≠ .openJob) (ht : 1 ≤ p.turns) (hj : s.comp.job = some j) (hm : ∀ k, (s.slot k).mark = false)
    (hf : s.freeSlot = none) : ∃ o, s.PageReopened i rest n p j.tag o ∧
      ((o.closeFinal i none).waitSlot ⟨p.line, p.turns - 1, (p.pageNo + 1) % 1000000, p.rest⟩).Settled
        (State.settle old u) := by
  obtain ⟨v, hv, hs⟩ := settle_resumes old (n := n) hu hb hn
  have o := hv.reopened (p := p) (n := n) hm hj
  refine ⟨_, o, ?_⟩
  have hfree : ((v.reopened i n p).closeFinal i none).freeSlot = none := by
    refine (freeSlot_none_iff _).mpr fun k => ?_
    by_cases hk : k = i
    · obtain ⟨ks, ref, made, -, e⟩ := closeFinal_page (s := v.reopened i n p) none
        (Slot.endsAs_closed (by rw [o.page]; rfl) (by rw [o.page]; rfl))
      rw [hk, e]
      exact nofun
    · rw [closeFinal_slot_other _ hk, o.slot k hk]
      exact (freeSlot_none_iff s).mp hf k
  obtain ⟨k, hk⟩ := Nat.exists_eq_add_of_le' ht
  have hw : v.resumeWait =
      ((v.reopened i n p).closeFinal i none).waitSlot ⟨p.line, p.turns - 1, (p.pageNo + 1) % 1000000, p.rest⟩ := by
    rw [resumeWait_turn (by rw [hv.comp]; exact hc) (by rw [hv.comp]; exact hp) ((owner_of_jobs hv.jobs).trans ho)
      (hv.freeSlot hf) hrest, hk]
    simp only [State.turnPages, o.composing, hfree, o.page]
    rfl
  have hjobs : (((v.reopened i n p).closeFinal i none).waitSlot
      ⟨p.line, p.turns - 1, (p.pageNo + 1) % 1000000, p.rest⟩).jobs = v.jobs :=
    (jobs_of_sc rfl).trans ((closeFinal_jobs _ i none).trans (reopened_jobs v i n p))
  rw [hw] at hs
  have hread : ((v.reopened i n p).closeFinal i none).sc.readFailed = (v.reopened i n p).sc.readFailed :=
    (congrArg StreamController.readFailed (closeFinal_pagesOnly (v.reopened i n p) i none).lists :)
  exact hs (hread.trans (o.readFailed.trans hr)) ((owner_of_jobs (hjobs.trans hv.jobs)).trans ho)

/-- Text that waits for an entry of the strike pool finds one of those that the exit returns. -/
theorem settle_waitPlaces {k : Fin 4} {h : RecordHeader} {a : Carriage} {l m : Nat} (hu : s.PageFreed i rest u)
    (hb : s.regs.resetBusy = false) (hn : s.form.noCheck = true) (hr : s.sc.readFailed = false) (ho : s.owner = some n)
    (hc : s.comp.state = .waitStrike) (hk : s.composing = some k) (hki : k ≠ i) (hl : s.comp.cursor = some l)
    (hh : recordHeader s.sc.buffer = h) (hsp : (s.slot k).split ≤ (s.slot k).copy.top l) (h4 : (s.slot k).strikesOn l < 4)
    (ha : carriageOf h.after = some a) (hmv : s.loadedForm.move l a = (0, m))
    (hpool : s.store.poolUsed - (s.slot i).strikes.length < 1024) :
    ∃ v, s.PageFreed i rest v ∧ v.composing = some k ∧
      (({ v with comp := { v.comp with state := .ready } } : State).lineDone n k h m).WentOn n (State.settle old u) := by
  let act (v : State) : State := ({ v with comp := { v.comp with state := .ready } } : State).lineDone n k h m
  have hcm {v : State} (hv : s.PageFreed i rest v) : v.composing = some k := by
    obtain ⟨h1, h2⟩ := (composing_iff s k).mp hk
    refine (composing_iff v k).mpr ⟨by rw [hv.slot, if_neg (Ne.symm hki)]; exact h1, fun x hx => ?_⟩
    rw [hv.slot]
    split
    · rfl
    · exact h2 x hx
  obtain ⟨v, hv, g⟩ := settle_finishes old (act := act) hu hb hn hr ho fun v hv => by
    have hcur : v.comp.cursor = some l := by rw [hv.comp]; exact hl
    refine ⟨?_, ?_, ?_, ?_⟩
    · rw [resumeWait_strike (by rw [hv.comp]; exact hc) ((owner_of_jobs hv.jobs).trans ho) (by rw [hv.pool]; exact hpool),
        hv.buffer, hh]
      refine lineStrike_within (s := { v with comp := { v.comp with state := .ready } })
        ((composing_congr (s := v) fun _ => rfl).trans (hcm hv)) rfl (fun _ => ?_) ha ?_ n
      · show (v.slot k).split ≤ (v.slot k).copy.top (v.comp.cursor.getD 1) ∧
          (v.slot k).strikesOn (v.comp.cursor.getD 1) < 4 ∧ v.store.poolUsed < 1024
        rw [hv.slot, if_neg (Ne.symm hki), hcur, hv.pool]
        exact ⟨hsp, h4, hpool⟩
      · show v.loadedForm.move (v.comp.cursor.getD 1) a = _
        rw [hv.loadedForm, hcur]
        exact hmv
    · exact (lineDone_jobs ..).trans (jobs_of_sc rfl)
    · exact (lineDone_keeps _ n k h m).2.2.2.2.1
    · rw [lineDone_composing]
      exact fun e => nomatch ((composing_congr (s := v) fun _ => rfl).trans (hcm hv)).symm.trans e
  exact ⟨v, hv, hcm hv, g⟩

end

end Sys2Proof.Machine
end
section
/-! PROOF. EXIT (R33, R39, R40, R49, R58, R61, R65 to R67, R103, R161, R176). -/

namespace Sys2Proof.Machine

theorem core_heldExits {r q : StreamRec} (h : r.core = q.core) : r.heldExits = q.heldExits :=
  (congrArg StreamRec.heldExits h :)

section
variable {s : State} {f : RxFrame} {q : BitVec 8}

/-- The frame is an EXIT of page sequence number `q`, taken outside a device reset and OFFLINE. -/
structure State.Exits (s : State) (f : RxFrame) (q : BitVec 8) : Prop where
  resetBusy : s.regs.resetBusy = false
  passes : f.passes = true
  kind : f.kind = 9
  number : q = BitVec.ofNat 8 (payloadWord f.payload 0).toNat
  online : s.engine.state ≠ .offline

/-- The exit's own write, for its mark, carries no report. -/
theorem exit_writes {u : State} {m : Fin 8} {tag : Option Word32} (hu : u.writer = if tag = none then s.writer
    else (s.ask ⟨.descriptor m, true, false, false⟩).writer)
    (h : s.writer.reporting m = false ∨ s.writer.roomForReport m = true) :
    u.writer.reporting m = false ∨ u.writer.roomForReport m = true := by
  rw [hu]
  split
  · exact h
  · exact h.imp (fun h => by rw [reporting_ask, h]; simp) fun h => roomForReport_ask h fun _ => rfl

/-- With no wait of the Composer: what an exit of one page shows. -/
theorem settle_exit {i : Fin 4} {rest : List (Fin 4)} (h : s.Exits f q) (hr : s.sc.readFailed = false)
    (hn : s.form.noCheck = true) (hw : s.comp.waits = false) (hl : s.store.imaging = i :: rest) (hi : i ∉ rest)
    (hs : (s.slot i).state = .sent) (hq : (s.slot i).pageSeq = some q) :
    let t := State.settle s (s.receive f)
    let m := (s.slot i).stream
    t.slot i = Slot.free ∧ t.store.imaging = rest ∧ t.store.poolUsed = s.store.poolUsed - (s.slot i).strikes.length ∧
    ((s.stream m).heldExits = 0 → (t.stream m).release = (s.slot i).releaseOff) ∧
    ((s.stream m).heldExits ≠ 0 → (t.stream m).release = (s.stream m).release ∧
      (t.stream m).heldExits = (s.stream m).heldExits - 1) ∧
    (∀ r older tag o, (s.stream m).reports = r :: older → r.due = false → (s.slot i).jobEnds = [⟨tag, o⟩] →
      s.writer.reporting m = false ∨ s.writer.roomForReport m = true →
      (t.stream m).jobTag = r.tag ∧ (t.stream m).jobOutcome = o ∧ (t.stream m).jobPages = satAdd r.pages 1 ∧
        (t.stream m).reports = older ∧ t.Owes ⟨.descriptor m, true, true, false⟩) ∧
    (t.stream m).pagesExited = satAdd (s.stream m).pagesExited 1 ∧
    (∀ tag, (s.slot i).markTag = some tag → (t.stream m).markTag = tag ∧ t.Owes ⟨.descriptor m, true, false, false⟩) ∧
    t.counts.pagesExited = satAdd s.counts.pagesExited 1 ∧ (∀ k, k ≠ i → t.slot k = s.slot k) ∧
    (s.GrantsNothing → (∀ x, x ≠ m → (t.stream x).core = (s.stream x).core) ∧ t.comp = s.comp) ∧
    t.engine.expected = some (f.seq + 1) ∧ t.form = s.form ∧ t.hostMem = s.hostMem := by
  obtain ⟨u1, u2, u3, u4⟩ := receive_frees h.resetBusy h.passes h.kind h.number h.online hl hi hs hq
  generalize hu : s.receive f = u at u1 u2 u3 u4
  have hb : u.regs.resetBusy = false := by rw [u1.regs]; exact h.resetBusy
  have hc : u.Composed := ⟨by rw [u1.comp]; exact hw, u1.readFailed.trans hr, by rw [u1.form]; exact hn⟩
  obtain ⟨k1, k2, -, -⟩ := State.settle_composed s hb hc
  obtain ⟨e1, -, e3, -⟩ := settle_keepsReports s u
  have hm : u.stream (s.slot i).stream = (s.stream (s.slot i).stream).exited (s.slot i) := by
    rw [u1.stream, if_pos rfl]
  obtain ⟨st, rush, ks⟩ := settle_stream s hb hc (s.slot i).stream
  rw [hm] at ks
  refine ⟨?_, by rw [k1]; exact u1.imaging, by rw [k1]; exact u1.pool, fun h0 => ?_, fun h0 => ⟨?_, ?_⟩,
    fun r older tag o hrep hdue hends hwrite => ?_, (core_pagesExited ks).trans rfl, fun tag hmark => ⟨?_, ?_⟩,
    e3.trans u3, fun k hk => ?_, fun hg => ?_, e1.trans u2, k2.trans u1.form,
    (by simp : (State.settle s u).hostMem = u.hostMem).trans u1.hostMem⟩
  · rw [State.slot_congr k1, u1.slot, if_pos rfl]
  · exact (core_release ks).trans (if_pos h0)
  · exact (core_release ks).trans (if_neg h0)
  · exact core_heldExits ks
  · obtain ⟨d1, d2⟩ := settle_falls s hb hc (p := ⟨r.tag, o, true, satAdd r.pages 1⟩) (rest := older)
      (by rw [hm]; simp [StreamRec.exited, hrep, hends, countExit, fallDue, hdue]) rfl
      (by rw [hrep]; simp [noneDue, hdue]) (exit_writes u4 hwrite)
    obtain ⟨d3, d4, d5, d6⟩ := d1
    exact ⟨d3, d4, d5, d6, d2⟩
  · exact (core_markTag ks).trans (by simp [StreamRec.exited, hmark])
  · refine settle_keepsOwed s u _ ((State.ask_owes s _).congr ?_)
    rw [u4, if_neg (by rw [hmark]; exact nofun)]
  · rw [State.slot_congr k1, u1.slot, if_neg (Ne.symm hk)]
  · have hgu : u.GrantsNothing := by
      rcases hg with ho | hq | hrun
      · exact .inl (by rw [owner_of_jobs u1.jobs]; exact ho)
      · exact .inr (.inl ((queue_of_jobs u1.jobs).trans hq))
      · exact .inr (.inr (by rw [u1.regs]; exact hrun))
    have k := settle_settled s hb hc hgu
    exact ⟨fun x hx => (k.core x).trans (by rw [u1.stream, if_neg (Ne.symm hx)]), k.comp.trans u1.comp⟩

/-- A number that names the second page of the imaging list takes the oldest with it. -/
theorem settle_exits {i k : Fin 4} {rest : List (Fin 4)} (h : s.Exits f q) (hr : s.sc.readFailed = false)
    (hn : s.form.noCheck = true) (hw : s.comp.waits = false) (hl : s.store.imaging = i :: k :: rest) (hik : i ≠ k)
    (hi : i ∉ rest) (hk : k ∉ rest) (his : (s.slot i).state = .sent) (hiq : (s.slot i).pageSeq ≠ some q)
    (hks : (s.slot k).state = .sent) (hkq : (s.slot k).pageSeq = some q) :
    let t := State.settle s (s.receive f)
    t.slot i = Slot.free ∧ t.slot k = Slot.free ∧ t.store.imaging = rest ∧
    t.counts.pagesExited = satAdd (satAdd s.counts.pagesExited 1) 1 ∧
    t.store.poolUsed = s.store.poolUsed - (s.slot i).strikes.length - (s.slot k).strikes.length ∧
    ((s.stream (s.slot k).stream).heldExits = 0 → (t.stream (s.slot k).stream).release = (s.slot k).releaseOff) ∧
    (∀ j, j ≠ i → j ≠ k → t.slot j = s.slot j) ∧ t.form = s.form ∧ t.hostMem = s.hostMem := by
  let w := s.takeSequence f.seq
  have hst : w.store = s.store := by simp [w]
  have hws (j : Fin 4) : w.slot j = s.slot j := State.slot_congr hst j
  have hwr (m : Fin 8) : w.stream m = s.stream m := State.stream_congr (by simp [w]) m
  have hrec : s.receive f = ((w.freeExited i).freeExited k).dropStale := by
    rw [receive_exit h.resetBusy h.passes h.kind h.online, ← h.number]
    exact takeExit_second (by rw [hst]; exact hl) hik (by rw [hws]; exact his) (by rw [hws]; exact hiq)
      (by rw [hws]; exact hks) (by rw [hws]; exact hkq)
  have h1 : w.PageFreed i (k :: rest) (w.freeExited i) := freeExited_pageFreed (by rw [hst]; exact hl)
    (by simp [hik, hi])
  have h2 := freeExited_pageFreed h1.imaging hk
  have hslot : (w.freeExited i).slot k = s.slot k := by rw [h1.slot, if_neg hik, hws]
  generalize hu : s.receive f = u at hrec
  have hu2 : (w.freeExited i).PageFreed k rest u := by
    rw [hrec]
    exact h2.congr (by simp) (by simp) (by simp) (by simp) (by simp) (by simp)
  have hc : u.Composed := ⟨by rw [hu2.comp, h1.comp]; simpa [w] using hw, hu2.readFailed.trans (h1.readFailed.trans (by simpa [w] using hr)),
    by rw [hu2.form, h1.form]; simpa [w] using hn⟩
  have hb : u.regs.resetBusy = false := by rw [hu2.regs, h1.regs]; simpa [w] using h.resetBusy
  obtain ⟨k1, k2, -, -⟩ := State.settle_composed s hb hc
  obtain ⟨-, -, e3, -⟩ := settle_keepsReports s u
  obtain ⟨st, rush, ks⟩ := settle_stream s hb hc (s.slot k).stream
  have hm : u.stream (s.slot k).stream = ((w.freeExited i).stream (s.slot k).stream).exited (s.slot k) := by
    rw [hu2.stream, hslot, if_pos rfl]
  have hslots (j : Fin 4) : (State.settle s u).slot j = if k = j then Slot.free else if i = j then Slot.free else s.slot j := by
    rw [State.slot_congr k1, hu2.slot, h1.slot, hws]
  refine ⟨?_, ?_, by rw [k1]; exact hu2.imaging, ?_, ?_, fun h0 => ?_, fun j hji hjk => ?_, ?_, ?_⟩
  · rw [hslots, if_neg (Ne.symm hik), if_pos rfl]
  · rw [hslots, if_pos rfl]
  · have hcu : u.counts = ((w.freeExited i).freeExited k).counts := by rw [hrec]; simp
    rw [e3, hcu, (freeExited_store _ k).2.2.2, (freeExited_store w i).2.2.2, (takeSequence_eq s f.seq).2]
  · rw [k1, hu2.pool, h1.pool, hslot, hws, hst]
  · rw [hm] at ks
    refine (core_release ks).trans (if_pos ?_)
    show ((w.freeExited i).stream (s.slot k).stream).heldExits = 0
    rw [h1.stream, hwr]
    split
    · show (s.stream (s.slot k).stream).heldExits - 1 = 0
      rw [h0]
    · exact h0
  · rw [hslots, if_neg (Ne.symm hjk), if_neg (Ne.symm hji)]
  · exact k2.trans (hu2.form.trans (h1.form.trans (by simp [w])))
  · exact (by simp : (State.settle s u).hostMem = u.hostMem).trans (hu2.hostMem.trans (h1.hostMem.trans (by simp [w])))

/-- A number that names no SENT slot frees none. -/
theorem settle_exitsNone (h : s.Exits f q) (hr : s.sc.readFailed = false) (hn : s.form.noCheck = true)
    (hw : s.comp.waits = false) (hq : ∀ i, (s.slot i).state = .sent → (s.slot i).pageSeq ≠ some q) :
    let t := State.settle s (s.receive f)
    t.store = s.store ∧ t.counts.pagesExited = s.counts.pagesExited ∧ t.engine.expected = some (f.seq + 1) ∧
    t.hostMem = s.hostMem := by
  have hst : (s.takeSequence f.seq).store = s.store := by simp
  have hrec : s.receive f = s.takeSequence f.seq := by
    rw [receive_exit h.resetBusy h.passes h.kind h.online, ← h.number]
    exact takeExit_none fun i hi => by rw [State.slot_congr hst] at hi ⊢; exact hq i hi
  obtain ⟨k1, -, -, -⟩ := State.settle_composed s (u := s.takeSequence f.seq) (by simpa using h.resetBusy)
    ⟨by simpa using hw, by simpa using hr, by simpa using hn⟩
  obtain ⟨e1, -, e3, -⟩ := settle_keepsReports s (s.takeSequence f.seq)
  obtain ⟨t1, t2⟩ := takeSequence_eq s f.seq
  rw [hrec]
  exact ⟨k1.trans hst, by rw [e3, t2], by rw [e1, t1], by simp⟩

/-! ## The waits that an exit ends -/

section
variable {i : Fin 4} {rest : List (Fin 4)} {n : Fin 8} {p : PendingOpen} {j : JobInfo}

/-- The page opened closes at a turn more, and the Composer waits again. -/
theorem exit_turns (h : s.PageFreed i rest (s.receive f)) (hb : s.regs.resetBusy = false) (hn : s.form.noCheck = true)
    (hr : s.sc.readFailed = false) (ho : s.owner = some n) (hc : s.comp.state = .waitSlot) (hp : s.comp.waiting = some p)
    (hrest : p.rest ≠ .openJob) (ht : 1 ≤ p.turns) (hj : s.comp.job = some j) (hm : ∀ k, (s.slot k).mark = false)
    (hf : s.freeSlot = none) : let t := State.settle s (s.receive f)
    (t.slot i).state = .closed ∧ (t.slot i).mark = false ∧ (t.slot i).stream = n ∧
    (t.slot i).copy = s.loadedForm.copy ∧ (t.slot i).strikes = [] ∧
    (t.slot i).entry = some ⟨0, s.loadedForm.copy.length⟩ ∧ (t.slot i).pageNo = p.pageNo ∧ t.store.lastOpened = i ∧
    t.store.imaging = rest ++ [i] ∧ t.comp.state = .waitSlot ∧ t.comp.cursor = some p.line ∧
    t.comp.waiting = some { p with turns := p.turns - 1, pageNo := (p.pageNo + 1) % 1000000 } ∧
    (t.stream n).take = (s.stream n).take ∧ t.sc.buffer = s.sc.buffer ∧ (∀ k, k ≠ i → t.slot k = s.slot k) ∧
    t.form = s.form ∧ t.hostMem = s.hostMem := by
  obtain ⟨o, k1, k2⟩ := settle_waitTurns s h hb hn hr ho hc hp hrest ht hj hm hf
  obtain ⟨ks, ref, made, hl, e⟩ := closeFinal_page (s := o) none
    (Slot.endsAs_closed (by rw [k1.page]; rfl) (by rw [k1.page]; rfl))
  obtain ⟨c1, -, c3⟩ := closeFinal_store o i none
  have hks : ks = [] := List.length_eq_zero_iff.mp (hl.trans (by rw [k1.page]; rfl))
  have hslot (x : Fin 4) : (State.settle s (s.receive f)).slot x = (o.closeFinal i none).slot x := State.slot_congr k2.store x
  rw [k1.page] at e
  have hpages := closeFinal_pagesOnly o i none
  have hslot : (State.settle s (s.receive f)).slot i = _ := (hslot i).trans e
  refine ⟨by rw [hslot], by rw [hslot], by rw [hslot]; rfl, by rw [hslot]; rfl, by rw [hslot, hks], by rw [hslot]; rfl,
    by rw [hslot]; rfl, ?_, ?_, by rw [k2.comp]; rfl, by rw [k2.comp]; rfl, by rw [k2.comp]; rfl, ?_, ?_, fun x hx => ?_, ?_, ?_⟩
  · rw [k2.store]; exact c3.trans k1.opened
  · rw [k2.store]
    refine c1.trans ?_
    rw [k1.page, k1.imaging]
    rfl
  · exact (core_take (k2.core n)).trans ((bare_fields (hpages.bare n)).2.2.1.trans k1.take)
  · exact k2.buffer.trans ((congrArg StreamController.buffer hpages.lists :).trans k1.buffer)
  · rw [State.slot_congr k2.store]
    exact (closeFinal_slot_other o hx none).trans (k1.slot x hx)
  · exact k2.form.trans ((by simp : (o.closeFinal i none).form = o.form).trans k1.form)
  · exact k2.hostMem.trans ((by simp : (o.closeFinal i none).hostMem = o.hostMem).trans k1.hostMem)

/-- The text is placed on the page that opens, and the record ends. -/
theorem exit_strikes {h : RecordHeader} {a : Carriage} {l : Nat} (hu : s.PageFreed i rest (s.receive f))
    (hb : s.regs.resetBusy = false) (hn : s.form.noCheck = true) (hr : s.sc.readFailed = false) (ho : s.owner = some n)
    (hc : s.comp.state = .waitSlot) (hp : s.comp.waiting = some p) (hrest : p.rest = .strikeAndAfter) (ht : p.turns = 0)
    (hj : s.comp.job = some j) (hm : ∀ k, (s.slot k).mark = false) (hf : s.freeSlot = none)
    (hh : recordHeader s.sc.buffer = h) (ha : carriageOf h.after = some a) (hl : s.loadedForm.move p.line a = (0, l))
    (hpool : h.textCount ≠ 0 → s.store.poolUsed - (s.slot i).strikes.length < 1024) :
    let t := State.settle s (s.receive f)
    (t.slot i).state = .composing ∧ (t.slot i).mark = true ∧ (t.slot i).stream = n ∧
    (t.slot i).copy = s.loadedForm.copy ∧ (t.slot i).pageNo = p.pageNo ∧
    (t.slot i).strikes = (if h.textCount = 0 then [] else [{
      line := p.line
      place := 1
      seq := 1
      typeface := h.typeface
      keyed := h.keyed
      template := h.template
      codes := ((s.sc.buffer.drop 8).take h.textCount).take s.loadedForm.positions
      glyphs := none }]) ∧
    t.store.poolUsed = s.store.poolUsed - (s.slot i).strikes.length + (if h.textCount = 0 then 0 else 1) ∧
    (t.stream n).overrun = satAdd (s.stream n).overrun (h.textCount - s.loadedForm.positions) ∧
    t.store.lastOpened = i ∧ t.store.imaging = rest ∧ t.comp.waits = false ∧ t.comp.cursor = some l ∧
    (t.stream n).take = (s.stream n).after h.length ∧ t.sc.buffer = s.sc.buffer.drop h.length ∧
    (∀ k, k ≠ i → t.slot k = s.slot k) ∧ t.form = s.form ∧ t.hostMem = s.hostMem := by
  obtain ⟨o, k, g⟩ := settle_waitStrikes s hu hb hn hr ho hc hp hrest ht hj hm hf hh ha hl hpool
  obtain ⟨-, v2, v3, -, -, v6, v7, v8, v9⟩ := lineTaken_keeps o n i h p.line l
  have hslot (x : Fin 4) := (State.slot_congr g.store x).trans (lineTaken_slot k.composing n h p.line l x)
  have hi := (hslot i).trans (if_pos rfl)
  rw [k.page] at hi
  have hform : o.loadedForm = s.loadedForm := loadedForm_congr k.form
  have hadded : o.added i h p.line = if h.textCount = 0 then [] else [{
      line := p.line
      place := 1
      seq := 1
      typeface := h.typeface
      keyed := h.keyed
      template := h.template
      codes := ((s.sc.buffer.drop 8).take h.textCount).take s.loadedForm.positions
      glyphs := none }] := by
    unfold State.added
    rw [k.page, hform, k.buffer]
    rfl
  have hstream := lineTaken_stream o n i h p.line l n
  rw [if_pos rfl, k.after] at hstream
  refine ⟨by rw [hi]; rfl, by rw [hi]; rfl, by rw [hi]; rfl, by rw [hi]; rfl, by rw [hi]; rfl, ?_, ?_, ?_, ?_, ?_,
    g.comp.waits, ?_, ?_, ?_, fun x hx => ?_, ?_, ?_⟩
  · rw [hi]
    exact (List.nil_append _).trans hadded
  · rw [g.store, v9, k.pool, hadded]
    split <;> rfl
  · refine (core_overrun (g.core n)).trans ?_
    rw [hstream, k.overrun, hform]
  · rw [g.store]
    exact (lineDone_keeps (o.setCursor n p.line) n i h l).2.2.2.2.2.2.2.2.1.trans k.opened
  · rw [g.store, v8, k.imaging]
  · rw [g.comp.cursor, v7]
  · exact (core_take (g.core n)).trans (by rw [hstream]; rfl)
  · rw [g.buffer, v6, k.buffer]
  · rw [hslot, if_neg (Ne.symm hx), k.slot x hx]
  · exact g.form.trans (v2.trans k.form)
  · exact g.hostMem.trans (v3.trans k.hostMem)

/-- The text that waited for a strike entry is placed on its page, and the record ends. -/
theorem exit_places {k : Fin 4} {h : RecordHeader} {a : Carriage} {l m : Nat} (hu : s.PageFreed i rest (s.receive f))
    (hb : s.regs.resetBusy = false) (hn : s.form.noCheck = true) (hr : s.sc.readFailed = false) (ho : s.owner = some n)
    (hc : s.comp.state = .waitStrike) (hk : s.composing = some k) (hki : k ≠ i) (hl : s.comp.cursor = some l)
    (hh : recordHeader s.sc.buffer = h) (h0 : h.textCount ≠ 0) (hsp : (s.slot k).split ≤ (s.slot k).copy.top l)
    (h4 : (s.slot k).strikesOn l < 4)
    (ha : carriageOf h.after = some a) (hmv : s.loadedForm.move l a = (0, m))
    (hpool : s.store.poolUsed - (s.slot i).strikes.length < 1024) :
    let t := State.settle s (s.receive f)
    t.slot i = Slot.free ∧ t.comp.waits = false ∧ t.comp.cursor = some m ∧ (t.stream n).take = (s.stream n).after h.length ∧
    (t.slot k).strikes = (s.slot k).strikes ++ [{
      line := l
      place := (s.slot k).strikesOn l + 1
      seq := (s.slot k).seqCount + 1
      typeface := h.typeface
      keyed := h.keyed
      template := h.template
      codes := ((s.sc.buffer.drop 8).take h.textCount).take s.loadedForm.positions
      glyphs := none }] ∧
    t.store.poolUsed = s.store.poolUsed - (s.slot i).strikes.length + 1 ∧
    t.sc.buffer = s.sc.buffer.drop h.length ∧ t.form = s.form ∧ t.hostMem = s.hostMem := by
  obtain ⟨v, hv, hcm, g⟩ := settle_waitPlaces s hu hb hn hr ho hc hk hki hl hh hsp h4 ha hmv hpool
  let o : State := { v with comp := { v.comp with state := .ready } }
  have hoc : o.composing = some k := (composing_congr (s := v) fun _ => rfl).trans hcm
  obtain ⟨-, v2, v3, -, -, v6, v7, -, -, v10⟩ := lineDone_keeps o n k h m
  have hslot (x : Fin 4) := (State.slot_congr g.store x).trans (lineDone_slot hoc n h m x)
  have hos (x : Fin 4) : o.slot x = if i = x then Slot.free else s.slot x := hv.slot x
  have hcur : o.comp.cursor.getD 1 = l := by
    show v.comp.cursor.getD 1 = l
    rw [hv.comp, hl]
    rfl
  have hok : o.slot k = s.slot k := by rw [hos, if_neg (Ne.symm hki)]
  have hadded : o.added k h l = [(s.slot k).newStrike h l s.loadedForm.positions (lineCodes h s.sc.buffer)] := by
    unfold State.added
    rw [if_neg h0, hok, (loadedForm_congr rfl : o.loadedForm = v.loadedForm), hv.loadedForm]
    show [(s.slot k).newStrike h l s.loadedForm.positions (lineCodes h v.sc.buffer)] = _
    rw [hv.buffer]
  refine ⟨?_, g.comp.waits, ?_, ?_, ?_, ?_, ?_, ?_, ?_⟩
  · rw [hslot, if_neg hki, hos, if_pos rfl]
  · rw [g.comp.cursor, v7]
  · refine (core_take (g.core n)).trans ?_
    rw [lineDone_stream, if_pos rfl]
    exact (hv.takes n).2.2.2 h.length
  · rw [hslot, if_pos rfl, hcur, hadded, hok]
    rfl
  · rw [g.store, v10, hcur, hadded]
    exact congrArg (· + 1) hv.pool
  · rw [g.buffer, v6]
    exact congrArg (List.drop h.length) hv.buffer
  · exact g.form.trans (v2.trans hv.form)
  · exact g.hostMem.trans (v3.trans hv.hostMem)

end

end

/-- Settles O56: by the number the EXIT names, and by the wait that its freeing ends. -/
theorem exitFreesThePage : Obligations.ExitFreesThePage := by
  unfold Obligations.ExitFreesThePage
  refine ⟨fun w n => ⟨reporting_iff w n, roomForReport_iff w n⟩, fun f q s hb hp hk hq ho hr hn => ?_⟩
  have h : s.Exits f q := ⟨hb, hp, hk, hq, ho⟩
  have freed {i rest} (hl : s.store.imaging = i :: rest) (hi : i ∉ rest) (hs : (s.slot i).state = .sent)
      (hq' : (s.slot i).pageSeq = some q) : s.PageFreed i rest (s.receive f) :=
    (receive_frees hb hp hk hq ho hl hi hs hq').1
  refine ⟨?_, ?_, ?_, ?_, ?_, ?_⟩
  · intro i k rest hw hl hik hi hk' his hiq hks hkq
    exact ⟨_, rfl, settle_exits h hr hn hw hl hik hi hk' his hiq hks hkq⟩
  · intro i rest n p j hc hwait hrest hown hj _ hm hf hl hi hs hq'
    have hu := freed hl hi hs hq'
    refine ⟨_, rfl, ?_⟩
    rcases hrest with ⟨hrest, ht⟩ | hrest
    · obtain ⟨k1, k2, k3, k4, k5, k6, k7, k8, k9, k10, k11, k12⟩ :=
        settle_waitEnds s hu hb hn hr hown hc hwait hrest ht hj hm hf
      rw [k1, k9]
      refine ⟨rfl, rfl, rfl, rfl, rfl, rfl, rfl, rfl, k3, k4, k5, fun _ => ⟨rfl, rfl, k6, k7, k8, rfl⟩, fun e => ?_, k10, k2,
        k11, k12⟩
      exact nomatch hrest.symm.trans e
    · obtain ⟨k1, k2, k3, k4, k5, k6, k7, k8, k9, k10, k11⟩ := settle_waitOpens s hu hb hn hr hown hc hwait hrest hj hm hf
      rw [k1, k8]
      refine ⟨rfl, rfl, rfl, rfl, rfl, rfl, rfl, rfl, k3, k4, k5, fun e => ?_, fun _ => ⟨rfl, rfl, k6, k7, rfl⟩, k9, k2,
        k10, k11⟩
      exact nomatch hrest.symm.trans e
  · intro i rest n p j hc hwait hrest hown hj _ hm hf hl hi hs hq'
    have hu := freed hl hi hs hq'
    refine ⟨fun ht => ⟨_, rfl, exit_turns hu hb hn hr hown hc hwait hrest ht hj hm hf⟩, fun hd a l2 ht hst hh ha hmv hpool => ?_⟩
    exact ⟨_, rfl, exit_strikes hu hb hn hr hown hc hwait hst ht hj hm hf hh ha hmv hpool⟩
  · intro i rest n k l hd a l2 hc hown _ hk' hki hcur hh h0 hsp h4 ha hmv hl hi hs hq' hpool
    exact ⟨_, rfl, exit_places (freed hl hi hs hq') hb hn hr hown hc hk' hki hcur hh h0 hsp h4 ha hmv hpool⟩
  · intro i rest hw hl hi hs hq'
    exact ⟨_, rfl, settle_exit h hr hn hw hl hi hs hq'⟩
  · intro hw hnone
    exact ⟨_, rfl, settle_exitsNone h hr hn hw hnone⟩

end Sys2Proof.Machine
end
section
/-! SUPPORT. The frames that the engine sends: their fields and the bits their CRC is formed over (R165, R192, R193). -/

namespace Sys2Proof.Machine

/-! ## STATUS (R193) -/

theorem conditionOf_fields (w0 w1 : Word32) : let c := conditionOf w0 w1
    c.bandRoom = (if w0.getLsbD 3 then 2 else if w0.getLsbD 2 then 1 else 0) ∧ c.underruns < 256 ∧
    (∀ k < 8, c.underruns.testBit k = w0.getLsbD (16 + k)) ∧
    (∀ k < 8, c.lastExit.getLsbD k = w0.getLsbD (24 + k)) ∧ ∀ k < 16, c.lastAccepted.getLsbD k = w1.getLsbD k := by
  refine ⟨?_, Nat.mod_lt _ (by decide), fun k hk => ?_, fun k hk => ?_, fun k hk => ?_⟩
  · show min (w0.toNat / 4 % 4) 2 = _
    rw [← BitVec.testBit_toNat, ← BitVec.testBit_toNat, Nat.testBit_eq_decide_div_mod_eq, Nat.testBit_eq_decide_div_mod_eq]
    simp only [decide_eq_true_eq]
    by_cases h3 : w0.toNat / 2 ^ 3 % 2 = 1
    · rw [if_pos h3]
      omega
    · rw [if_neg h3]
      split <;> omega
  · show (w0.toNat / 2 ^ 16 % 2 ^ 8).testBit k = _
    rw [Nat.testBit_mod_two_pow, Nat.testBit_div_two_pow, ← BitVec.testBit_toNat, Nat.add_comm]
    simp [hk]
  · show (BitVec.ofNat 8 (w0.toNat / 2 ^ 24)).getLsbD k = _
    rw [BitVec.getLsbD_ofNat, Nat.testBit_div_two_pow, ← BitVec.testBit_toNat, Nat.add_comm]
    simp [hk]
  · show (BitVec.ofNat 16 w1.toNat).getLsbD k = _
    rw [BitVec.getLsbD_ofNat, BitVec.testBit_toNat]
    simp [hk]

/-- Of two band sequence numbers the one is at or before the other within half the range (R193). -/
theorem seqAtOrBefore_iff (a b : BitVec 16) :
    seqAtOrBefore a b = true ↔ (b.toNat + 65536 - a.toNat) % 65536 < 32768 := by
  have ha : a.toNat < 65536 := a.isLt
  have e : (b - a).toNat = (b.toNat + 65536 - a.toNat) % 65536 := by
    rw [BitVec.toNat_sub]
    congr 1
    omega
  rw [seqAtOrBefore, decide_eq_true_eq, e]

/-! ## A frame's bits and its checks (R165, R192) -/

/-- The bits of a frame, each at its place. -/
def FrameBitsAt (kind : BitVec 4) (seq : BitVec 8) (length : BitVec 15) (payload : List Word32) (bits : List Bool) : Prop :=
  bits.length = 27 + 32 * payload.length ∧
    (∀ k < 4, bits[k]? = some (kind.getLsbD k)) ∧ (∀ k < 8, bits[4 + k]? = some (seq.getLsbD k)) ∧
    (∀ k < 15, bits[12 + k]? = some (length.getLsbD k)) ∧
    ∀ j w, payload[j]? = some w → ∀ k < 32, bits[27 + 32 * j + k]? = some (w.getLsbD k)

theorem frameBits_at (kind : BitVec 4) (seq : BitVec 8) (length : BitVec 15) (payload : List Word32) :
    FrameBitsAt kind seq length payload (frameBits kind.toNat seq.toNat length.toNat payload) := by
  have h12 : (bitsOf 4 kind.toNat ++ bitsOf 8 seq.toNat).length = 12 := by simp [bitsOf_length]
  have h27 : (bitsOf 4 kind.toNat ++ bitsOf 8 seq.toNat ++ bitsOf 15 length.toNat).length = 27 := by simp [bitsOf_length]
  refine ⟨frameBits_length _ _ _ _, fun k hk => ?_, fun k hk => ?_, fun k hk => ?_, fun j w hj k hk => ?_⟩
  · rw [frameBits, getElem?_keep h27 (by omega), getElem?_keep h12 (by omega), getElem?_keep (bitsOf_length 4 _) hk,
      bitsOf_get _ hk, BitVec.testBit_toNat]
  · rw [frameBits, getElem?_keep h27 (by omega), getElem?_keep h12 (by omega), getElem?_skip (bitsOf_length 4 _) rfl,
      bitsOf_get _ hk, BitVec.testBit_toNat]
  · rw [frameBits, getElem?_keep h27 (by omega), getElem?_skip h12 rfl, bitsOf_get _ hk, BitVec.testBit_toNat]
  · rw [frameBits, getElem?_skip h27 (k := 32 * j + k) (by omega),
      getElem?_flatMap_runs (fun w : Word32 => bitsOf_length 32 w.toNat) payload j hj hk, bitsOf_get _ hk,
      BitVec.testBit_toNat]

theorem FrameBitsAt.unique {kind : BitVec 4} {seq : BitVec 8} {length : BitVec 15} {payload : List Word32}
    {a b : List Bool} (ha : FrameBitsAt kind seq length payload a) (hb : FrameBitsAt kind seq length payload b) : a = b := by
  obtain ⟨a1, a2, a3, a4, a5⟩ := ha
  obtain ⟨b1, b2, b3, b4, b5⟩ := hb
  refine List.ext_getElem? fun i => ?_
  by_cases h4 : i < 4
  · rw [a2 i h4, b2 i h4]
  · by_cases h12 : i < 12
    · obtain ⟨k, rfl⟩ : ∃ k, i = 4 + k := ⟨i - 4, by omega⟩
      rw [a3 k (by omega), b3 k (by omega)]
    · by_cases h27 : i < 27
      · obtain ⟨k, rfl⟩ : ∃ k, i = 12 + k := ⟨i - 12, by omega⟩
        rw [a4 k (by omega), b4 k (by omega)]
      · by_cases hl : i < 27 + 32 * payload.length
        · obtain ⟨j, k, hj, hk, rfl⟩ : ∃ j k, j < payload.length ∧ k < 32 ∧ i = 27 + 32 * j + k :=
            ⟨(i - 27) / 32, (i - 27) % 32, by omega, by omega, by omega⟩
          rw [a5 j _ (List.getElem?_eq_getElem hj) k hk, b5 j _ (List.getElem?_eq_getElem hj) k hk]
        · rw [List.getElem?_eq_none (by omega), List.getElem?_eq_none (by omega)]

theorem engineFrameLength_iff (k l : Nat) : engineFrameLength k = some l ↔
    (k = 8 ∧ l = 2) ∨ (k = 9 ∧ l = 1) ∨ (k = 10 ∧ l = 1) := by
  unfold engineFrameLength
  split
  · simp [eq_comm]
  · simp [eq_comm]
  · simp [eq_comm]
  · next h8 h9 h10 =>
    refine ⟨nofun, fun h => ?_⟩
    rcases h with h | h | h
    · exact (h8 h.1).elim
    · exact (h9 h.1).elim
    · exact (h10 h.1).elim

theorem passes_iff (f : RxFrame) : f.passes = true ↔
    ((f.kind = 8 ∧ f.length = 2) ∨ (f.kind = 9 ∧ f.length = 1) ∨ (f.kind = 10 ∧ f.length = 1)) ∧
      f.payload.length = f.length.toNat ∧ f.crc = crcOf (frameBits f.kind.toNat f.seq.toNat f.length.toNat f.payload) := by
  have hk (v : Nat) (hv : v < 16) : f.kind.toNat = v ↔ f.kind = BitVec.ofNat 4 v := by
    rw [← BitVec.toNat_inj, BitVec.toNat_ofNat, Nat.mod_eq_of_lt (by omega)]
  have hl (v : Nat) (hv : v < 4) : f.length.toNat = v ↔ f.length = BitVec.ofNat 15 v := by
    rw [← BitVec.toNat_inj, BitVec.toNat_ofNat, Nat.mod_eq_of_lt (by omega)]
  rw [RxFrame.passes, decide_eq_true_eq, engineFrameLength_iff, hk 8 (by decide), hk 9 (by decide), hk 10 (by decide),
    hl 2 (by decide), hl 1 (by decide), eq_comm (a := f.crc)]
  rfl

end Sys2Proof.Machine
end
section
/-! SUPPORT. The steps of a STATUS that reports no jam and nothing out of readiness, and the settlement behind it (R137,
R165, R167, R175 to R177). -/

namespace Sys2Proof.Machine

/-! ## The steps up to the last exit (R165, R167, R175) -/

/-- The state in which condition `c` has been taken, with the messages it accepts, from a frame of sequence number `q`. -/
def State.statusTaken (s : State) (q : BitVec 8) (c : Condition) : State :=
  ((s.takeSequence q).answerPoll.takeCondition c).takeAcceptance c.lastAccepted

/-- The engine's part after the condition and the acceptance. -/
def EngineController.afterStatus (e : EngineController) (q : BitVec 8) (c : Condition) : EngineController :=
  { e with
    expected := some (q + 1)
    answerTimer := none
    missed := if e.answerTimer.isSome then 0 else e.missed
    cond := c
    bandRoom := c.bandRoom - e.handed
    handed := 0
    sent := e.sent.filter fun m => !seqAtOrBefore m.seq c.lastAccepted }

theorem statusTaken_keeps (s : State) (q : BitVec 8) (c : Condition) :
    (s.statusTaken q c).regs = s.regs ∧ (s.statusTaken q c).sc = s.sc ∧ (s.statusTaken q c).comp = s.comp ∧
    (s.statusTaken q c).form = s.form ∧ (s.statusTaken q c).store = s.store ∧ (s.statusTaken q c).panel = s.panel ∧
    (s.statusTaken q c).hostMem = s.hostMem ∧ (s.statusTaken q c).linkOut = s.linkOut := by
  unfold State.statusTaken State.takeAcceptance State.takeCondition State.answerPoll
  dsimp only
  (repeat' split) <;> simp

theorem statusTaken_engine (s : State) (q : BitVec 8) (c : Condition) :
    (s.statusTaken q c).engine = s.engine.afterStatus q c ∧
    (s.statusTaken q c).counts = { s.counts with
      underruns := satAdd s.counts.underruns c.underruns
      linkErrors := match s.engine.expected with
        | some e => satAdd s.counts.linkErrors (q - e).toNat
        | none => s.counts.linkErrors } := by
  obtain ⟨h1, h2⟩ := takeSequence_eq s q
  have accept (t : State) : (t.takeAcceptance c.lastAccepted).engine =
      { t.engine with sent := t.engine.sent.filter fun m => !seqAtOrBefore m.seq c.lastAccepted } ∧
      (t.takeAcceptance c.lastAccepted).counts = t.counts := by
    unfold State.takeAcceptance
    dsimp only
    split <;> simp
  obtain ⟨a1, a2⟩ := accept ((s.takeSequence q).answerPoll.takeCondition c)
  have poll (t : State) : t.answerPoll.engine = { t.engine with
      answerTimer := none, missed := if t.engine.answerTimer.isSome then 0 else t.engine.missed } ∧
      t.answerPoll.counts = t.counts := by
    unfold State.answerPoll
    by_cases h : t.engine.answerTimer.isSome
    · rw [if_pos h, if_pos h]
      exact ⟨rfl, rfl⟩
    · rw [if_neg h, if_neg h, ← Option.not_isSome_iff_eq_none.mp h]
      exact ⟨rfl, rfl⟩
  obtain ⟨p1, p2⟩ := poll (s.takeSequence q)
  have cond (t : State) : (t.takeCondition c).engine =
      { t.engine with cond := c, bandRoom := c.bandRoom - t.engine.handed, handed := 0 } ∧
      (t.takeCondition c).counts = { t.counts with underruns := satAdd t.counts.underruns c.underruns } := ⟨rfl, rfl⟩
  obtain ⟨c1, c2⟩ := cond (s.takeSequence q).answerPoll
  refine ⟨?_, ?_⟩
  · show (((s.takeSequence q).answerPoll.takeCondition c).takeAcceptance c.lastAccepted).engine = _
    rw [a1, c1, p1, h1]
    rfl
  · show (((s.takeSequence q).answerPoll.takeCondition c).takeAcceptance c.lastAccepted).counts = _
    rw [a2, c2, p2]
    exact congrArg (fun k : DeviceCounts => { k with underruns := satAdd k.underruns c.underruns }) h2

/-- With no refusal waiting, the acceptance drops no rebuild. -/
theorem statusTaken_builder {s : State} (h : s.refusalWaits = false) (q : BitVec 8) (c : Condition) :
    (s.statusTaken q c).builder = s.builder ∧ (s.statusTaken q c).cache = s.cache := by
  have hw : ∀ m ∈ s.engine.sent, m.awaiting = false := fun m hm => by simpa using (List.any_eq_false.mp h) m hm
  let t := (s.takeSequence q).answerPoll.takeCondition c
  have ht : t.engine.sent = s.engine.sent ∧ t.builder = s.builder ∧ t.cache = s.cache := by
    have hs := (takeSequence_eq s q).1
    show (s.takeSequence q).answerPoll.engine.sent = _ ∧ (s.takeSequence q).answerPoll.builder = _ ∧
      (s.takeSequence q).answerPoll.cache = _
    unfold State.answerPoll
    split <;> simp [hs]
  have ha : t.engine.sent.any (fun e => e.awaiting && e.isBand && seqAtOrBefore e.seq c.lastAccepted) = false := by
    rw [ht.1, List.any_eq_false]
    intro m hm
    simp [hw m hm]
  have e : s.statusTaken q c = ({ t with engine := { t.engine with
      sent := t.engine.sent.filter fun m => !seqAtOrBefore m.seq c.lastAccepted } } : State) := by
    show t.takeAcceptance c.lastAccepted = _
    unfold State.takeAcceptance
    dsimp only
    rw [ha]
    rfl
  rw [e]
  exact ht.2

/-- The condition reports no jam and nothing out of readiness. -/
structure Condition.Quiet (c : Condition) : Prop where
  jam : c.jam = false
  notReadySeen : c.notReadySeen = false
  formsOut : c.formsOut = false
  coverOpen : c.coverOpen = false

/-- In `w` the condition `c`, its acceptance and its last exit stand recorded. -/
structure State.Seen (s : State) (q : BitVec 8) (c : Condition) (w : State) : Prop where
  regs : w.regs = s.regs
  sc : w.sc = s.sc
  comp : w.comp = s.comp
  form : w.form = s.form
  store : w.store = s.store
  panel : w.panel = s.panel
  hostMem : w.hostMem = s.hostMem
  linkOut : w.linkOut = s.linkOut
  engine : w.engine = { s.engine.afterStatus q c with lastExit := some c.lastExit }
  counts : w.counts = { s.counts with
    underruns := satAdd s.counts.underruns c.underruns
    linkErrors := match s.engine.expected with
      | some e => satAdd s.counts.linkErrors (q - e).toNat
      | none => s.counts.linkErrors }
  builder : s.refusalWaits = false → w.builder = s.builder ∧ w.cache = s.cache

/-- A STATUS that jams and holds nothing: its last steps. -/
theorem receive_quiet {s : State} {f : RxFrame} {c : Condition} (hb : s.regs.resetBusy = false) (hp : f.passes = true)
    (hk : f.kind = 8) (hc : c = conditionOf (payloadWord f.payload 0) (payloadWord f.payload 1))
    (ho : s.engine.state ≠ .offline) (hq : c.Quiet) : ∃ w, s.Seen f.seq c w ∧ s.receive f =
      (((if ∃ p, s.engine.lastExit = some p ∧ p ≠ c.lastExit then w.takeExit c.lastExit else w).lostRefusal
        s.engine.answerTimer.isSome).statusHalt c).owedAdvance := by
  have he := (takeSequence_eq s f.seq).1
  obtain ⟨k1, k2, k3, k4, k5, k6, k7, k8⟩ := statusTaken_keeps s f.seq c
  obtain ⟨e1, e2⟩ := statusTaken_engine s f.seq c
  refine ⟨{ s.statusTaken f.seq c with
    engine := { (s.statusTaken f.seq c).engine with lastExit := some c.lastExit } },
    ⟨k1, k2, k3, k4, k5, k6, k7, k8, by rw [e1], e2, fun h => statusTaken_builder h f.seq c⟩, ?_⟩
  have jam (t : State) : t.statusJam c = t := if_neg (by simp [hq.jam])
  have ready (t : State) : t.statusNotReady c = t := if_neg (by simp [hq.notReadySeen, hq.formsOut, hq.coverOpen])
  rw [receive_status hb hp hk, ← hc, State.takeStatus]
  dsimp only
  rw [he, if_neg ho, jam, ready]
  show ((((s.statusTaken f.seq c).statusExit c).lostRefusal _).statusHalt c).owedAdvance = _
  congr 3
  have hl : (s.statusTaken f.seq c).engine.lastExit = s.engine.lastExit := by rw [e1]; rfl
  unfold State.statusExit
  dsimp only
  rw [hl]
  cases s.engine.lastExit with
  | none => rw [if_neg (by simp)]
  | some p =>
    by_cases hp : p ≠ c.lastExit
    · rw [if_pos ⟨p, rfl, hp⟩]
      exact if_pos hp
    · rw [if_neg fun ⟨_, e, h⟩ => hp (Option.some.inj e ▸ h)]
      exact if_neg hp

/-! ## The settlement behind a STATUS -/

/-- A settlement in which no rebuild is begun: what the engine's turn and the resending of SLEWs leave. -/
theorem settle_resends (old : State) {u : State} (hb : u.regs.resetBusy = false) (h : u.Composed)
    (hr : u.rebuildOrder = none) : ∃ x : State, (∃ st ho, x.engine = { u.engine with state := st, holdOwed := ho }) ∧
      x.linkOut = u.linkOut ∧ (State.settle old u).engine = (x.resendSlews Config.sentMax).engine ∧
      (State.settle old u).linkOut = (x.resendSlews Config.sentMax).linkOut ∧ (State.settle old u).builder = u.builder := by
  have hs : State.settle old u = (State.settleStatus old (u.settleImaging.settleComposer.settleEngine)).serveBus := by
    simp [State.settle, hb]
  obtain ⟨i1, i2, i3, i4, i5, i6⟩ := State.settleImaging_composed h
  have hst : u.startRebuild Config.sentMax = u := by simp [Config.sentMax, State.startRebuild, hr]
  have hi : u.settleImaging = u.cacheBoundary := by
    have hc : u.settleImaging = (u.startRebuild Config.sentMax).cacheBoundary :=
      State.checkForm_composed (by simpa using h.noCheck)
    rw [hc, hst]
  have hc : u.settleImaging.Composed :=
    ⟨by rw [i2]; exact h.waits, by rw [i1]; exact h.readFailed, by rw [i3]; exact h.noCheck⟩
  obtain ⟨st, ho, he⟩ := engineTurn_engine u.cacheBoundary.grant
  refine ⟨u.cacheBoundary.grant.holdAtBoundary.lookAtGate, ⟨st, ho, he.trans (by simp)⟩, by simp, ?_, ?_, ?_⟩ <;>
    rw [hs, State.settleComposer_composed hc, hi] <;> simp [State.settleEngine]

end Sys2Proof.Machine
end
section
/-! PROOF. STATUS (R33, R137, R165, R167, R169, R175 to R177, R180, R186, R192, R193). -/

namespace Sys2Proof.Machine

/-! ## Steps that have nothing to do -/

theorem lostRefusal_unanswered (s : State) : s.lostRefusal false = s := by
  unfold State.lostRefusal
  cases s.engine.sent with
  | nil => rfl
  | cons e rest => exact if_neg (by simp)

theorem lostRefusal_accepted {s : State} (h : s.engine.sent = []) (b : Bool) : s.lostRefusal b = s := by
  simp only [State.lostRefusal, h]

theorem statusHalt_unhalting {s : State} (h : s.engine.halting = false) (c : Condition) : s.statusHalt c = s :=
  if_neg (by simp [h])

theorem owedAdvance_none {s : State} (h : s.panel.lineOwed = false) : s.owedAdvance = s := if_neg (by simp [h])

theorem dropStale_calm {s : State} (h : s.refusalWaits = false) : s.dropStale = s := by
  have hs : s.engine.sent.any s.stale = false := by
    rw [List.any_eq_false]
    intro m hm
    have := (List.any_eq_false.mp h) m hm
    simp [State.stale, this]
  rw [State.dropStale, hs]
  rfl

section
variable {s w : State} {q : BitVec 8} {c : Condition}

/-- No refusal waits after the acceptance where none did before. -/
theorem State.Seen.calm (h : s.Seen q c w) (hr : s.refusalWaits = false) : w.refusalWaits = false := by
  have hs : w.engine.sent = s.engine.sent.filter fun m => !seqAtOrBefore m.seq c.lastAccepted := by rw [h.engine]; rfl
  rw [State.refusalWaits, hs, List.any_eq_false]
  intro m hm
  exact (List.any_eq_false.mp hr) m (List.mem_filter.mp hm).1

theorem State.Seen.accepted (h : s.Seen q c w) (ha : ∀ e ∈ s.engine.sent, seqAtOrBefore e.seq c.lastAccepted = true) :
    w.engine.sent = [] := by
  rw [h.engine]
  refine List.filter_eq_nil_iff.mpr fun m hm => ?_
  simp [ha m hm]

theorem State.Seen.composed (h : s.Seen q c w) (hc : s.Composed) : w.Composed :=
  ⟨by rw [h.comp]; exact hc.waits, by rw [h.sc]; exact hc.readFailed, by rw [h.form]; exact hc.noCheck⟩

theorem State.Seen.busy (h : s.Seen q c w) (hb : s.regs.resetBusy = false) : w.regs.resetBusy = false := by
  rw [h.regs]; exact hb

/-! ## The last exit (R176) -/

theorem State.Seen.exits {i : Fin 4} {rest : List (Fin 4)} (h : s.Seen q c w) (hr : s.refusalWaits = false)
    (hl : s.store.imaging = i :: rest) (hs : (s.slot i).state = .sent)
    (hq : (s.slot i).pageSeq = some c.lastExit) : w.takeExit c.lastExit = w.freeExited i := by
  have hslot : w.slot i = s.slot i := State.slot_congr h.store i
  rw [takeExit_oldest (by rw [h.store]; exact hl) (by rw [hslot]; exact hs) (by rw [hslot]; exact hq)]
  refine dropStale_calm ?_
  have e : (w.freeExited i).engine = w.engine := by simp
  rw [State.refusalWaits, e]
  exact h.calm hr

end

/-- What a settlement with no refusal waiting leaves of a state `u`. -/
theorem settle_quiet (old : State) {u : State} (hb : u.regs.resetBusy = false) (hc : u.Composed)
    (hr : u.refusalWaits = false) : (State.settle old u).store = u.store ∧ (State.settle old u).linkOut = u.linkOut ∧
    (State.settle old u).panel = u.panel ∧
    ∃ st ho, (State.settle old u).engine = { u.engine with state := st, holdOwed := ho } := by
  obtain ⟨k1, -, -, -⟩ := State.settle_composed old hb hc
  obtain ⟨c1, -, c3, -, -, c6, -⟩ := State.settle_calm old hb hc hr
  obtain ⟨st, ho, e⟩ := engineTurn_engine u
  exact ⟨k1, c1, c3, st, ho, c6.trans e⟩

section
variable {s w : State} {q : BitVec 8} {c : Condition}

/-- A STATUS whose last exit is an EXIT. -/
theorem settle_statusExit {i : Fin 4} {rest : List (Fin 4)} (h : s.Seen q c w) (hb : s.regs.resetBusy = false)
    (hc : s.Composed) (hr : s.refusalWaits = false) (hl : s.store.imaging = i :: rest) (hi : i ∉ rest)
    (hs : (s.slot i).state = .sent) (hq : (s.slot i).pageSeq = some c.lastExit) :
    let t := State.settle s (w.takeExit c.lastExit)
    t.slot i = Slot.free ∧ t.store.imaging = rest ∧ t.store.poolUsed = s.store.poolUsed - (s.slot i).strikes.length ∧
    ((s.stream (s.slot i).stream).heldExits = 0 → (t.stream (s.slot i).stream).release = (s.slot i).releaseOff) ∧
    (t.stream (s.slot i).stream).pagesExited = satAdd (s.stream (s.slot i).stream).pagesExited 1 ∧
    t.counts.pagesExited = satAdd s.counts.pagesExited 1 ∧ t.engine.lastExit = some c.lastExit ∧
    (∀ k, k ≠ i → t.slot k = s.slot k) ∧ t.linkOut = s.linkOut ∧ t.hostMem = s.hostMem := by
  have hslot (k : Fin 4) : w.slot k = s.slot k := State.slot_congr h.store k
  have hf : w.PageFreed i rest (w.freeExited i) := freeExited_pageFreed (by rw [h.store]; exact hl) hi
  have he : (w.freeExited i).engine = w.engine := by simp
  rw [h.exits hr hl hs hq]
  have hub : (w.freeExited i).regs.resetBusy = false := by rw [hf.regs]; exact h.busy hb
  have huc : (w.freeExited i).Composed :=
    ⟨by rw [hf.comp]; exact (h.composed hc).waits, hf.readFailed.trans (h.composed hc).readFailed,
      by rw [hf.form]; exact (h.composed hc).noCheck⟩
  obtain ⟨k1, k2, -, st, ho, k4⟩ := settle_quiet s hub huc (by rw [State.refusalWaits, he]; exact h.calm hr)
  obtain ⟨_, _, ks⟩ := settle_stream s hub huc (s.slot i).stream
  obtain ⟨-, -, e3, -⟩ := settle_keepsReports s (w.freeExited i)
  have hm : (w.freeExited i).stream (s.slot i).stream = (s.stream (s.slot i).stream).exited (s.slot i) := by
    rw [hf.stream, hslot, if_pos rfl, State.stream_congr h.sc]
  rw [hm] at ks
  refine ⟨?_, by rw [k1]; exact hf.imaging, ?_, fun h0 => (core_release ks).trans (if_pos h0),
    (core_pagesExited ks).trans rfl, ?_, ?_, fun k hk => ?_, ?_, ?_⟩
  · rw [State.slot_congr k1, hf.slot, if_pos rfl]
  · rw [k1, hf.pool, hslot, h.store]
  · rw [e3, (freeExited_store w i).2.2.2, h.counts]
  · rw [k4, he, h.engine]
  · rw [State.slot_congr k1, hf.slot, if_neg (Ne.symm hk), hslot]
  · rw [k2]
    exact (by simp : (w.freeExited i).linkOut = w.linkOut).trans h.linkOut
  · exact (by simp : (State.settle s (w.freeExited i)).hostMem = (w.freeExited i).hostMem).trans
      (hf.hostMem.trans h.hostMem)

/-! ## The end of a halt (R180) -/

theorem settle_statusHalt (h : s.Seen q c w) (hb : s.regs.resetBusy = false) (hc : s.Composed)
    (hr : s.refusalWaits = false) (hh : s.engine.halting = true) : let t := State.settle s (w.statusHalt c)
    (c.inMotion = false → t.engine.halting = false ∧ t.engine.alignment = .set ∧
      t.linkOut = s.linkOut ++ [⟨s.engine.frameSeq, .top⟩]) ∧
    (c.inMotion = true → t.engine.halting = true ∧ t.engine.alignment = s.engine.alignment ∧ t.linkOut = s.linkOut) ∧
    t.store = s.store ∧ t.hostMem = s.hostMem := by
  have hw : w.engine.halting = true := by rw [h.engine]; exact hh
  cases hm : c.inMotion with
  | true =>
    have e : w.statusHalt c = w := if_neg (by simp [hm])
    rw [e]
    obtain ⟨k1, k2, -, st, ho, k4⟩ := settle_quiet s (h.busy hb) (h.composed hc) (h.calm hr)
    refine ⟨nofun, fun _ => ⟨by rw [k4]; exact hw, by rw [k4, h.engine]; rfl, k2.trans h.linkOut⟩, k1.trans h.store, ?_⟩
    exact (by simp : (State.settle s w).hostMem = w.hostMem).trans h.hostMem
  | false =>
    let u : State := { w.sendTop with engine := { w.sendTop.engine with halting := false } }
    have e : w.statusHalt c = u := if_pos ⟨hw, hm⟩
    rw [e]
    obtain ⟨k1, k2, -, st, ho, k4⟩ := settle_quiet s (u := u) (h.busy hb)
      ⟨(h.composed hc).waits, (h.composed hc).readFailed, (h.composed hc).noCheck⟩ (h.calm hr)
    refine ⟨fun _ => ⟨by rw [k4], by rw [k4]; rfl, ?_⟩, nofun, k1.trans h.store, ?_⟩
    · rw [k2]
      show w.linkOut ++ [⟨w.engine.frameSeq, .top⟩] = _
      rw [h.linkOut, h.engine]
      rfl
    · exact (by simp : (State.settle s u).hostMem = u.hostMem).trans h.hostMem

/-! ## An owed LINE advance (R186) -/

theorem settle_owedAdvance (h : s.Seen q c w) (hb : s.regs.resetBusy = false) (hc : s.Composed)
    (ho : s.panel.lineOwed = true) (ha : ∀ e ∈ s.engine.sent, seqAtOrBefore e.seq c.lastAccepted = true) :
    let t := State.settle s w.owedAdvance
    (1 ≤ c.bandRoom - s.engine.handed → s.paperFree = true → t.panel.lineOwed = false ∧ t.engine.alignment = .off ∧
      t.engine.bandRoom = c.bandRoom - s.engine.handed - 1 ∧
      t.linkOut = s.linkOut ++ [⟨s.engine.frameSeq, .slew s.engine.bandSeq s.engine.pageSeq {
        slot := none
        row := 0
        count := (match s.engine.mountedPitch with | some l => 300 / l | none => 50)
        body := .slew
        marks := ⟨false, false, true⟩
        strobe := none }⟩]) ∧
    (1 ≤ c.bandRoom - s.engine.handed → s.paperFree = false → t.panel.lineOwed = false ∧ t.linkOut = s.linkOut) ∧
    (c.bandRoom ≤ s.engine.handed → t.panel.lineOwed = true ∧ t.linkOut = s.linkOut) ∧
    t.store = s.store ∧ t.hostMem = s.hostMem := by
  have hsent := h.accepted ha
  have hroom : w.engine.bandRoom = c.bandRoom - s.engine.handed := by rw [h.engine]; rfl
  have hcalm : w.refusalWaits = false := by rw [State.refusalWaits, hsent]; rfl
  have hpaper : w.paperFree = s.paperFree := by
    have h1 : w.engine.state = s.engine.state := by rw [h.engine]; rfl
    have h2 : w.anyBegun = s.anyBegun := by simp only [State.anyBegun, State.slot, h.store]
    rw [State.paperFree, h1, h2]
    rfl
  have hcomp := h.composed hc
  by_cases hr : 1 ≤ c.bandRoom - s.engine.handed
  · have hcan : w.canHand = true := by
      simp only [State.canHand, hroom, hsent]
      exact decide_eq_true ⟨hr, by decide⟩
    let v : State := { w with panel := { w.panel with lineOwed := false } }
    have hv : w.owedAdvance = if w.paperFree then v.sendAdvance else v := if_pos ⟨by rw [h.panel]; exact ho, hcan⟩
    cases hp : s.paperFree with
    | true =>
      rw [hv, hpaper, if_pos hp]
      obtain ⟨k1, k2, k3, st, ho', k4⟩ := settle_quiet s (u := v.sendAdvance) (h.busy hb)
        ⟨hcomp.waits, hcomp.readFailed, hcomp.noCheck⟩ (by
          show (w.engine.sent ++ [_]).any (·.awaiting) = false
          rw [hsent]
          rfl)
      refine ⟨fun _ _ => ⟨by rw [k3]; rfl, by rw [k4]; rfl, ?_, ?_⟩, nofun, fun h0 => ?_, k1.trans h.store, ?_⟩
      · rw [k4]
        show w.engine.bandRoom - 1 = _
        rw [hroom]
      · rw [k2]
        show w.linkOut ++ [⟨w.engine.frameSeq, .slew w.engine.bandSeq w.engine.pageSeq
          { slot := none, row := 0, count := w.engine.advanceRows, body := .slew, marks := ⟨false, false, true⟩
            strobe := none }⟩] = _
        rw [h.linkOut, h.engine]
        rfl
      · omega
      · exact (by simp : (State.settle s v.sendAdvance).hostMem = v.sendAdvance.hostMem).trans h.hostMem
    | false =>
      rw [hv, hpaper, if_neg (by simp [hp])]
      obtain ⟨k1, k2, k3, -⟩ := settle_quiet s (u := v) (h.busy hb) ⟨hcomp.waits, hcomp.readFailed, hcomp.noCheck⟩ hcalm
      refine ⟨fun _ => nofun, fun _ _ => ⟨by rw [k3], k2.trans h.linkOut⟩, fun h0 => ?_, k1.trans h.store, ?_⟩
      · omega
      · exact (by simp : (State.settle s v).hostMem = v.hostMem).trans h.hostMem
  · have hcan : w.canHand = false := by
      simp only [State.canHand, hroom]
      exact decide_eq_false fun h0 => hr h0.1
    have hv : w.owedAdvance = w := if_neg (by simp [hcan])
    rw [hv]
    obtain ⟨k1, k2, k3, -⟩ := settle_quiet s (h.busy hb) hcomp hcalm
    refine ⟨fun h0 => absurd h0 hr, fun h0 => absurd h0 hr, fun _ => ⟨?_, k2.trans h.linkOut⟩, k1.trans h.store, ?_⟩
    · rw [k3, h.panel]
      exact ho
    · exact (by simp : (State.settle s w).hostMem = w.hostMem).trans h.hostMem

/-! ## A STATUS with nothing more to do (R175) -/

theorem settle_seen (h : s.Seen q c w) (hb : s.regs.resetBusy = false) (hc : s.Composed)
    (ha : ∀ e ∈ s.engine.sent, seqAtOrBefore e.seq c.lastAccepted = true) : let t := State.settle s w
    t.engine.cond = c ∧ t.engine.sent = [] ∧ t.engine.bandRoom = c.bandRoom - s.engine.handed ∧ t.engine.handed = 0 ∧
    t.engine.lastExit = some c.lastExit ∧ t.engine.expected = some (q + 1) ∧
    t.counts.underruns = satAdd s.counts.underruns c.underruns ∧
    (∀ e, s.engine.expected = some e → t.counts.linkErrors = satAdd s.counts.linkErrors (q - e).toNat) ∧
    (s.engine.expected = none → t.counts.linkErrors = s.counts.linkErrors) ∧
    (s.engine.answerTimer ≠ none → t.engine.answerTimer = none ∧ t.engine.missed = 0) ∧
    (s.engine.answerTimer = none → t.engine.missed = s.engine.missed) ∧
    (s.gate = s.engine.state → s.engine.holdOwed = .none → t.engine.state = s.engine.state) ∧
    t.engine.alignment = s.engine.alignment ∧ t.store = s.store ∧ t.form = s.form ∧ t.linkOut = s.linkOut ∧
    t.hostMem = s.hostMem := by
  have hsent := h.accepted ha
  have hcalm : w.refusalWaits = false := by rw [State.refusalWaits, hsent]; rfl
  obtain ⟨k1, k2, -, st, ho, k4⟩ := settle_quiet s (h.busy hb) (h.composed hc) hcalm
  obtain ⟨-, f2, -, -⟩ := State.settle_composed s (h.busy hb) (h.composed hc)
  obtain ⟨-, -, -, -, hcounts, hengine, -⟩ := State.settle_calm s (h.busy hb) (h.composed hc) hcalm
  have hu : (State.settle s w).counts.underruns = w.counts.underruns := (congrArg DeviceCounts.underruns hcounts :)
  have hl : (State.settle s w).counts.linkErrors = w.counts.linkErrors := (congrArg DeviceCounts.linkErrors hcounts :)
  rw [h.counts] at hu hl
  refine ⟨by rw [k4, h.engine]; rfl, by rw [k4]; exact hsent, by rw [k4, h.engine]; rfl, by rw [k4, h.engine]; rfl,
    by rw [k4, h.engine], by rw [k4, h.engine]; rfl, hu, fun e he => by rw [hl, he], fun he => by rw [hl, he],
    fun hn => ⟨by rw [k4, h.engine]; rfl, ?_⟩, fun hn => ?_, fun hg hh => ?_, by rw [k4, h.engine]; rfl, k1.trans h.store,
    f2.trans h.form, k2.trans h.linkOut, (by simp : (State.settle s w).hostMem = w.hostMem).trans h.hostMem⟩
  · rw [k4, h.engine]
    exact if_pos (Option.isSome_iff_ne_none.mpr hn)
  · rw [k4, h.engine]
    exact if_neg (by simp [hn])
  · have hwg : w.gate = s.gate := gate_mounted (by rw [h.engine]; rfl) (by rw [h.engine]; rfl) h.store
    rw [hengine, State.engineStands (by rw [h.engine]; exact hh) (.inl (by rw [hwg, hg, h.engine]; rfl)), h.engine]
    rfl

end

end Sys2Proof.Machine
end
section
/-! PROOF. A message that no STATUS accepts is taken as refused (R137, R176, R177). -/

namespace Sys2Proof.Machine

/-! ## The rebuild of a refused BAND (R137) -/

theorem drawBand_work {s : State} {w : BandWork} (h : s.builder.work = some w) :
    ∃ v, s.drawBand.builder.work = some v ∧ v.rebuild = w.rebuild := by
  unfold State.drawBand
  rw [h]
  dsimp only
  split
  · exact ⟨w, h, rfl⟩
  · exact ⟨_, rfl, rfl⟩

/-- A rebuild drawn is in hand or offered. -/
theorem finishBand_rebuilds {s : State} {w : BandWork} {r : Rebuild} (h : s.builder.work = some w)
    (hr : w.rebuild = some r) : s.finishBand.builder.rebuilds r.seq = true := by
  obtain ⟨v, hv, hvr⟩ := drawBand_work h
  unfold State.finishBand
  dsimp only
  split
  · simp [State.judgeBand, hv, hvr, hr, BandBuilder.rebuilds]
  · simp [hv, hvr, hr, BandBuilder.rebuilds]

/-- With no flush under way, or one owed away from a band boundary, a rebuild is begun at once (R137, R148). -/
theorem orderRebuild_rebuilds {s : State} {m : SentMsg} {i : Fin 4} (hi : m.slot = some i)
    (hf : s.cache.flush = .none ∨ (s.cache.flush = .owed ∧ s.atBoundary = false)) :
    (s.orderRebuild m).builder.rebuilds m.seq = true := by
  have hh : s.cacheBoundary.cache.holdsBands = false := by
    have aside (c : GlyphCache) : c.putInForce.flush = c.flush := by
      unfold GlyphCache.putInForce
      split <;> rfl
    unfold State.cacheBoundary
    rcases hf with hf | ⟨hf, hb⟩
    · split
      · rw [GlyphCache.holdsBands, GlyphCache.atBoundary, hf]
        dsimp only
        rw [aside, hf]
        rfl
      · rw [GlyphCache.holdsBands, hf]
        rfl
    · rw [if_neg (by simp [hb]), GlyphCache.holdsBands, hf]
      rfl
  have e : s.orderRebuild m = s.cacheBoundary.rebuild m := by
    unfold State.orderRebuild
    dsimp only
    rw [hh]
    rfl
  rw [e]
  unfold State.rebuild
  rw [hi]
  exact finishBand_rebuilds (r := ⟨m.seq, m.marks⟩) rfl rfl

/-! ## The message taken as refused (R177) -/

/-- A message refused, which waits for its resend. -/
def SentMsg.asRefused (e : SentMsg) : SentMsg := { e with refused := true, awaiting := true }

/-- The state in which the refusal of message `q` has been counted and its message marked. -/
def State.refused (s : State) (q : BitVec 16) : State :=
  ({ s with counts := { s.counts with refusals := satAdd s.counts.refusals 1 } } : State).markRefused q

section
variable {w : State} {e : SentMsg} {rest : List SentMsg}

theorem markRefused_oldest (hs : w.engine.sent = e :: rest) (hd : ∀ m ∈ rest, m.seq ≠ e.seq) :
    (w.refused e.seq).engine.sent = e.asRefused :: rest := by
  show w.engine.sent.map (fun m => if m.seq = e.seq then { m with refused := true, awaiting := true } else m) = _
  rw [hs, List.map_cons, if_pos rfl]
  exact congrArg (e.asRefused :: ·) ((List.map_congr_left fun m hm => if_neg (hd m hm)).trans (List.map_id rest))

theorem takeRefusal_oldest (hs : w.engine.sent = e :: rest) (hr : e.refused = false) : w.takeRefusal e.seq =
    if e.isBand = true ∧ w.live e = false then
      ({ w with counts := { w.counts with refusals := satAdd w.counts.refusals 1 } } : State).unsend e.seq
    else if e.isBand then (w.refused e.seq).orderRebuild e else w.refused e.seq := by
  have hf : w.engine.sent.find? (fun m => decide (m.seq = e.seq)) = some e := by simp [hs]
  unfold State.takeRefusal
  simp only [hf, hr]
  rfl

/-- What a refusal leaves of the state but the messages and the Builder. -/
theorem takeRefusal_leaves (hs : w.engine.sent = e :: rest) (hr : e.refused = false) : let u := w.takeRefusal e.seq
    u.regs = w.regs ∧ u.sc = w.sc ∧ u.comp = w.comp ∧ u.form = w.form ∧ u.store = w.store ∧ u.hostMem = w.hostMem ∧
    u.panel = w.panel ∧ u.engine.halting = w.engine.halting ∧ u.counts.refusals = satAdd w.counts.refusals 1 := by
  rw [takeRefusal_oldest hs hr]
  dsimp only
  split
  · exact ⟨rfl, rfl, rfl, rfl, rfl, rfl, rfl, rfl, rfl⟩
  · split <;> simp [State.refused, State.markRefused]

/-- The settlement behind a refused BAND whose rebuild is in hand or offered sends nothing. -/
theorem settle_rebuilt (old : State) {u : State} (hb : u.regs.resetBusy = false) (hc : u.Composed)
    (hs : u.engine.sent = e.asRefused :: rest) (hq : ∀ m ∈ rest, m.awaiting = false) (hband : e.isBand = true)
    (hbuild : u.builder.rebuilds e.seq = true) : (State.settle old u).builder.rebuilds e.seq = true ∧
    (State.settle old u).linkOut = u.linkOut ∧ e.asRefused ∈ (State.settle old u).engine.sent := by
  have hro : u.rebuildOrder = none := by
    rw [State.rebuildOrder, hs, List.find?_cons_of_neg (by simp [SentMsg.asRefused, hbuild])]
    exact List.find?_eq_none.mpr fun m hm => by simp [hq m hm]
  obtain ⟨x, ⟨st, ho, hx⟩, k2, k3, k4, k5⟩ := settle_resends old hb hc hro
  have hsx : x.engine.sent = e.asRefused :: rest := by rw [hx]; exact hs
  have hf : x.engine.sent.find? (fun m => m.awaiting && !m.isBand) = none := by
    rw [hsx, List.find?_cons_of_neg (by simp [SentMsg.asRefused, hband])]
    exact List.find?_eq_none.mpr fun m hm => by simp [hq m hm]
  have hrs : x.resendSlews Config.sentMax = x := by simp [Config.sentMax, State.resendSlews, hf]
  rw [hrs] at k3 k4
  refine ⟨by rw [k5]; exact hbuild, k4.trans k2, ?_⟩
  rw [k3, hsx]
  exact List.mem_cons_self

theorem resend_slew (s : State) (m : SentMsg) : (s.resend m m.slew).linkOut =
      s.linkOut ++ [⟨s.engine.frameSeq, .slew m.seq m.pageSeq m.slew⟩] ∧
    (s.resend m m.slew).engine.bandRoom = s.engine.bandRoom - 1 ∧ (s.resend m m.slew).engine.sent =
      s.engine.sent.map fun e => if e.seq = m.seq then { e with sentAt := s.now, awaiting := false } else e := by
  unfold State.resend
  dsimp only
  split <;> exact ⟨rfl, rfl, rfl⟩

/-- The settlement behind a refused SLEW resends it where there is band room. -/
theorem settle_reslewed (old : State) {u : State} (hb : u.regs.resetBusy = false) (hc : u.Composed)
    (hs : u.engine.sent = e.asRefused :: rest) (hq : ∀ m ∈ rest, m.awaiting = false)
    (hslew : e.isBand = false) (hroom : 1 ≤ u.engine.bandRoom) :
    (State.settle old u).linkOut = u.linkOut ++ [⟨u.engine.frameSeq, .slew e.seq e.pageSeq e.slew⟩] ∧
    (State.settle old u).engine.bandRoom = u.engine.bandRoom - 1 ∧
    ∃ m ∈ (State.settle old u).engine.sent, m.seq = e.seq ∧ m.refused = true ∧ m.awaiting = false := by
  have hro : u.rebuildOrder = none := by
    rw [State.rebuildOrder, hs, List.find?_cons_of_neg (by simp [SentMsg.asRefused, hslew])]
    exact List.find?_eq_none.mpr fun m hm => by simp [hq m hm]
  obtain ⟨x, ⟨st, ho, hx⟩, k2, k3, k4, -⟩ := settle_resends old hb hc hro
  have hsx : x.engine.sent = e.asRefused :: rest := by rw [hx]; exact hs
  have hf : x.engine.sent.find? (fun m => m.awaiting && !m.isBand) = some e.asRefused := by
    rw [hsx]
    exact List.find?_cons_of_pos (by simp [SentMsg.asRefused, hslew])
  have hroomx : 1 ≤ x.engine.bandRoom := by rw [hx]; exact hroom
  obtain ⟨r1, r2, r3⟩ := resend_slew x e.asRefused
  have hnone : (x.resend e.asRefused e.asRefused.slew).engine.sent.find? (fun m => m.awaiting && !m.isBand) = none := by
    rw [r3, hsx]
    refine List.find?_eq_none.mpr fun m hm => ?_
    obtain ⟨m', hm', rfl⟩ := List.mem_map.mp hm
    rcases List.mem_cons.mp hm' with rfl | hm'
    · simp
    · have := hq m' hm'
      split <;> simp [this]
  have hrs : x.resendSlews Config.sentMax = x.resend e.asRefused e.asRefused.slew := by
    simp only [Config.sentMax, State.resendSlews, hf, if_pos hroomx, hnone]
  rw [hrs] at k3 k4
  refine ⟨?_, ?_, ?_⟩
  · rw [k4, r1, k2, hx]
    rfl
  · rw [k3, r2, hx]
  · rw [k3, r3, hsx]
    exact ⟨_, List.mem_map_of_mem List.mem_cons_self, by rw [if_pos rfl]; exact ⟨rfl, rfl, rfl⟩⟩

end

/-- The oldest message that a poll's answer does not accept is taken as refused. -/
theorem settle_lostRefusal {s w : State} {q : BitVec 8} {c : Condition} {e : SentMsg} {rest : List SentMsg}
    (h : s.Seen q c w) (hb : s.regs.resetBusy = false) (hc : s.Composed) (hr : s.refusalWaits = false)
    (hs : s.engine.sent = e :: rest) (hd : ∀ m ∈ rest, m.seq ≠ e.seq) (ha : seqAtOrBefore e.seq c.lastAccepted = false)
    (he : e.refused = false) : let t := State.settle s (w.takeRefusal e.seq)
    t.counts.refusals = satAdd s.counts.refusals 1 ∧
    (∀ i, e.isBand = true → e.slot = some i → (s.slot i).state ≠ .free → (s.slot i).pageSeq = some e.pageSeq →
      s.cache.flush = .none ∨ (s.cache.flush = .owed ∧ s.atBoundary = false) →
      t.builder.rebuilds e.seq = true ∧ t.linkOut = s.linkOut ∧
        ∃ m ∈ t.engine.sent, m.seq = e.seq ∧ m.refused = true ∧ m.awaiting = true) ∧
    (e.isBand = false → 1 ≤ c.bandRoom - s.engine.handed →
      t.linkOut = s.linkOut ++ [⟨s.engine.frameSeq, .slew e.seq e.pageSeq e.slew⟩] ∧
        t.engine.bandRoom = c.bandRoom - s.engine.handed - 1 ∧
        ∃ m ∈ t.engine.sent, m.seq = e.seq ∧ m.refused = true ∧ m.awaiting = false) ∧
    t.store = s.store ∧ t.hostMem = s.hostMem := by
  obtain ⟨b1, b2⟩ := h.builder hr
  let rest' := rest.filter fun m => !seqAtOrBefore m.seq c.lastAccepted
  have hws : w.engine.sent = e :: rest' := by
    rw [h.engine]
    show s.engine.sent.filter _ = _
    rw [hs, List.filter_cons_of_pos (by simp [ha])]
  have hmem : ∀ m ∈ rest', m ∈ rest := fun m hm => (List.mem_filter.mp hm).1
  have hq : ∀ m ∈ rest', m.awaiting = false := fun m hm => by
    have := (List.any_eq_false.mp hr) m (by rw [hs]; exact List.mem_cons_of_mem _ (hmem m hm))
    simpa using this
  have hmark := markRefused_oldest hws fun m hm => hd m (hmem m hm)
  obtain ⟨u1, u2, u3, u4, u5, u6, -, -, u7⟩ := takeRefusal_leaves hws he
  have hub : (w.takeRefusal e.seq).regs.resetBusy = false := by rw [u1]; exact h.busy hb
  have huc : (w.takeRefusal e.seq).Composed :=
    ⟨by rw [u3]; exact (h.composed hc).waits, by rw [u2]; exact (h.composed hc).readFailed,
      by rw [u4]; exact (h.composed hc).noCheck⟩
  obtain ⟨k1, -, -, -⟩ := State.settle_composed s hub huc
  obtain ⟨-, -, -, e4⟩ := settle_keepsReports s (w.takeRefusal e.seq)
  refine ⟨by rw [e4, u7, h.counts], fun i hband hi hfree hpage hflush => ?_, fun hslew hroom => ?_,
    k1.trans (u5.trans h.store), (by simp : (State.settle s (w.takeRefusal e.seq)).hostMem =
      (w.takeRefusal e.seq).hostMem).trans (u6.trans h.hostMem)⟩
  · have hlive : w.live e = true := by
      simp only [State.live, hi, State.slot_congr h.store]
      exact decide_eq_true ⟨hfree, hpage⟩
    have hu : w.takeRefusal e.seq = (w.refused e.seq).orderRebuild e := by
      rw [takeRefusal_oldest hws he, if_neg (by simp [hlive]), if_pos hband]
    have hbd : (w.refused e.seq).atBoundary = s.atBoundary := by
      show decide (w.builder.state = _ ∨ w.builder.state = _) = _
      rw [b1]
      rfl
    have hca : (w.refused e.seq).cache = s.cache := b2
    have hreb := orderRebuild_rebuilds (s := w.refused e.seq) hi (by rw [hca, hbd]; exact hflush)
    rw [hu] at hub huc ⊢
    obtain ⟨t1, t2, t3⟩ := settle_rebuilt s hub huc (e := e) (rest := rest') (by simpa using hmark) hq hband hreb
    refine ⟨t1, t2.trans ?_, _, t3, rfl, rfl, rfl⟩
    exact (by simp : ((w.refused e.seq).orderRebuild e).linkOut = (w.refused e.seq).linkOut).trans h.linkOut
  · have hu : w.takeRefusal e.seq = w.refused e.seq := by
      rw [takeRefusal_oldest hws he, if_neg (by simp [hslew]), if_neg (by simp [hslew])]
    rw [hu] at hub huc ⊢
    have hroom' : (w.refused e.seq).engine.bandRoom = c.bandRoom - s.engine.handed := by
      show w.engine.bandRoom = _
      rw [h.engine]
      rfl
    obtain ⟨t1, t2, t3⟩ := settle_reslewed s hub huc hmark hq hslew (by rw [hroom']; exact hroom)
    refine ⟨?_, by rw [t2, hroom'], t3⟩
    rw [t1]
    show w.linkOut ++ [⟨w.engine.frameSeq, _⟩] = _
    rw [h.linkOut, h.engine]
    rfl

theorem exec_status {s u : State} {f : RxFrame} (h : s.receive f = u) : exec (.status f) s = .next (State.settle s u) := by
  rw [← h]
  rfl

/-- A last exit that is the first, or the one before, is no EXIT (R176). -/
theorem lastExit_same {s : State} {x : BitVec 8} (h : s.engine.lastExit = none ∨ s.engine.lastExit = some x) :
    ¬ ∃ p, s.engine.lastExit = some p ∧ p ≠ x := by
  rintro ⟨p, h1, h2⟩
  rcases h with h | h
  · exact nomatch h1.symm.trans h
  · exact h2 (Option.some.inj (h1.symm.trans h))

/-- Settles O54: the fields and the bits of a STATUS, then its last steps one by one. -/
theorem statusIsTaken : Obligations.StatusIsTaken := by
  unfold Obligations.StatusIsTaken
  refine ⟨fun _ _ _ => ⟨rfl, rfl⟩, fun w0 w1 => ?_, seqAtOrBefore_iff, fun f => ?_, ?_, ?_⟩
  · exact ⟨rfl, rfl, rfl, rfl, rfl, rfl, rfl, conditionOf_fields w0 w1⟩
  · rw [passes_iff]
    refine and_congr_right fun _ => and_congr_right fun _ => ⟨fun h => ?_, fun ⟨bits, h1, h2, h3, h4, h5, h6⟩ => ?_⟩
    · obtain ⟨b1, b2, b3, b4, b5⟩ := frameBits_at f.kind f.seq f.length f.payload
      exact ⟨_, b1, b2, b3, b4, b5, h⟩
    · have hu : FrameBitsAt f.kind f.seq f.length f.payload bits := ⟨h1, h2, h3, h4, h5⟩
      rw [h6, hu.unique (frameBits_at ..)]
  · intro f c s hb hp hk hc ho hjam hready hforms hcover hcomp hr
    obtain ⟨w, hw, hrec⟩ := receive_quiet hb hp hk hc ho ⟨hjam, hready, hforms, hcover⟩
    have hpanel : w.panel.lineOwed = s.panel.lineOwed := by rw [hw.panel]
    have hhalt : w.engine.halting = s.engine.halting := by rw [hw.engine]; rfl
    refine ⟨fun i rest p hlast hne hl hi hs hq hat hhalting howed => ?_, fun hlast => ?_⟩
    · have hx := hw.exits hr hl hs hq
      rw [if_pos ⟨p, hlast, hne⟩, hat, Option.isSome_none, lostRefusal_unanswered,
        statusHalt_unhalting (by rw [hx]; simpa [hhalt] using hhalting),
        owedAdvance_none (by rw [hx]; simpa [hpanel] using howed)] at hrec
      exact ⟨_, exec_status hrec, settle_statusExit hw hb hcomp hr hl hi hs hq⟩
    · rw [if_neg (lastExit_same hlast)] at hrec
      refine ⟨fun e rest hs hd ha he hat hpoll hhalting howed => ?_, fun hhalting hat howed => ?_,
        fun howed hat hhalting ha => ?_⟩
      · have hws : ∃ more, w.engine.sent = e :: more := by
          rw [hw.engine]
          exact ⟨_, (congrArg _ hs).trans (List.filter_cons_of_pos (by simp [ha]))⟩
        obtain ⟨more, hws⟩ := hws
        have hlost : w.lostRefusal s.engine.answerTimer.isSome = w.takeRefusal e.seq := by
          simp only [State.lostRefusal, hws]
          exact if_pos ⟨Option.isSome_iff_ne_none.mpr hat, he, by rw [hw.engine]; exact hpoll⟩
        obtain ⟨-, -, -, -, -, -, u7, u8, -⟩ := takeRefusal_leaves hws he
        rw [hlost, statusHalt_unhalting (u8.trans (hhalt.trans hhalting)),
          owedAdvance_none (by rw [u7, hpanel]; exact howed)] at hrec
        exact ⟨_, exec_status hrec, settle_lostRefusal hw hb hcomp hr hs hd ha he⟩
      · have hp' : (w.statusHalt c).panel = w.panel := by
          unfold State.statusHalt
          split <;> rfl
        rw [hat, Option.isSome_none, lostRefusal_unanswered,
          owedAdvance_none (by rw [hp', hpanel]; exact howed)] at hrec
        exact ⟨_, exec_status hrec, settle_statusHalt hw hb hcomp hr hhalting⟩
      · rw [hat, Option.isSome_none, lostRefusal_unanswered, statusHalt_unhalting (hhalt.trans hhalting)] at hrec
        exact ⟨_, exec_status hrec, settle_owedAdvance hw hb hcomp howed ha⟩
  · intro f c s hb hp hk hc ho hjam hready hforms hcover hlast ha hhalting howed hcomp
    obtain ⟨w, hw, hrec⟩ := receive_quiet hb hp hk hc ho ⟨hjam, hready, hforms, hcover⟩
    rw [if_neg (lastExit_same hlast), lostRefusal_accepted (hw.accepted ha),
      statusHalt_unhalting (by rw [hw.engine]; exact hhalting), owedAdvance_none (by rw [hw.panel]; exact howed)] at hrec
    exact ⟨_, exec_status hrec, settle_seen hw hb hcomp ha⟩

end Sys2Proof.Machine
end
section
/-! SUPPORT. The codes of a page: their translation, a run written over them, a page number (R83, R84, R107, R108). -/

namespace Sys2Proof.Machine

/-! ## Translation (R83, R84) -/

theorem translateCode_cases (f : Form) (d : Directory) (face : Nat) (c : Byte) :
    let e := (f.translate.getD c.toNat 0).toNat
    let u := if face < d.count then face else 0
    (e = 0xFFFF → translateCode f d face c = (.blank, false)) ∧
      (e = 0xFFFE ∨ (e ≠ 0xFFFF ∧ (d.font u).count ≤ e) → translateCode f d face c = (.glyph 0 f.substitute, true)) ∧
      (e ≠ 0xFFFF → e ≠ 0xFFFE → e < (d.font u).count → translateCode f d face c = (.glyph u e, false)) := by
  intro e u
  have hdef : translateCode f d face c = if e = 0xFFFF then (.blank, false)
      else if e = 0xFFFE ∨ (d.font u).count ≤ e then (.glyph 0 f.substitute, true) else (.glyph u e, false) := rfl
  rw [hdef]
  refine ⟨fun h => if_pos h, fun h => ?_, fun h1 h2 h3 => ?_⟩
  · rw [if_neg (by omega), if_pos (h.imp id And.right)]
  · rw [if_neg h1, if_neg (by omega)]

/-! ## A run written over a strike's codes (R107) -/

theorem writeCodes_length {pos : Nat} (run codes : List Byte) :
    (writeCodes pos run codes).length = max codes.length (pos - 1 + run.length) := by
  simp only [writeCodes, List.length_append, List.length_take, List.length_drop, List.length_replicate]
  omega

theorem writeCodes_getD {pos : Nat} (hp : 1 ≤ pos) (run codes : List Byte) (k : Nat) :
    (writeCodes pos run codes).getD k 32 =
      if pos ≤ k + 1 ∧ k + 1 < pos + run.length then run.getD (k + 1 - pos) 32 else codes.getD k 32 := by
  let long := codes ++ List.replicate (pos - 1 + run.length - codes.length) (32 : Byte)
  have hlong (m : Nat) : long.getD m 32 = codes.getD m 32 := by
    by_cases hm : m < codes.length
    · exact List.getD_append _ _ _ _ hm
    · rw [List.getD_append_right _ _ _ _ (by omega), List.getD_eq_default codes _ (by omega)]
      by_cases h2 : m - codes.length < pos - 1 + run.length - codes.length
      · rw [List.getD_replicate _ h2]
      · exact List.getD_eq_default _ _ (by rw [List.length_replicate]; omega)
  have hlen : pos - 1 + run.length ≤ long.length := by
    simp only [long, List.length_append, List.length_replicate]
    omega
  have hw : writeCodes pos run codes = long.take (pos - 1) ++ run ++ long.drop (pos - 1 + run.length) := rfl
  have hfront : (long.take (pos - 1)).length = pos - 1 := by rw [List.length_take]; omega
  have hfront2 : (long.take (pos - 1) ++ run).length = pos - 1 + run.length := by rw [List.length_append, hfront]
  rw [hw]
  by_cases h1 : pos ≤ k + 1
  · by_cases h2 : k + 1 < pos + run.length
    · rw [if_pos ⟨h1, h2⟩, List.getD_append _ _ _ _ (by omega), List.getD_append_right _ _ _ _ (by omega), hfront]
      congr 1
      omega
    · rw [if_neg fun h => h2 h.2, List.getD_append_right _ _ _ _ (by omega), hfront2, ← hlong k]
      simp only [List.getD_eq_getElem?_getD, List.getElem?_drop]
      congr 2
      omega
  · rw [if_neg fun h => h1 h.1, List.getD_append _ _ _ _ (by omega), List.getD_append _ _ _ _ (by omega), ← hlong k]
    simp only [List.getD_eq_getElem?_getD]
    rw [List.getElem?_take_of_lt (by omega)]

/-! ## Page numbers (R108) -/

/-- What `ds` says of `n`, as its decimal digits: there is one, none too few and none too many, and each at its place. -/
structure DigitsOf (n : Nat) (ds : List Nat) : Prop where
  pos : 1 ≤ ds.length
  below : n < 10 ^ ds.length
  above : 1 < ds.length → 10 ^ (ds.length - 1) ≤ n
  digit : ∀ k < ds.length, ds.getD (ds.length - 1 - k) 0 = n / 10 ^ k % 10

theorem digitsOf_spec : ∀ (fuel n : Nat), n < 10 ^ fuel → 1 ≤ fuel → DigitsOf n (digitsOf fuel n)
  | 0, _, _, h => absurd h (by decide)
  | fuel + 1, n, hn, _ => by
    unfold digitsOf
    by_cases h : n < 10
    · rw [if_pos h]
      refine ⟨Nat.le_refl 1, by simpa using h, fun h => absurd h (Nat.lt_irrefl 1), fun k hk => ?_⟩
      obtain rfl : k = 0 := by simpa using hk
      simp
      omega
    · rw [if_neg h]
      have hf : 1 ≤ fuel := by
        rcases Nat.eq_zero_or_pos fuel with rfl | hf
        · omega
        · exact hf
      have ih := digitsOf_spec fuel (n / 10) (by rw [Nat.pow_succ] at hn; omega) hf
      obtain ⟨p1, p2, p3, p4⟩ := ih
      generalize digitsOf fuel (n / 10) = ds at p1 p2 p3 p4
      have hl : (ds ++ [n % 10]).length = ds.length + 1 := by simp
      refine ⟨by omega, ?_, fun _ => ?_, fun k hk => ?_⟩
      · rw [hl, Nat.pow_succ]
        omega
      · rw [hl, Nat.add_sub_cancel]
        obtain ⟨m, hm⟩ := Nat.exists_eq_add_of_le' p1
        rcases Nat.eq_zero_or_pos m with rfl | hmp
        · rw [hm]; omega
        · have := p3 (by omega)
          rw [hm, Nat.add_sub_cancel] at this
          rw [hm, Nat.pow_succ]
          omega
      · rw [hl] at hk ⊢
        rcases Nat.eq_zero_or_pos k with rfl | hkp
        · rw [List.getD_append_right _ _ _ _ (by omega)]
          simp
        · obtain ⟨m, rfl⟩ := Nat.exists_eq_add_of_le' hkp
          rw [List.getD_append _ _ _ _ (by omega), show ds.length + 1 - 1 - (m + 1) = ds.length - 1 - m by omega,
            p4 m (by omega), Nat.div_div_eq_div_mul, Nat.pow_succ, Nat.mul_comm]

theorem numberCodes_spec (width n : Nat) (hn : n < 1000000) : (numberCodes width n).length = width ∧
    (10 ^ width ≤ n → ∀ c ∈ numberCodes width n, c = 42) ∧
    (n < 10 ^ width → ∀ k, k < width → (numberCodes width n).getD (width - 1 - k) 0 =
      if k = 0 ∨ 10 ^ k ≤ n then BitVec.ofNat 8 (48 + n / 10 ^ k % 10) else 32) := by
  obtain ⟨p1, p2, p3, p4⟩ := digitsOf_spec 6 n hn (by decide)
  have hdef : numberCodes width n = if (digitsOf 6 n).length ≤ width then
      List.replicate (width - (digitsOf 6 n).length) (32 : Byte) ++ (digitsOf 6 n).map fun d => BitVec.ofNat 8 (48 + d)
    else List.replicate width (42 : Byte) := rfl
  rw [hdef]
  generalize digitsOf 6 n = ds at p1 p2 p3 p4 ⊢
  by_cases hw : ds.length ≤ width
  · rw [if_pos hw]
    have hlt : n < 10 ^ width := Nat.lt_of_lt_of_le p2 (Nat.pow_le_pow_right (by decide) hw)
    refine ⟨by simp; omega, fun h => absurd h (Nat.not_le.mpr hlt), fun _ k hk => ?_⟩
    by_cases hkl : k < ds.length
    · have hge : k = 0 ∨ 10 ^ k ≤ n := by
        rcases Nat.eq_zero_or_pos k with h0 | h0
        · exact .inl h0
        · exact .inr (Nat.le_trans (Nat.pow_le_pow_right (by decide) (by omega)) (p3 (by omega)))
      rw [if_pos hge, List.getD_append_right _ _ _ _ (by rw [List.length_replicate]; omega), List.length_replicate,
        show width - 1 - k - (width - ds.length) = ds.length - 1 - k by omega, ← p4 k hkl]
      have hin : ds.length - 1 - k < ds.length := by omega
      simp [List.getD_eq_getElem?_getD, List.getElem?_map, List.getElem?_eq_getElem hin]
    · have hno : ¬ (k = 0 ∨ 10 ^ k ≤ n) := by
        have := Nat.lt_of_lt_of_le p2 (Nat.pow_le_pow_right (n := 10) (by decide) (Nat.not_lt.mp hkl))
        omega
      rw [if_neg hno, List.getD_append _ _ _ _ (by rw [List.length_replicate]; omega), List.getD_replicate _ (by omega)]
  · rw [if_neg hw]
    refine ⟨List.length_replicate, fun _ c hc => List.eq_of_mem_replicate hc, fun h k hk => ?_⟩
    have h1 := p3 (by omega)
    have h2 := Nat.pow_le_pow_right (n := 10) (by decide) (show width ≤ ds.length - 1 by omega)
    omega

end Sys2Proof.Machine
end
section
/-! SUPPORT. Page turns: the pages a movement closes, the page it ends on, and the turn that finds no slot FREE (R58, R66,
R99, R104, R110). -/

namespace Sys2Proof.Machine

/-! ## The FREE slots in ring order (R99) -/

/-- The FREE slots in the order in which turns take them. -/
def State.freeRing (s : State) : List (Fin 4) :=
  (ringOrder s.store.lastOpened).filter fun k => decide ((s.slot k).state = .free)

/-- The composing page and the slots that turns open behind it. -/
def State.pages (s : State) (i : Fin 4) : List (Fin 4) := i :: s.freeRing

theorem freeSlot_eq_head (s : State) : s.freeSlot = s.freeRing.head? := (List.head?_filter ..).symm

theorem mem_freeRing (s : State) (k : Fin 4) : k ∈ s.freeRing ↔ (s.slot k).state = .free := by
  have h : ∀ l k : Fin 4, k ∈ ringOrder l := by decide
  simp [State.freeRing, h]

theorem freeRing_nodup (s : State) : s.freeRing.Nodup := by
  have h : ∀ l : Fin 4, (ringOrder l).Nodup := by decide
  exact (h _).filter _

theorem pages_nodup {s : State} {i : Fin 4} (h : (s.slot i).state ≠ .free) : (s.pages i).Nodup :=
  List.nodup_cons.mpr ⟨fun k => h ((mem_freeRing s i).mp k), freeRing_nodup s⟩

theorem freeRing_congr {s t : State} (ho : t.store.lastOpened = s.store.lastOpened)
    (hs : ∀ k, (t.slot k).state = .free ↔ (s.slot k).state = .free) : t.freeRing = s.freeRing := by
  simp only [State.freeRing, ho, hs]

/-- Where the first FREE slot has been opened, the others follow in the same order. -/
theorem freeRing_tail {s t : State} {f : Fin 4} {fs : List (Fin 4)} (h : s.freeRing = f :: fs)
    (ho : t.store.lastOpened = f) (hs : ∀ k, (t.slot k).state = .free ↔ (s.slot k).state = .free ∧ k ≠ f) :
    t.freeRing = fs := by
  have key : ∀ (l f : Fin 4) (p : Fin 4 → Bool), ((ringOrder l).filter p).head? = some f →
      (ringOrder f).filter (fun k => p k && decide (k ≠ f)) = ((ringOrder l).filter p).tail := by decide
  have k := key s.store.lastOpened f (fun k => decide ((s.slot k).state = .free)) (by
    show s.freeRing.head? = _
    rw [h]; rfl)
  have k' : (ringOrder f).filter (fun k => decide ((s.slot k).state = .free) && decide (k ≠ f)) = fs := by
    rw [k]
    show s.freeRing.tail = fs
    rw [h]; rfl
  rw [← k', State.freeRing, ho]
  refine List.filter_congr fun x _ => ?_
  simp only [hs, Bool.decide_and]

/-! ## The page closed at a turn (R104, R110) -/

/-- What a close as a turn makes it leaves of a page. -/
def State.shut (s : State) (sl : Slot) : Slot :=
  { (s.closedSlot sl.copy.length sl).finalEntry with jobEnds := sl.jobEnds }

theorem closeFinal_slots (s : State) (i k : Fin 4) :
    (s.closeFinal i none).slot k = if i = k then s.shut (s.slot i) else s.slot k := by
  by_cases h : i = k
  · subst h
    rw [if_pos rfl, closeFinal_slot_same]
    simp [State.shut]
  · rw [if_neg h, closeFinal_slot_other s (Ne.symm h)]

theorem shut_congr {s t : State} (hf : t.form = s.form) (hc : t.cache = s.cache) (hp : t.sc.firstPage = s.sc.firstPage)
    (sl : Slot) : t.shut sl = s.shut sl := by
  have h1 : t.loadedForm = s.loadedForm := loadedForm_congr hf
  have h2 : t.directory = s.directory := by simp only [State.directory, hc]
  have h3 (x : Slot) : t.suppressed x = s.suppressed x := by simp only [State.suppressed, hp]
  simp only [State.shut, State.closedSlot, h1, h2, h3]

/-- A page no close has come to, of which nothing has been sent. -/
structure Slot.Fresh (sl : Slot) : Prop where
  state : sl.state = .composing
  split : sl.split = 0
  firstClose : sl.firstClose = false

theorem Slot.Fresh.shut {sl : Slot} (h : sl.Fresh) (s : State) : ∃ ks ref made, s.shut sl =
    { sl with
      strikes := ks, ruleRef := ref, fillMade := made, firstClose := true, mark := false
      entry := some ⟨0, sl.copy.length⟩, state := .closed } := by
  obtain ⟨ks, ref, made, -, e⟩ := closedSlot_eq s sl.copy.length sl
  refine ⟨ks, ref, made, ?_⟩
  rw [State.shut, e, Slot.endsAs_closed h.state h.split
    { sl with strikes := ks, ruleRef := ref, fillMade := made, firstClose := true } rfl rfl rfl rfl]

theorem openedSlot_fresh (s : State) (n : Fin 8) (tag : Word32) (k : Nat) (b : Bool) : (s.openedSlot n tag k b).Fresh :=
  ⟨rfl, rfl, rfl⟩

theorem closeFinal_sc (s : State) (i : Fin 4) : s.sc.SameLists (s.closeFinal i none).sc :=
  (closeFinal_pagesOnly s i none).lists

/-! ## One turn (R58) -/

/-- The page in slot `i` closes, and the next opens in slot `f`. -/
def State.turned (s : State) (i f : Fin 4) (n : Fin 8) : State :=
  (s.closeFinal i none).openNext f n (((s.slot i).pageNo + 1) % 1000000)

/-- Page `k` behind the composing page `i`, as turns open it. -/
def State.pageAt (s : State) (n : Fin 8) (tag : Word32) (i : Fin 4) (k : Nat) : Slot :=
  if k = 0 then s.slot i else s.openedSlot n tag (((s.slot i).pageNo + k) % 1000000) false

theorem pageAt_fresh {s : State} {i : Fin 4} (h : (s.slot i).Fresh) (n : Fin 8) (tag : Word32) (k : Nat) :
    (s.pageAt n tag i k).Fresh := by
  unfold State.pageAt
  split
  · exact h
  · exact openedSlot_fresh s n tag _ false

/-- What of a state neither a turn nor a strike changes: all but the streams' records, the pages and the Composer's wait. -/
structure State.Turns (s w : State) : Prop where
  regs : w.regs = s.regs
  form : w.form = s.form
  cache : w.cache = s.cache
  hostMem : w.hostMem = s.hostMem
  lists : s.sc.SameLists w.sc
  jobs : w.jobs = s.jobs

theorem StreamController.SameLists.fields {c d : StreamController} (h : c.SameLists d) : d.queue = c.queue ∧
    d.buffer = c.buffer ∧ d.readFailed = c.readFailed ∧ d.firstPage = c.firstPage :=
  ⟨(congrArg StreamController.queue h :), (congrArg StreamController.buffer h :), (congrArg StreamController.readFailed h :),
    (congrArg StreamController.firstPage h :)⟩

theorem State.Turns.trans {a b c : State} (h : a.Turns b) (k : b.Turns c) : a.Turns c := by
  refine ⟨k.regs.trans h.regs, k.form.trans h.form, k.cache.trans h.cache, k.hostMem.trans h.hostMem, ?_,
    k.jobs.trans h.jobs⟩
  have h1 : ({ b.sc with streams := a.sc.streams } : StreamController) = a.sc := h.lists
  have h2 : ({ c.sc with streams := b.sc.streams } : StreamController) = b.sc := k.lists
  show ({ c.sc with streams := a.sc.streams } : StreamController) = a.sc
  rw [← h1, ← h2]

theorem State.Turns.shut {s w : State} (h : s.Turns w) (sl : Slot) : w.shut sl = s.shut sl :=
  shut_congr h.form h.cache h.lists.fields.2.2.2 sl

theorem State.Turns.loadedForm {s w : State} (h : s.Turns w) : w.loadedForm = s.loadedForm := loadedForm_congr h.form

theorem closeFinal_turns (s : State) (i : Fin 4) : s.Turns (s.closeFinal i none) :=
  ⟨by simp, by simp, by simp, by simp, closeFinal_sc s i, closeFinal_jobs s i none⟩

theorem turned_turns (s : State) (i f : Fin 4) (n : Fin 8) : s.Turns (s.turned i f n) := by
  exact (closeFinal_turns s i).trans ⟨rfl, rfl, rfl, rfl, rfl, openAt_jobs ..⟩

theorem setCursor_turns (s : State) (n : Fin 8) (l : Nat) : s.Turns (s.setCursor n l) :=
  ⟨rfl, rfl, rfl, rfl, rfl, setCursor_jobs s n l⟩

section
variable {s : State} {i f : Fin 4} {n : Fin 8} {j : JobInfo}

theorem closeFinal_take (s : State) (i : Fin 4) (n : Fin 8) : ((s.closeFinal i none).stream n).take = (s.stream n).take := by
  rw [closeFinal_stream]
  split <;> rfl

theorem turned_slot (hj : s.comp.job = some j) (p : Fin 4) : (s.turned i f n).slot p =
    if f = p then s.pageAt n j.tag i 1 else if i = p then s.shut (s.slot i) else s.slot p := by
  have e : (s.turned i f n).slot p = if f = p then
      (s.closeFinal i none).openedSlot n (((s.closeFinal i none).comp.job.map (·.tag)).getD 0)
        (((s.slot i).pageNo + 1) % 1000000) false else (s.closeFinal i none).slot p := openAt_slot _ f n _ _ false p
  have hcomp : (s.closeFinal i none).comp = s.comp := by simp
  rw [e, closeFinal_slots, hcomp, hj]
  congr 1
  simp only [State.openedSlot, (closeFinal_turns s i).loadedForm, closeFinal_take]
  rfl

theorem turned_composing (hm : ∀ k, k ≠ i → (s.slot k).mark = false) (hf : (s.slot i).Fresh) :
    (s.turned i f n).composing = some f := by
  refine openAt_composing (s := s.closeFinal i none) (fun k => ?_) f n _ _ false
  rw [closeFinal_slots]
  split
  · obtain ⟨_, _, _, e⟩ := hf.shut s
    rw [e]
  · next h => exact hm k (Ne.symm h)

theorem turned_store (hf : (s.slot i).firstClose = false) : (s.turned i f n).store.lastOpened = f ∧
    (s.turned i f n).store.imaging = s.store.imaging ++ [i] := by
  refine ⟨rfl, (closeFinal_store s i none).1.trans ?_⟩
  rw [hf]
  rfl

theorem turned_comp : (s.turned i f n).comp = s.comp := by
  have e : (s.turned i f n).comp = (s.closeFinal i none).comp := rfl
  rw [e]
  simp

theorem turned_stream (m : Fin 8) : (s.turned i f n).stream m =
    if n = m then { (s.closeFinal i none).stream m with pageNo := ((s.slot i).pageNo + 1) % 1000000 }
    else (s.closeFinal i none).stream m :=
  openAt_stream _ f n _ _ false m

end

/-- From `s`, with page `i` composing, `c` pages close, and in `w` the next of them in ring order, if there is one,
stands open; `page k` is the `k`-th of them before its close. -/
structure State.Turned (s : State) (n : Fin 8) (page : Nat → Slot) (i : Fin 4) (c : Nat) (w : State) : Prop where
  turns : s.Turns w
  shut : ∀ k p, k < c → (s.pages i)[k]? = some p → w.slot p = s.shut (page k)
  front : ∀ p, (s.pages i)[c]? = some p → w.slot p = page c ∧ w.composing = some p ∧
    w.store.lastOpened = (if c = 0 then s.store.lastOpened else p) ∧ (∀ k, k ≠ p → (w.slot k).mark = false) ∧
    w.freeRing = s.freeRing.drop c
  other : ∀ p, p ∉ (s.pages i).take (c + 1) → w.slot p = s.slot p
  imaging : w.store.imaging = s.store.imaging ++ (s.pages i).take c
  others : (s.slot i).stream = n → ∀ m, m ≠ n → w.stream m = s.stream m

/-! ## What turns change of their own stream's record -/

/-- A stream's record with other substitutes, another page number and another cursor line: what turns change of it. -/
def StreamRec.turned (r : StreamRec) (sub : BitVec 16) (page line : Nat) : StreamRec :=
  { r with substitutes := sub, pageNo := page, cursorLine := line }

theorem closeFinal_own (s : State) (i : Fin 4) (n : Fin 8) :
    ∃ sub, (s.closeFinal i none).stream n = (s.stream n).turned sub (s.stream n).pageNo (s.stream n).cursorLine := by
  rw [closeFinal_stream]
  split <;> exact ⟨_, rfl⟩

/-- Turns take nothing from the pool, and leave of their stream's record what a page has no part in. -/
theorem turnPages_own (n : Fin 8) (line : Nat) (rest : RecordRest) : ∀ (c : Nat) (s : State),
    (State.turnPages n line rest c s).store.poolUsed = s.store.poolUsed ∧
    ∃ sub page l, (State.turnPages n line rest c s).stream n = (s.stream n).turned sub page l
  | 0, s => ⟨rfl, _, _, _, (setCursor_stream s n line n).trans (if_pos rfl)⟩
  | c + 1, s => by
    unfold State.turnPages
    cases s.composing with
    | none => exact ⟨rfl, _, _, _, rfl⟩
    | some i =>
      obtain ⟨sub, hs⟩ := closeFinal_own s i n
      have hp := (closeFinal_store s i none).2.1
      cases hf : (s.closeFinal i none).freeSlot with
      | none =>
        simp only [hf]
        exact ⟨hp, _, _, _, hs⟩
      | some f =>
        simp only [hf]
        obtain ⟨k1, sub', page, l, k2⟩ := turnPages_own n line rest c
          ((s.closeFinal i none).openNext f n (((s.slot i).pageNo + 1) % Config.pageNumbers))
        have hn : ((s.closeFinal i none).openNext f n (((s.slot i).pageNo + 1) % Config.pageNumbers)).stream n = _ :=
          (openAt_stream _ f n _ _ false n).trans (if_pos rfl)
        refine ⟨k1.trans hp, sub', page, l, k2.trans ?_⟩
        rw [hn, hs]
        rfl

end Sys2Proof.Machine
end
section
/-! SUPPORT. What a movement that turns pages leaves of them (R58, R66, R99). -/

namespace Sys2Proof.Machine

section
variable {s : State} {i f : Fin 4} {n : Fin 8} {j : JobInfo} {fs : List (Fin 4)}

/-- The composing page is the only marked one, fresh, of the job in progress. -/
structure State.Composes (s : State) (i : Fin 4) (j : JobInfo) : Prop where
  composing : s.composing = some i
  marks : ∀ k, k ≠ i → (s.slot k).mark = false
  fresh : (s.slot i).Fresh
  job : s.comp.job = some j

theorem State.Composes.occupied (h : s.Composes i j) : (s.slot i).state ≠ .free := by rw [h.fresh.state]; exact nofun

theorem freeRing_head (h : s.freeRing = f :: fs) : (s.slot f).state = .free ∧ (s.freeSlot = some f) :=
  ⟨(mem_freeRing s f).mp (by rw [h]; exact List.mem_cons_self), by rw [freeSlot_eq_head, h]; rfl⟩

theorem State.Composes.closeFinal_freeRing (h : s.Composes i j) : (s.closeFinal i none).freeRing = s.freeRing := by
  refine freeRing_congr (closeFinal_store s i none).2.2 fun k => ?_
  rw [closeFinal_slots]
  split
  · next e =>
    obtain ⟨_, _, _, e'⟩ := h.fresh.shut s
    rw [e', ← e]
    exact ⟨nofun, fun k => absurd k h.occupied⟩
  · exact Iff.rfl

theorem State.Composes.turned (h : s.Composes i j) (n : Fin 8) (hf : s.freeRing = f :: fs) :
    (s.turned i f n).Composes f j ∧ (s.turned i f n).freeRing = fs := by
  have hslot := turned_slot (f := f) (i := i) (n := n) h.job
  have hfi : f ≠ i := fun e => h.occupied (e ▸ (freeRing_head hf).1)
  obtain ⟨_, _, _, hshut⟩ := h.fresh.shut s
  refine ⟨⟨turned_composing h.marks h.fresh, fun k hk => ?_, ?_, by rw [turned_comp]; exact h.job⟩, ?_⟩
  · rw [hslot, if_neg (Ne.symm hk)]
    split
    · rw [hshut]
    · next e => exact h.marks k (Ne.symm e)
  · rw [hslot, if_pos rfl]
    exact pageAt_fresh h.fresh n j.tag 1
  · refine freeRing_tail hf (turned_store h.fresh.firstClose).1 fun k => ?_
    rw [hslot]
    split
    · next e => exact ⟨nofun, fun k => absurd e.symm k.2⟩
    · next e =>
      split
      · next e' =>
        rw [hshut]
        exact ⟨nofun, fun k => absurd (e' ▸ k.1) h.occupied⟩
      · exact ⟨fun k => ⟨k, Ne.symm e⟩, And.left⟩

/-- No page turned: the cursor moves. -/
theorem setCursor_turned (h : s.Composes i j) (n : Fin 8) (l : Nat) : s.Turned n (s.pageAt n j.tag i) i 0 (s.setCursor n l) := by
  refine ⟨setCursor_turns s n l, fun k p hk => absurd hk (Nat.not_lt_zero k), fun p hp => ?_, fun p _ => rfl,
    (List.append_nil _).symm, fun _ m hm => ?_⟩
  · obtain rfl : i = p := Option.some.inj hp
    exact ⟨rfl, h.composing, rfl, h.marks, rfl⟩
  · rw [setCursor_stream, if_neg (Ne.symm hm)]

/-- The page closes, and with no slot FREE for the next the turns behind it wait. -/
theorem closeFinal_turned (h : s.Composes i j) (n : Fin 8) (hf : s.freeRing = []) (p : PendingOpen) (c : Nat) :
    s.Turned n (s.pageAt n j.tag i) i (c + 1) ((s.closeFinal i none).waitSlot p) := by
  have hpages : s.pages i = [i] := by rw [State.pages, hf]
  have htake (m : Nat) : (s.pages i).take (m + 1) = [i] := by rw [hpages]; simp
  have hother (x : Fin 4) (hx : x ≠ i) : ((s.closeFinal i none).waitSlot p).slot x = s.slot x :=
    closeFinal_slot_other s hx none
  have hstream (m : Fin 8) := closeFinal_stream s i none m
  refine ⟨(closeFinal_turns s i).trans ⟨rfl, rfl, rfl, rfl, rfl, jobs_of_sc rfl⟩, fun k x _ hx => ?_, fun x hx => ?_,
    fun x hx => ?_, ?_, fun hn m hm => ?_⟩
  · rw [hpages] at hx
    obtain ⟨rfl, rfl⟩ : k = 0 ∧ i = x := by
      match k with
      | 0 => exact ⟨rfl, Option.some.inj hx⟩
      | k + 1 => exact nomatch hx
    exact (closeFinal_slots s i i).trans (if_pos rfl)
  · rw [hpages] at hx
    exact nomatch hx
  · rw [htake] at hx
    exact hother x (by simpa using hx)
  · refine (closeFinal_store s i none).1.trans ?_
    rw [htake, h.fresh.firstClose]
    rfl
  · have e : ((s.closeFinal i none).waitSlot p).stream m = (s.closeFinal i none).stream m := rfl
    rw [e, hstream, if_neg (by rw [hn]; exact Ne.symm hm)]

/-- A turn, and those behind it. -/
theorem State.Turned.behind {w : State} {c : Nat} (h : s.Composes i j) (hf : s.freeRing = f :: fs)
    (k : (s.turned i f n).Turned n ((s.turned i f n).pageAt n j.tag f) f c w) : s.Turned n (s.pageAt n j.tag i) i (c + 1) w := by
  obtain ⟨h', hfs⟩ := h.turned n hf
  have hslot := turned_slot (f := f) (i := i) (n := n) h.job
  have hpages : s.pages i = i :: (s.turned i f n).pages f := by rw [State.pages, State.pages, hf, hfs]
  have hturns := turned_turns s i f n
  have hnodup := pages_nodup h.occupied
  rw [hpages] at hnodup
  have hni : i ∉ (s.turned i f n).pages f := (List.nodup_cons.mp hnodup).1
  have hfi : f ≠ i := fun e => h.occupied (e ▸ (freeRing_head hf).1)
  have hf1 : (s.turned i f n).slot f = s.pageAt n j.tag i 1 := by rw [hslot, if_pos rfl]
  have hpage (k : Nat) : (s.turned i f n).pageAt n j.tag f k = s.pageAt n j.tag i (k + 1) := by
    unfold State.pageAt
    rw [if_neg (Nat.succ_ne_zero k)]
    split
    · next e => subst e; exact hf1
    · have htake : ((s.turned i f n).stream n).take = (s.stream n).take := by
        rw [turned_stream, if_pos rfl]
        exact closeFinal_take s i n
      have hno : ((s.turned i f n).slot f).pageNo = ((s.slot i).pageNo + 1) % 1000000 := by rw [hf1]; rfl
      simp only [State.openedSlot, hturns.loadedForm, htake, hno, Nat.mod_add_mod]
      congr 2
      omega
  refine ⟨hturns.trans k.turns, fun x p hx hp => ?_, fun p hp => ?_, fun p hp => ?_, ?_, fun hn m hm => ?_⟩
  · rw [hpages] at hp
    match x with
    | 0 =>
      obtain rfl : i = p := Option.some.inj hp
      rw [k.other i fun hi => hni (List.mem_of_mem_take hi), hslot, if_neg hfi, if_pos rfl]
      rfl
    | x + 1 => rw [k.shut x p (by omega) hp, hturns.shut, hpage]
  · rw [hpages] at hp
    obtain ⟨k1, k2, k3, k4, k5⟩ := k.front p hp
    refine ⟨k1.trans (hpage c), k2, ?_, k4, ?_⟩
    · rw [k3, if_neg (Nat.succ_ne_zero c)]
      split
      · next e =>
        subst e
        exact (turned_store h.fresh.firstClose).1.trans (Option.some.inj hp)
      · rfl
    · rw [k5, hfs, hf]
      rfl
  · rw [hpages, List.take_succ_cons, List.mem_cons, not_or] at hp
    rw [k.other p hp.2, hslot, if_neg, if_neg (Ne.symm hp.1)]
    exact fun e => hp.2 (by rw [← e]; exact List.mem_cons_self)
  · rw [k.imaging, (turned_store h.fresh.firstClose).2, hpages, List.take_succ_cons, List.append_assoc]
    rfl
  · have hs1 : ((s.turned i f n).slot f).stream = n := by rw [hf1]; rfl
    rw [k.others hs1 m hm, turned_stream, if_neg (Ne.symm hm), closeFinal_stream, if_neg (by rw [hn]; exact Ne.symm hm)]

/-! ## A movement's turns -/

theorem turnPages_turn (h : s.Composes i j) (hf : s.freeRing = f :: fs) (line : Nat) (rest : RecordRest) (k : Nat) :
    State.turnPages n line rest (k + 1) s = State.turnPages n line rest k (s.turned i f n) := by
  have hs : (s.closeFinal i none).freeSlot = some f := by rw [freeSlot_eq_head, h.closeFinal_freeRing, hf]; rfl
  simp only [State.turnPages, h.composing, hs]
  rfl

theorem turnPages_waits (h : s.Composes i j) (hf : s.freeRing = []) (n : Fin 8) (line : Nat) (rest : RecordRest) (k : Nat) :
    State.turnPages n line rest (k + 1) s =
      (s.closeFinal i none).waitSlot ⟨line, k, ((s.slot i).pageNo + 1) % 1000000, rest⟩ := by
  have hs : (s.closeFinal i none).freeSlot = none := by rw [freeSlot_eq_head, h.closeFinal_freeRing, hf]; rfl
  simp only [State.turnPages, h.composing, hs]
  rfl

end

/-- The Composer behind `c` turns, of which `free` find a slot. -/
def Composer.behind (c : Composer) (line turns free page : Nat) (rest : RecordRest) : Composer :=
  if turns ≤ free then { c with cursor := some line }
  else { c with state := .waitSlot, cursor := some line
                waiting := some ⟨line, turns - free - 1, (page + (free + 1)) % 1000000, rest⟩ }

/-- A movement's turns: one after another while a slot is FREE for the next page. -/
theorem turnPages_turned (n : Fin 8) (line : Nat) (rest : RecordRest) {j : JobInfo} : ∀ (c : Nat) {s : State} {i : Fin 4},
    s.Composes i j → s.Turned n (s.pageAt n j.tag i) i c (State.turnPages n line rest c s) ∧
    (State.turnPages n line rest c s).comp = s.comp.behind line c s.freeRing.length (s.slot i).pageNo rest ∧
    (c ≤ s.freeRing.length → ((State.turnPages n line rest c s).stream n).cursorLine = line ∧
      ((State.turnPages n line rest c s).stream n).pageNo =
        if c = 0 then (s.stream n).pageNo else ((s.slot i).pageNo + c) % 1000000)
  | 0, s, i, h => by
    refine ⟨setCursor_turned h n line, rfl, fun _ => ?_⟩
    show ((s.setCursor n line).stream n).cursorLine = line ∧ _
    rw [show State.turnPages n line rest 0 s = s.setCursor n line from rfl, setCursor_stream, if_pos rfl]
    exact ⟨rfl, rfl⟩
  | c + 1, s, i, h => by
    cases hf : s.freeRing with
    | nil =>
      rw [turnPages_waits h hf]
      refine ⟨closeFinal_turned h n hf _ c, ?_, fun hc => absurd hc (Nat.not_succ_le_zero c)⟩
      show ({ (s.closeFinal i none).comp with state := .waitSlot, cursor := some line, waiting := _ } : Composer) = _
      have e : (s.closeFinal i none).comp = s.comp := by simp
      rw [e, Composer.behind, List.length_nil, if_neg (Nat.not_succ_le_zero c)]
      rfl
    | cons f fs =>
      rw [turnPages_turn h hf]
      obtain ⟨h', hfs⟩ := h.turned n hf
      obtain ⟨k1, k2, k3⟩ := turnPages_turned n line rest c h'
      have hno : ((s.turned i f n).slot f).pageNo = ((s.slot i).pageNo + 1) % 1000000 := by
        rw [turned_slot h.job, if_pos rfl]
        rfl
      rw [hfs, hno] at k3
      refine ⟨k1.behind h hf, ?_, fun hc => ?_⟩
      · rw [k2, hfs, hno, turned_comp]
        unfold Composer.behind
        rw [List.length_cons]
        by_cases hc : c ≤ fs.length
        · rw [if_pos hc, if_pos (by omega)]
        · rw [if_neg hc, if_neg (by omega), show c - fs.length - 1 = c + 1 - (fs.length + 1) - 1 by omega,
            Nat.mod_add_mod, show (s.slot i).pageNo + 1 + (fs.length + 1) = (s.slot i).pageNo + (fs.length + 1 + 1) by omega]
      · obtain ⟨l1, l2⟩ := k3 (by simpa using hc)
        refine ⟨l1, l2.trans ?_⟩
        rw [if_neg (Nat.succ_ne_zero c)]
        split
        · next e =>
          subst e
          rw [turned_stream, if_pos rfl]
        · rw [Nat.mod_add_mod]
          congr 1
          omega

end Sys2Proof.Machine
end
section
/-! SUPPORT. A LINE whose movements turn pages: the pages before its text, the page it is placed on, the pages behind (R49,
R58, R61, R66). -/

namespace Sys2Proof.Machine

section
variable {s w w2 u : State} {i p : Fin 4} {n : Fin 8} {j : JobInfo} {page page2 : Nat → Slot} {c d : Nat}

/-! ## Turns, and turns behind them -/

/-- The pages from the one that stands open on. -/
theorem pages_drop (h : (s.pages i)[c]? = some p) (hu : u.freeRing = s.freeRing.drop c) :
    (s.pages i).drop c = u.pages p := by
  obtain ⟨hc, e⟩ := List.getElem?_eq_some_iff.mp h
  rw [List.drop_eq_getElem_cons hc, e]
  show p :: s.freeRing.drop c = p :: u.freeRing
  rw [hu]

/-- From `w` to `u` the page in slot `p` alone changes, and of the streams' records that of `n`. -/
structure State.Between (w : State) (n : Fin 8) (p : Fin 4) (u : State) : Prop where
  turns : w.Turns u
  slot : ∀ x, x ≠ p → u.slot x = w.slot x
  page : (u.slot p).stream = (w.slot p).stream
  opened : u.store.lastOpened = w.store.lastOpened
  imaging : u.store.imaging = w.store.imaging
  others : ∀ m, m ≠ n → u.stream m = w.stream m
  ring : u.freeRing = w.freeRing

/-- The pages of two movements, with what the first left between them. -/
theorem State.Turned.andThen (hi : (s.slot i).state ≠ .free) (k1 : s.Turned n page i c w) (hp : (s.pages i)[c]? = some p)
    (hstream : (s.slot i).stream = n → (w.slot p).stream = n) (b : w.Between n p u) (k2 : u.Turned n page2 p d w2) :
    s.Turned n (fun k => if k < c then page k else page2 (k - c)) i (c + d) w2 := by
  obtain ⟨-, -, f3, -, f5⟩ := k1.front p hp
  have hdrop := pages_drop hp (b.ring.trans f5)
  have hat (k : Nat) : (s.pages i)[c + k]? = (u.pages p)[k]? := by rw [← hdrop, List.getElem?_drop]
  have htake (k : Nat) : (s.pages i).take (c + k) = (s.pages i).take c ++ (u.pages p).take k := by
    rw [← hdrop, List.take_add]
  have hturns := k1.turns.trans b.turns
  have hbefore {k : Nat} {x : Fin 4} (hk : k < c) (hx : (s.pages i)[k]? = some x) : x ∉ u.pages p := by
    rw [← hdrop]
    intro hmem
    obtain ⟨m, hm⟩ := List.mem_iff_getElem?.mp hmem
    rw [List.getElem?_drop] at hm
    have := (List.getElem?_inj (List.getElem?_eq_some_iff.mp hx).1 (pages_nodup hi)).mp (hx.trans hm.symm)
    omega
  have hpin : p ∈ u.pages p := List.mem_cons_self
  refine ⟨hturns.trans k2.turns, fun k x hk hx => ?_, fun x hx => ?_, fun x hx => ?_, ?_, fun hn m hm => ?_⟩
  · by_cases hkc : k < c
    · have hni := hbefore hkc hx
      have hxp : x ≠ p := fun e => hni (e ▸ hpin)
      rw [k2.other x fun hmem => hni (List.mem_of_mem_take hmem), b.slot x hxp, k1.shut k x hkc hx, if_pos hkc]
    · obtain ⟨y, rfl⟩ := Nat.exists_eq_add_of_le (Nat.not_lt.mp hkc)
      rw [k2.shut y x (by omega) (by rw [← hat]; exact hx), hturns.shut, if_neg hkc, Nat.add_sub_cancel_left]
  · obtain ⟨g1, g2, g3, g4, g5⟩ := k2.front x (by rw [← hat]; exact hx)
    refine ⟨?_, g2, ?_, g4, ?_⟩
    · rw [g1, if_neg (by omega), Nat.add_sub_cancel_left]
    · rw [g3]
      split
      · next hd =>
        subst hd
        rw [b.opened, f3, Nat.add_zero]
        obtain rfl : p = x := by
          have e := hx
          rw [hat] at e
          exact Option.some.inj e
        rfl
      · rw [if_neg (by omega)]
    · rw [g5, b.ring, f5, List.drop_drop]
  · have hx' : x ∉ (s.pages i).take c ∧ x ∉ (u.pages p).take (d + 1) := by
      rw [Nat.add_assoc, htake, List.mem_append, not_or] at hx
      exact hx
    have hxp : x ≠ p := fun e => hx'.2 (by rw [e]; exact List.mem_cons_self)
    refine (k2.other x hx'.2).trans ((b.slot x hxp).trans (k1.other x ?_))
    rw [htake, List.mem_append, not_or]
    refine ⟨hx'.1, fun hmem => hxp ?_⟩
    simpa [State.pages] using hmem
  · rw [k2.imaging, b.imaging, k1.imaging, htake, List.append_assoc]
  · rw [k2.others (b.page.trans (hstream hn)) m hm, b.others m hm, k1.others hn m hm]

/-- With no page left to close, more turns change nothing. -/
theorem State.Turned.exhausted (k : s.Turned n page i c w) (hc : (s.pages i).length ≤ c) (hd : c ≤ d) :
    s.Turned n page i d w := by
  have htake {m : Nat} (hm : c ≤ m) : (s.pages i).take m = (s.pages i).take c := by
    rw [List.take_of_length_le hc, List.take_of_length_le (Nat.le_trans hc hm)]
  refine ⟨k.turns, fun x q _ hq => k.shut x q ?_ hq, fun q hq => ?_, fun q hq => k.other q ?_, ?_, k.others⟩
  · exact Nat.lt_of_lt_of_le (List.getElem?_eq_some_iff.mp hq).1 hc
  · exact absurd (List.getElem?_eq_some_iff.mp hq).1 (Nat.not_lt.mpr (Nat.le_trans hc hd))
  · rwa [htake (Nat.le_succ_of_le (Nat.le_refl c)), ← htake (Nat.le_succ_of_le hd)]
  · rw [k.imaging, htake hd]

end

/-! ## The text between the movements (R61, R63) -/

theorem struck_between {w : State} {p : Fin 4} {n : Fin 8} (h : RecordHeader) :
    w.Between n p (w.struck n p h) := by
  obtain ⟨k1, -, k3, k4, k5, -⟩ := struck_keeps w n p h
  obtain ⟨-, -, -, -, -, -, -, -, -, -, k11, k12⟩ := struck_keeps w n p h
  have hslot := struck_slot w n p h
  refine ⟨⟨k1, k3, k4, k5, ?_, struck_jobs w n p h⟩, fun x hx => ?_, ?_, k12, k11, fun m hm => ?_, ?_⟩
  · unfold State.struck
    split <;> rfl
  · rw [hslot, if_neg (Ne.symm hx)]
  · rw [hslot, if_pos rfl]
  · rw [struck_stream, if_neg (Ne.symm hm)]
  · refine freeRing_congr k12 fun k => ?_
    rw [hslot]
    split <;> exact Iff.rfl

/-- The text of a LINE finds its place on a page of which nothing has been sent. -/
theorem strikes_of_fresh {w : State} {p : Fin 4} {h : RecordHeader} (hs : (w.slot p).split = 0)
    (hk : h.textCount ≠ 0 → w.store.poolUsed < 1024 ∧ (w.slot p).strikesOn (w.comp.cursor.getD 1) < 4) : w.Strikes p h :=
  fun h0 => ⟨by rw [hs]; exact Nat.zero_le _, (hk h0).2, (hk h0).1⟩

/-! ## The pages of a LINE (R49) -/

/-- Page `k` of a LINE, which places `added` on page `m1`, before its close. -/
def State.LinePage (s : State) (n : Fin 8) (tag : Word32) (i : Fin 4) (m1 : Nat) (added : List Strike) (k : Nat)
    (sl : Slot) : Prop :=
  ∃ q, sl = { s.pageAt n tag i k with
    strikes := (s.pageAt n tag i k).strikes ++ (if k = m1 then added else []), seqCount := q }

theorem pageAt_linePage (s : State) (n : Fin 8) (tag : Word32) (i : Fin 4) {m1 k : Nat} (added : List Strike)
    (h : k ≠ m1) : s.LinePage n tag i m1 added k (s.pageAt n tag i k) :=
  ⟨(s.pageAt n tag i k).seqCount, by rw [if_neg h, List.append_nil]⟩

/-- A page is opened behind another as behind those before it. -/
theorem pageAt_behind {s u : State} {i p : Fin 4} {n : Fin 8} {tag : Word32} {c : Nat} (ht : s.Turns u)
    (htake : (u.stream n).take = (s.stream n).take) (hp : (u.slot p).pageNo = (s.pageAt n tag i c).pageNo)
    {k : Nat} (hk : k ≠ 0) : u.pageAt n tag p k = s.pageAt n tag i (c + k) := by
  unfold State.pageAt at hp ⊢
  rw [if_neg hk, if_neg (by omega), hp]
  simp only [State.openedSlot, ht.loadedForm, htake]
  congr 1
  split
  · next e => rw [e, Nat.zero_add]
  · show ((((s.slot i).pageNo + c) % 1000000) + k) % 1000000 = _
    rw [Nat.mod_add_mod, Nat.add_assoc]

/-- What a LINE takes of the pool, and of its stream's record, up to what follows it; `placed` says whether its text has
been placed. -/
structure State.LineOwn (s : State) (n : Fin 8) (h : RecordHeader) (added : List Strike) (placed : Prop) [Decidable placed]
    (w : State) : Prop where
  pool : w.store.poolUsed = s.store.poolUsed + (if placed then added.length else 0)
  stream : ∃ sub no line, w.stream n = ({ s.stream n with
    overrun := if placed then satAdd (s.stream n).overrun (h.textCount - s.loadedForm.positions)
      else (s.stream n).overrun } : StreamRec).turned sub no line

/-- The strikes that a LINE adds to line `l1` of the page its movement before ends on. -/
def State.lineAdded (s : State) (i : Fin 4) (h : RecordHeader) (m1 l1 : Nat) : List Strike :=
  if h.textCount = 0 then [] else [{
    line := l1
    place := (if m1 = 0 then (s.slot i).strikesOn l1 else 0) + 1
    seq := (if m1 = 0 then (s.slot i).seqCount else 0) + 1
    typeface := h.typeface
    keyed := h.keyed
    template := h.template
    codes := ((s.sc.buffer.drop 8).take h.textCount).take s.loadedForm.positions
    glyphs := none }]

theorem added_eq_lineAdded {s w : State} {i p : Fin 4} {n : Fin 8} {tag : Word32} {m1 : Nat} (ht : s.Turns w)
    (hp : w.slot p = s.pageAt n tag i m1) (h : RecordHeader) (l1 : Nat) : w.added p h l1 = s.lineAdded i h m1 l1 := by
  unfold State.added State.lineAdded
  rw [hp, ht.loadedForm, ht.lists.fields.2.1]
  unfold State.pageAt
  split
  · rfl
  · split <;> rfl

section
variable {s : State} {i : Fin 4} {n : Fin 8} {j : JobInfo} {h : RecordHeader} {b a : Carriage} {m1 m2 l1 l2 : Nat}

/-- The movement before the text finds no slot for a page it turns to. -/
theorem lineBody_waits (hc : s.Composes i j) (hm1 : s.loadedForm.move (s.comp.cursor.getD 1) b = (m1, l1))
    (hf : s.freeRing.length < m1) (m2 : Nat) (added : List Strike) : ∃ page,
    s.Turned n page i (m1 + m2) (s.lineBody n h b) ∧
    (∀ k p, (s.pages i)[k]? = some p → s.LinePage n j.tag i m1 added k (page k)) ∧
    s.LineOwn n h added (m1 ≤ s.freeRing.length) (s.lineBody n h b) ∧
    (s.lineBody n h b).comp = s.comp.behind l1 m1 s.freeRing.length (s.slot i).pageNo .strikeAndAfter := by
  obtain ⟨k1, k2, -⟩ := turnPages_turned n l1 .strikeAndAfter m1 hc
  obtain ⟨o1, sub, no, line, o2⟩ := turnPages_own n l1 .strikeAndAfter m1 s
  have e : s.lineBody n h b = State.turnPages n l1 .strikeAndAfter m1 s := by
    unfold State.lineBody State.moveCarriage
    dsimp only
    rw [hm1]
    dsimp only
    rw [k2, if_pos]
    rw [Composer.behind, if_neg (Nat.not_le.mpr hf)]
    rfl
  have hno : ¬ m1 ≤ s.freeRing.length := Nat.not_le.mpr hf
  rw [e]
  refine ⟨_, k1.exhausted (by rw [State.pages, List.length_cons]; omega) (Nat.le_add_right m1 m2),
    fun k p hk => pageAt_linePage s n j.tag i added ?_, ⟨?_, ⟨sub, no, line, ?_⟩⟩, k2⟩
  · have := (List.getElem?_eq_some_iff.mp hk).1
    rw [State.pages, List.length_cons] at this
    omega
  · rw [o1, if_neg hno]
    rfl
  · rw [o2, if_neg hno]

end

end Sys2Proof.Machine
end
section
/-! SUPPORT. A LINE whose text finds its page: the turns before it, the strike, and the turns behind (R49, R58, R61). -/

namespace Sys2Proof.Machine

section
variable {s : State} {i : Fin 4} {n : Fin 8} {j : JobInfo} {h : RecordHeader} {b a : Carriage} {m1 m2 l1 l2 : Nat}

theorem pages_get {c : Nat} (hc : c ≤ s.freeRing.length) : ∃ p, (s.pages i)[c]? = some p :=
  ⟨_, List.getElem?_eq_getElem (by rw [State.pages, List.length_cons]; omega)⟩

/-- The number of a page behind the composing one. -/
theorem pageAt_pageNo (s : State) (n : Fin 8) (tag : Word32) (i : Fin 4) (c k : Nat) :
    ((s.pageAt n tag i c).pageNo + k) % 1000000 = ((s.slot i).pageNo + (c + k)) % 1000000 := by
  unfold State.pageAt
  split
  · next e => rw [e, Nat.zero_add]
  · show ((((s.slot i).pageNo + c) % 1000000) + k) % 1000000 = _
    rw [Nat.mod_add_mod, Nat.add_assoc]

/-- The Composer behind two movements is where one of all their turns would leave it. -/
theorem Composer.behind_behind (c : Composer) (l1 l2 m1 m2 free page : Nat) (rest : RecordRest) (h : m1 ≤ free)
    {page' : Nat} (hp : ∀ k, (page' + k) % 1000000 = (page + (m1 + k)) % 1000000) :
    ({ c with cursor := some l1 } : Composer).behind l2 m2 (free - m1) page' rest =
      c.behind l2 (m1 + m2) free page rest := by
  unfold Composer.behind
  by_cases hm : m2 ≤ free - m1
  · rw [if_pos hm, if_pos (by omega)]
  · rw [if_neg hm, if_neg (by omega), hp, show m2 - (free - m1) - 1 = m1 + m2 - free - 1 by omega,
      show m1 + (free - m1 + 1) = free + 1 by omega]

/-- The page on which the text of a LINE has been placed. -/
theorem struck_composes {w : State} {p : Fin 4} (hw : w.Composes p j) (n : Fin 8) (h : RecordHeader) :
    (w.struck n p h).Composes p j := by
  have hslot := struck_slot w n p h
  refine ⟨(struck_composing w n p h).trans hw.composing, fun k hk => ?_, ⟨?_, ?_, ?_⟩, ?_⟩
  · rw [hslot, if_neg (Ne.symm hk)]
    exact hw.marks k hk
  · rw [hslot, if_pos rfl]
    exact hw.fresh.state
  · rw [hslot, if_pos rfl]
    exact hw.fresh.split
  · rw [hslot, if_pos rfl]
    exact hw.fresh.firstClose
  · rw [(struck_keeps w n p h).2.1]
    exact hw.job

/-- The text is placed on the page that the movement before it ends on, and the movement after it follows. -/
theorem lineBody_places (hc : s.Composes i j) (hwait : s.comp.waits = false) (ha : carriageOf h.after = some a)
    (hm1 : s.loadedForm.move (s.comp.cursor.getD 1) b = (m1, l1)) (hm2 : s.loadedForm.move l1 a = (m2, l2))
    (hf : m1 ≤ s.freeRing.length)
    (hk : h.textCount ≠ 0 → s.store.poolUsed < 1024 ∧ (m1 = 0 → (s.slot i).strikesOn l1 < 4)) : ∃ w page,
    s.Turned n page i (m1 + m2) w ∧
    (∀ k p, (s.pages i)[k]? = some p → s.LinePage n j.tag i m1 (s.lineAdded i h m1 l1) k (page k)) ∧
    s.LineOwn n h (s.lineAdded i h m1 l1) (m1 ≤ s.freeRing.length) w ∧
    w.comp = s.comp.behind l2 (m1 + m2) s.freeRing.length (s.slot i).pageNo .nothing ∧
    s.lineBody n h b = (if w.comp.waits then w else w.finishLine n h) ∧
    (m1 + m2 ≤ s.freeRing.length → (w.stream n).cursorLine = l2 ∧ (w.stream n).pageNo =
      if m1 + m2 = 0 then (s.stream n).pageNo else ((s.slot i).pageNo + (m1 + m2)) % 1000000) := by
  obtain ⟨k1, k2, k3⟩ := turnPages_turned n l1 .strikeAndAfter m1 hc
  obtain ⟨o1, sub, no, line, o2⟩ := turnPages_own n l1 .strikeAndAfter m1 s
  obtain ⟨-, k3⟩ := k3 hf
  obtain ⟨p, hp⟩ := pages_get (i := i) hf
  have hbody : s.lineBody n h b = (State.turnPages n l1 .strikeAndAfter m1 s).lineStrike n h := by
    unfold State.lineBody State.moveCarriage
    dsimp only
    rw [hm1]
    dsimp only
    rw [k2, Composer.behind, if_pos hf, if_neg]
    simpa [Composer.waits] using hwait
  generalize hw1 : State.turnPages n l1 .strikeAndAfter m1 s = w1 at k1 k2 k3 o1 o2 hbody
  obtain ⟨f1, f2, f3, f4, f5⟩ := k1.front p hp
  rw [Composer.behind, if_pos hf] at k2
  have hcw : w1.Composes p j := ⟨f2, f4, by rw [f1]; exact pageAt_fresh hc.fresh n j.tag m1, by rw [k2]; exact hc.job⟩
  have hcur : w1.comp.cursor.getD 1 = l1 := by rw [k2]; rfl
  have hwait1 : w1.comp.waits = false := by rw [k2]; simpa [Composer.waits] using hwait
  have hstrikes : w1.Strikes p h := strikes_of_fresh hcw.fresh.split fun h0 => by
    obtain ⟨p1, p2⟩ := hk h0
    refine ⟨o1 ▸ p1, ?_⟩
    rw [hcur, f1]
    unfold State.pageAt
    split
    · next e => exact p2 e
    · exact (by decide : 0 < 4)
  let u := w1.struck n p h
  have hb : w1.Between n p u := struck_between h
  have hcu : u.Composes p j := struck_composes hcw n h
  obtain ⟨q1, q2, q3⟩ := turnPages_turned n l2 .nothing m2 hcu
  obtain ⟨r1, sub', no', line', r2⟩ := turnPages_own n l2 .nothing m2 u
  have hring : u.freeRing.length = s.freeRing.length - m1 := by rw [hb.ring, f5, List.length_drop]
  have hadded : w1.added p h l1 = s.lineAdded i h m1 l1 := added_eq_lineAdded k1.turns f1 h l1
  have hup : u.slot p = { s.pageAt n j.tag i m1 with
      strikes := (s.pageAt n j.tag i m1).strikes ++ s.lineAdded i h m1 l1
      seqCount := (s.pageAt n j.tag i m1).seqCount + (s.lineAdded i h m1 l1).length } := by
    rw [struck_slot, if_pos rfl, hcur, hadded, f1]
  have hno (k : Nat) : ((u.slot p).pageNo + k) % 1000000 = ((s.slot i).pageNo + (m1 + k)) % 1000000 := by
    rw [hup]
    exact pageAt_pageNo s n j.tag i m1 k
  have hucomp : u.comp = { s.comp with cursor := some l1 } := (struck_keeps w1 n p h).2.1.trans k2
  have hust : u.stream n = _ := (struck_stream w1 n p h n).trans (if_pos rfl)
  generalize hw2 : State.turnPages n l2 .nothing m2 u = w at q1 q2 q3 r1 r2
  have hcomp : w.comp = s.comp.behind l2 (m1 + m2) s.freeRing.length (s.slot i).pageNo .nothing := by
    rw [q2, hucomp, hring]
    exact Composer.behind_behind s.comp l1 l2 m1 m2 _ _ .nothing hf hno
  refine ⟨w, _, k1.andThen hc.occupied hp (fun e => ?_) hb q1, fun k x hx => ?_, ⟨?_, ?_⟩, hcomp, ?_, fun hle => ?_⟩
  · rw [f1]
    unfold State.pageAt
    split
    · exact e
    · rfl
  · split
    · next hk' => exact pageAt_linePage s n j.tag i _ (Nat.ne_of_lt hk')
    · next hk' =>
      obtain ⟨y, rfl⟩ := Nat.exists_eq_add_of_le (Nat.not_lt.mp hk')
      rw [Nat.add_sub_cancel_left]
      rcases Nat.eq_zero_or_pos y with rfl | hy
      · refine ⟨(s.pageAt n j.tag i m1).seqCount + (s.lineAdded i h m1 l1).length, ?_⟩
        rw [Nat.add_zero, if_pos rfl]
        exact hup
      · rw [pageAt_behind (k1.turns.trans hb.turns) (by rw [hust, o2]; rfl) (by rw [hup]) (Nat.ne_of_gt hy)]
        exact pageAt_linePage s n j.tag i _ (by omega)
  · rw [r1, struck_pool, o1, hcur, hadded, if_pos hf]
  · refine ⟨sub', no', line', r2.trans ?_⟩
    rw [hust, o2, if_pos hf, k1.turns.loadedForm]
    rfl
  · rw [hbody, lineStrike_struck f2 hwait1 hstrikes]
    have hmove : u.loadedForm.move (u.comp.cursor.getD 1) a = (m2, l2) := by
      rw [(k1.turns.trans hb.turns).loadedForm, hucomp]
      exact hm2
    show u.lineAfter n h = _
    simp only [State.lineAfter, ha, State.moveCarriage, hmove, hw2]
  · obtain ⟨t1, t2⟩ := q3 (by omega)
    refine ⟨t1, t2.trans ?_⟩
    by_cases hm : m2 = 0
    · subst hm
      rw [if_pos rfl, hust]
      exact k3
    · rw [if_neg hm, if_neg (by omega), hno]

end

end Sys2Proof.Machine
end
section
/-! SUPPORT. What shows of a LINE that turns pages, behind its settlement (R49, R58, R61, R66, R109). -/

namespace Sys2Proof.Machine

/-! ## The strikes of a page closed without a header template (R107, R109) -/

/-- A strike translated against the form and the directory in force. -/
def State.translates (s : State) (k : Strike) : Strike :=
  { k with glyphs := some (k.glyphs.getD (k.codes.map fun c => (translateCode s.loadedForm s.directory k.typeface c).1)) }

theorem translated_eq (s : State) (k : Strike) : k.translated s.loadedForm s.directory = s.translates k := by
  obtain ⟨_, _, _, _, _, _, _, _ | g⟩ := k
  · rfl
  · rfl

theorem fillHeader_strikes {f : Form} {sl : Slot} (h : ∀ k ∈ sl.strikes, k.template = false ∨ k.line ≠ f.headerLine)
    (b : Bool) : (sl.fillHeader f b).strikes = sl.strikes := by
  have hn : templateSeq f sl = none := by
    rw [templateSeq, List.find?_eq_none.mpr fun k hk => ?_]
    · rfl
    · rcases h k hk with h | h <;> simp [h]
  simp only [Slot.fillHeader, hn]

theorem finalEntry_strikes (sl : Slot) : sl.finalEntry.strikes = sl.strikes ∧ sl.finalEntry.ruleRef = sl.ruleRef ∧
    sl.finalEntry.fillMade = sl.fillMade := by
  unfold Slot.finalEntry
  dsimp only
  split <;> exact ⟨rfl, rfl, rfl⟩

theorem shut_strikes (s : State) {sl : Slot} (h : ∀ k ∈ sl.strikes, k.template = false ∨ k.line ≠ s.loadedForm.headerLine) :
    (s.shut sl).strikes = sl.strikes.map s.translates := by
  have ht : (fun k : Strike => k.translated s.loadedForm s.directory) = s.translates := funext (translated_eq s)
  unfold State.shut
  dsimp only
  rw [(finalEntry_strikes _).1]
  unfold State.closedSlot
  dsimp only
  rw [ht]
  split
  · rw [fillHeader_strikes h]
  · rfl

/-! ## The pages (R58, R99, R110) -/

section
variable {s w t : State} {i : Fin 4} {n : Fin 8} {j : JobInfo} {page : Nat → Slot} {m1 c : Nat} {added : List Strike}

theorem State.LinePage.fresh {k : Nat} {sl : Slot} (h : s.LinePage n j.tag i m1 added k sl) (hi : (s.slot i).Fresh) :
    sl.Fresh := by
  obtain ⟨q, e⟩ := h
  obtain ⟨f1, f2, f3⟩ := pageAt_fresh hi n j.tag k
  rw [e]
  exact ⟨f1, f2, f3⟩

/-- With every page closed, no slot is FREE. -/
theorem State.Turned.freeSlot_none (k : s.Turned n page i c w) (hi : (s.slot i).Fresh)
    (hp : ∀ k p, (s.pages i)[k]? = some p → s.LinePage n j.tag i m1 added k (page k)) (hc : (s.pages i).length ≤ c) :
    w.freeSlot = none := by
  refine (freeSlot_none_iff w).mpr fun p => ?_
  by_cases hmem : p ∈ s.pages i
  · obtain ⟨x, hx⟩ := List.mem_iff_getElem?.mp hmem
    obtain ⟨_, _, _, e⟩ := ((hp x p hx).fresh hi).shut s
    rw [k.shut x p (Nat.lt_of_lt_of_le (List.getElem?_eq_some_iff.mp hx).1 hc) hx, e]
    exact nofun
  · rw [k.other p fun h => hmem (List.mem_of_mem_take h)]
    intro hfree
    exact hmem (List.mem_cons_of_mem _ ((mem_freeRing s p).mpr hfree))

/-- What shows of the pages that a LINE of `c` turns has come to. -/
structure State.ShowsPages (s : State) (n : Fin 8) (tag : Word32) (i : Fin 4) (m1 : Nat) (added : List Strike) (c : Nat)
    (t : State) : Prop where
  closed : ∀ k p, k < c → (s.pages i)[k]? = some p →
    (t.slot p).state = .closed ∧ (t.slot p).mark = false ∧ (t.slot p).firstClose = true ∧
    (t.slot p).entry = some ⟨0, if k = 0 then (s.slot i).copy.length else s.loadedForm.copy.length⟩ ∧
    (t.slot p).strikes =
      ((if k = 0 then (s.slot i).strikes else []) ++ if k = m1 then added else []).map s.translates ∧
    (k = 0 → (t.slot p).jobEnds = (s.slot i).jobEnds ∧ (t.slot p).releaseOff = (s.slot i).releaseOff ∧
      (t.slot p).pageNo = (s.slot i).pageNo ∧ (t.slot p).stream = (s.slot i).stream)
  opened : ∀ k p, 1 ≤ k → k ≤ c → (s.pages i)[k]? = some p →
    (t.slot p).stream = n ∧ (t.slot p).jobTag = tag ∧ (t.slot p).firstOfJob = false ∧
    (t.slot p).pageNo = ((s.slot i).pageNo + k) % 1000000 ∧ (t.slot p).copy = s.loadedForm.copy ∧
    (t.slot p).jobEnds = [] ∧ (t.slot p).split = 0 ∧ (k < c → (t.slot p).releaseOff = (s.stream n).take)
  other : ∀ p, p ∉ (s.pages i).take (c + 1) → t.slot p = s.slot p

/-- The pages behind a LINE, of which the last has at most another release offset. -/
theorem State.Turned.shows (k : s.Turned n page i c w) (hi : (s.slot i).Fresh) (hc : 1 ≤ c)
    (hp : ∀ k p, (s.pages i)[k]? = some p → s.LinePage n j.tag i m1 added k (page k))
    (ht : ∀ k ∈ (s.slot i).strikes ++ added, k.template = false ∨ k.line ≠ s.loadedForm.headerLine)
    (hslot : ∀ p, t.slot p = w.slot p ∨
      (s.pages i)[c]? = some p ∧ ∃ off, t.slot p = { w.slot p with releaseOff := off }) :
    s.ShowsPages n j.tag i m1 added c t := by
  have hnd := pages_nodup (s := s) (i := i) (by rw [hi.state]; exact nofun)
  have closed {k : Nat} {p : Fin 4} (hk : k < c) (hx : (s.pages i)[k]? = some p) : t.slot p = w.slot p := by
    rcases hslot p with e | ⟨e, -⟩
    · exact e
    · have := (List.getElem?_inj (List.getElem?_eq_some_iff.mp hx).1 hnd).mp (hx.trans e.symm)
      omega
  refine ⟨fun x p hx hxp => ?_, fun x p h1 hx hxp => ?_, fun p hpn => ?_⟩
  · have hl := hp x p hxp
    have hfr := hl.fresh hi
    have hstr : (page x).strikes = (if x = 0 then (s.slot i).strikes else []) ++ if x = m1 then added else [] := by
      obtain ⟨q, e⟩ := hl
      rw [e]
      unfold State.pageAt
      dsimp only
      split <;> rfl
    have hcopy : (page x).copy.length = if x = 0 then (s.slot i).copy.length else s.loadedForm.copy.length := by
      obtain ⟨q, e⟩ := hl
      rw [e]
      unfold State.pageAt
      dsimp only
      split <;> rfl
    obtain ⟨ks, ref, made, e⟩ := hfr.shut s
    have hks : ks = (page x).strikes.map s.translates := by
      rw [← shut_strikes s (sl := page x) fun y hy => ht y ?_, e]
      rw [hstr] at hy
      rcases List.mem_append.mp hy with hy | hy
      · split at hy
        · exact List.mem_append_left _ hy
        · exact nomatch hy
      · split at hy
        · exact List.mem_append_right _ hy
        · exact nomatch hy
    have hslot' := (closed hx hxp).trans ((k.shut x p hx hxp).trans e)
    rw [hslot']
    refine ⟨rfl, rfl, rfl, by rw [← hcopy], by rw [← hstr]; exact hks, fun h0 => ?_⟩
    obtain ⟨q, e'⟩ := hl
    rw [e', h0]
    exact ⟨rfl, rfl, rfl, rfl⟩
  · have hpage : s.pageAt n j.tag i x = s.openedSlot n j.tag (((s.slot i).pageNo + x) % 1000000) false := if_neg (by omega)
    obtain ⟨q, e'⟩ := hp x p hxp
    rw [hpage] at e'
    by_cases hlt : x < c
    · obtain ⟨ks, ref, made, e⟩ := ((hp x p hxp).fresh hi).shut s
      rw [(closed hlt hxp).trans ((k.shut x p hlt hxp).trans e), e']
      exact ⟨rfl, rfl, rfl, rfl, rfl, rfl, rfl, fun _ => rfl⟩
    · obtain rfl : x = c := by omega
      have hw : w.slot p = page x := (k.front p hxp).1
      rcases hslot p with e | ⟨-, off, e⟩
      · rw [e, hw, e']
        exact ⟨rfl, rfl, rfl, rfl, rfl, rfl, rfl, fun h => absurd h hlt⟩
      · rw [e, hw, e']
        exact ⟨rfl, rfl, rfl, rfl, rfl, rfl, rfl, fun h => absurd h hlt⟩
  · rcases hslot p with e | ⟨e, -⟩
    · rw [e, k.other p hpn]
    · refine absurd ?_ hpn
      rw [List.take_add_one, e]
      exact List.mem_append_right _ (List.mem_singleton_self p)

end

end Sys2Proof.Machine
end
section
/-! PROOF. A LINE that turns pages (R30, R49, R51 to R56, R58, R59, R61 to R63, R66, R83, R84, R99, R104 to R110). -/

namespace Sys2Proof.Machine

section
variable {s w t : State} {i : Fin 4} {n : Fin 8} {j : JobInfo} {h : RecordHeader} {b a : Carriage} {m1 m2 l1 l2 : Nat}

/-- The record is taken to its end, on the page of its last turn. -/
structure State.LineEnds (s : State) (i : Fin 4) (n : Fin 8) (h : RecordHeader) (turns line : Nat) (added : List Strike)
    (p : Fin 4) (t : State) : Prop where
  page : (t.slot p).state = .composing ∧ (t.slot p).mark = true ∧ (t.slot p).firstClose = false ∧
    (t.slot p).entry = none ∧ (t.slot p).strikes = added ∧ (t.slot p).releaseOff = (s.stream n).after h.length
  opened : t.store.lastOpened = p
  cursor : t.comp.cursor = some line ∧ (t.stream n).cursorLine = line
  pageNo : (t.stream n).pageNo = ((s.slot i).pageNo + turns) % 1000000
  taken : (t.stream n).take = (s.stream n).after h.length ∧ t.sc.buffer = s.sc.buffer.drop h.length ∧
    (t.stream n).recordsTaken = satAdd (s.stream n).recordsTaken 1
  ready : (s.stream n).fill ≠ (s.stream n).after h.length → t.comp.state = .ready

/-- What a LINE shows besides its pages. -/
structure State.LineShows (s : State) (i : Fin 4) (n : Fin 8) (h : RecordHeader) (m1 turns : Nat) (added : List Strike)
    (t : State) : Prop where
  imaging : t.store.imaging = s.store.imaging ++ (s.pages i).take turns
  pool : t.store.poolUsed = s.store.poolUsed + (if m1 ≤ s.freeRing.length then added.length else 0)
  overrun : (t.stream n).overrun = (if m1 ≤ s.freeRing.length then
    satAdd (s.stream n).overrun (h.textCount - s.loadedForm.positions) else (s.stream n).overrun)
  others : (s.slot i).stream = n → ∀ m, m ≠ n → (t.stream m).core = (s.stream m).core
  form : t.form = s.form
  queue : t.sc.queue = s.sc.queue
  hostMem : t.hostMem = s.hostMem

/-- A LINE that waits for a slot. -/
theorem settle_lineWaits {page : Nat → Slot} {turns line : Nat} {added : List Strike} {p : PendingOpen}
    (hb : s.regs.resetBusy = false) (ho : s.owner = some n) (hcm : s.Composed) (hi : (s.slot i).Fresh) (h1 : 1 ≤ turns)
    (k : s.Turned n page i turns w) (hp : ∀ k p, (s.pages i)[k]? = some p → s.LinePage n j.tag i m1 added k (page k))
    (own : s.LineOwn n h added (m1 ≤ s.freeRing.length) w)
    (ht : ∀ k ∈ (s.slot i).strikes ++ added, k.template = false ∨ k.line ≠ s.loadedForm.headerLine)
    (hlen : s.freeRing.length < turns)
    (hcomp : w.comp = { s.comp with state := .waitSlot, cursor := some line, waiting := some p }) :
    let t := State.settle s w
    s.ShowsPages n j.tag i m1 added turns t ∧ s.LineShows i n h m1 turns added t ∧ t.comp.state = .waitSlot ∧
    t.comp.cursor = some line ∧ t.comp.waiting = some p ∧
    (t.stream n).take = (s.stream n).take ∧ t.sc.buffer = s.sc.buffer ∧
    (t.stream n).recordsTaken = (s.stream n).recordsTaken := by
  have hpl : (s.pages i).length ≤ turns := by rw [State.pages, List.length_cons]; omega
  have g := settle_stays s (u := w) (by rw [k.turns.regs]; exact hb) (by rw [k.turns.form]; exact hcm.noCheck)
    (k.turns.lists.fields.2.2.1.trans hcm.readFailed)
    (grantsNothing_owner ((owner_of_jobs k.turns.jobs).trans ho)) (.inl ⟨by rw [hcomp], k.freeSlot_none hi hp hpl⟩)
  obtain ⟨sub, no, l, hn⟩ := own.stream
  have gn := g.core n
  rw [hn] at gn
  obtain ⟨-, f2, -, -⟩ := k.turns.lists.fields
  refine ⟨k.shows hi h1 hp ht fun p => .inl (State.slot_congr g.store p), ⟨?_, ?_, core_overrun gn, fun e m hm => ?_,
    g.form.trans k.turns.form, g.queue.trans (queue_of_jobs k.turns.jobs), g.hostMem.trans k.turns.hostMem⟩,
    by rw [g.comp, hcomp], by rw [g.comp, hcomp], by rw [g.comp, hcomp], (core_take gn).trans rfl, g.buffer.trans f2,
    (core_recordsTaken gn).trans rfl⟩
  · rw [g.store, k.imaging]
  · rw [g.store, own.pool]
  · rw [g.core, k.others e m hm]

/-- A LINE taken to its end, after its last turn. -/
theorem settle_lineEnds {page : Nat → Slot} {turns line : Nat} {added : List Strike} {p : Fin 4}
    (hb : s.regs.resetBusy = false) (ho : s.owner = some n) (hcm : s.Composed) (hi : (s.slot i).Fresh) (h1 : 1 ≤ turns)
    (k : s.Turned n page i turns w) (hp : ∀ k p, (s.pages i)[k]? = some p → s.LinePage n j.tag i m1 added k (page k))
    (own : s.LineOwn n h added (m1 ≤ s.freeRing.length) w)
    (ht : ∀ k ∈ (s.slot i).strikes ++ added, k.template = false ∨ k.line ≠ s.loadedForm.headerLine)
    (hpg : (s.pages i)[turns]? = some p) (hcomp : w.comp = { s.comp with cursor := some line })
    (hrec : (w.stream n).cursorLine = line ∧ (w.stream n).pageNo = ((s.slot i).pageNo + turns) % 1000000) :
    let t := State.settle s (w.finishLine n h)
    s.ShowsPages n j.tag i m1 added turns t ∧ s.LineShows i n h m1 turns added t ∧
    s.LineEnds i n h turns line (if turns = m1 then added else []) p t := by
  obtain ⟨f1, f2, f3, -, -⟩ := k.front p hpg
  obtain ⟨sub, no, l, hn⟩ := own.stream
  have hafter : (w.stream n).after h.length = (s.stream n).after h.length := by rw [hn]; rfl
  obtain ⟨-, q2, q3, -⟩ := k.turns.lists.fields
  obtain ⟨a1, a2, a3⟩ := advanceTake_store (s := w) n h.length
  obtain ⟨b1, b2⟩ := advanceTake_buffer w n h.length
  have g : (w.advanceTake n h.length).WentOn n (State.settle s (w.finishLine n h)) :=
    settle_goesOn s (v := w.advanceTake n h.length) (n := n) (by simpa [k.turns.regs] using hb)
    ((owner_of_jobs ((advanceTake_jobs w n _).trans k.turns.jobs)).trans ho) (b2.trans (q3.trans hcm.readFailed))
    (by simpa [k.turns.form] using hcm.noCheck) fun _ => by rw [advanceTake_composing, f2]; exact nofun
  have hslot (x : Fin 4) := (State.slot_congr g.store x).trans (advanceTake_slot f2 n h.length x)
  have gn := g.core n
  have hvn : (w.advanceTake n h.length).stream n = (w.stream n).taken ((s.stream n).after h.length) := by
    rw [advanceTake_stream, if_pos rfl, hafter]
  rw [hvn] at gn
  have htake : (((w.advanceTake n h.length).stream n).take) = (s.stream n).after h.length := by rw [hvn]; rfl
  have hfill : (((w.advanceTake n h.length).stream n).fill) = (s.stream n).fill := by rw [hvn, hn]; rfl
  have hpage : page turns = { s.openedSlot n j.tag (((s.slot i).pageNo + turns) % 1000000) false with
      strikes := if turns = m1 then added else [], seqCount := (page turns).seqCount } := by
    obtain ⟨q, e⟩ := hp turns p hpg
    have e1 : s.pageAt n j.tag i turns = s.openedSlot n j.tag (((s.slot i).pageNo + turns) % 1000000) false :=
      if_neg (by omega)
    rw [e1] at e
    rw [e]
    rfl
  have hsp := (hslot p).trans (if_pos rfl)
  rw [f1, hpage, hafter] at hsp
  refine ⟨k.shows hi h1 hp ht fun x => ?_, ⟨?_, ?_, ?_, fun e m hm => ?_, ?_, ?_, ?_⟩, ⟨?_, ?_, ⟨?_, ?_⟩, ?_, ⟨?_, ?_, ?_⟩, ?_⟩⟩
  · by_cases hx : p = x
    · subst hx
      exact .inr ⟨hpg, _, (hslot p).trans (if_pos rfl)⟩
    · exact .inl ((hslot x).trans (if_neg hx))
  · rw [g.store, a2, k.imaging]
  · rw [g.store, a1, own.pool]
  · refine (core_overrun gn).trans ?_
    rw [hn]
    rfl
  · rw [g.core, advanceTake_stream, if_neg (Ne.symm hm), k.others e m hm]
  · exact g.form.trans ((by simp : (w.advanceTake n h.length).form = w.form).trans k.turns.form)
  · exact g.queue.trans (queue_of_jobs ((advanceTake_jobs w n _).trans k.turns.jobs))
  · exact g.hostMem.trans ((by simp : (w.advanceTake n h.length).hostMem = w.hostMem).trans k.turns.hostMem)
  · rw [hsp]
    exact ⟨rfl, rfl, rfl, rfl, rfl, rfl⟩
  · rw [g.store, a3, f3, if_neg (by omega)]
  · rw [g.comp.cursor, (by simp : (w.advanceTake n h.length).comp = w.comp), hcomp]
  · exact (core_cursorLine gn).trans hrec.1
  · exact (core_pageNo gn).trans hrec.2
  · exact (core_take gn).trans rfl
  · rw [g.buffer, b1, q2]
  · refine (core_recordsTaken gn).trans ?_
    rw [hn]
    rfl
  · intro hne
    exact (g.comp.ready (by rw [htake, hfill]; exact hne)).1

end

end Sys2Proof.Machine
end
section
/-! PROOF. A LINE that skips to the top of the form, and what the close of its page fills and translates (R54, R104 to R109). -/

namespace Sys2Proof.Machine

/-! ## The header fill and the translation at a close (R104 to R109) -/

section
variable {s : State} {sl : Slot}

/-- The slot that a close translates: its header filled where the fill is due. -/
def State.filled (s : State) (sl : Slot) : Slot :=
  if !sl.fillMade && decide (s.loadedForm.top s.loadedForm.headerLine < sl.copy.length) then
    sl.fillHeader s.loadedForm (s.suppressed sl)
  else sl

theorem fillHeader_keeps (f : Form) (b : Bool) (sl : Slot) : (sl.fillHeader f b).fillMade = true ∧
    (sl.fillHeader f b).firstClose = sl.firstClose ∧ (sl.fillHeader f b).ruleRef = sl.ruleRef := by
  unfold Slot.fillHeader
  split <;> exact ⟨rfl, rfl, rfl⟩

theorem filled_keeps (s : State) (sl : Slot) : (s.filled sl).firstClose = sl.firstClose ∧ (s.filled sl).fillMade =
    (sl.fillMade || decide (s.loadedForm.top s.loadedForm.headerLine < sl.copy.length)) := by
  unfold State.filled
  obtain ⟨h1, h2, -⟩ := fillHeader_keeps s.loadedForm (s.suppressed sl) sl
  cases hm : sl.fillMade <;>
    cases hd : decide (s.loadedForm.top s.loadedForm.headerLine < sl.copy.length) <;> simp [h1, h2, hm]

theorem shut_fields (s : State) (hf : sl.firstClose = false) :
    (s.shut sl).strikes = (s.filled sl).strikes.map s.translates ∧
    (s.shut sl).ruleRef = some (translateCode s.loadedForm s.directory 0 s.loadedForm.ruleCode).1 ∧
    (s.shut sl).fillMade = (sl.fillMade || decide (s.loadedForm.top s.loadedForm.headerLine < sl.copy.length)) := by
  have ht : (fun k : Strike => k.translated s.loadedForm s.directory) = s.translates := funext (translated_eq s)
  obtain ⟨k1, k2⟩ := filled_keeps s sl
  unfold State.shut
  dsimp only
  obtain ⟨e1, e2, e3⟩ := finalEntry_strikes (s.closedSlot sl.copy.length sl)
  rw [e1, e2, e3]
  have hclosed : s.closedSlot sl.copy.length sl = { s.filled sl with
      strikes := (s.filled sl).strikes.map s.translates
      ruleRef := if (s.filled sl).firstClose then (s.filled sl).ruleRef
        else some (translateCode s.loadedForm s.directory 0 s.loadedForm.ruleCode).1
      firstClose := true } := by
    rw [← ht]
    rfl
  rw [hclosed, k1, hf]
  exact ⟨rfl, rfl, k2⟩

theorem filled_strikes (h : ∀ k ∈ sl.strikes, k.template = false ∨ k.line ≠ s.loadedForm.headerLine) :
    (s.filled sl).strikes = sl.strikes := by
  unfold State.filled
  split
  · exact fillHeader_strikes h _
  · rfl

/-- The substitutes that a close counts, without a header template: those of the strikes it translates, and one of the
rule code's (R84, R109). -/
theorem closeSubstitutes_plain (hf : sl.firstClose = false)
    (h : ∀ k ∈ sl.strikes, k.template = false ∨ k.line ≠ s.loadedForm.headerLine) :
    s.closeSubstitutes sl.copy.length sl = (sl.strikes.map fun k => if k.glyphs.isNone
      then k.codes.countP (fun c => (translateCode s.loadedForm s.directory k.typeface c).2) else 0).sum +
      if (translateCode s.loadedForm s.directory 0 s.loadedForm.ruleCode).2 then 1 else 0 := by
  have hdef : s.closeSubstitutes sl.copy.length sl =
      ((s.filled sl).strikes.map (·.newSubstitutes s.loadedForm s.directory)).sum +
        if sl.firstClose then 0 else if (translateCode s.loadedForm s.directory 0 s.loadedForm.ruleCode).2 then 1 else 0 := rfl
  have hk : (fun k : Strike => k.newSubstitutes s.loadedForm s.directory) = fun k => if k.glyphs.isNone
      then k.codes.countP (fun c => (translateCode s.loadedForm s.directory k.typeface c).2) else 0 := by
    funext k
    unfold Strike.newSubstitutes
    cases k.glyphs <;> rfl
  rw [hdef, filled_strikes h, hk, hf]
  rfl

/-- The codes that the header fill writes: the catchwords, then the page number (R106 to R108). -/
theorem filledCodes_eq {f : Form} {b : Bool} {sl : Slot} {own caught codes : List Byte}
    (hc : ((f.captureLen = 0 ∨ ∀ k ∈ sl.strikes, k.keyed = false) ∧ caught = own) ∨
      (f.captureLen ≠ 0 ∧ ∃ a z, (sl.strikes.filter (·.keyed)).head? = some a ∧
        (sl.strikes.filter (·.keyed)).getLast? = some z ∧
        caught = writeCodes f.lastPos (captureRun f.capturePos f.captureLen z)
          (writeCodes f.firstPos (captureRun f.capturePos f.captureLen a) own)))
    (hn : ((f.numberWidth = 0 ∨ b = true) ∧ codes = caught) ∨ (f.numberWidth ≠ 0 ∧ b = false ∧
      codes = writeCodes f.numberPos (numberCodes f.numberWidth sl.pageNo) caught)) :
    filledCodes f b sl own = codes := by
  have hcaught : (match captures f sl with
      | some (a, z) => writeCodes f.lastPos z (writeCodes f.firstPos a own)
      | none => own) = caught := by
    rcases hc with ⟨h0, e⟩ | ⟨h0, a, z, ha, hz, e⟩
    · have hnone : captures f sl = none := by
        unfold captures
        dsimp only
        split
        · rfl
        · next hl =>
          have hk := h0.resolve_left hl
          have hnil : sl.strikes.filter (·.keyed) = [] := List.filter_eq_nil_iff.mpr fun k hm => by simp [hk k hm]
          rw [hnil]
          rfl
      rw [hnone]
      exact e.symm
    · have hsome : captures f sl = some (captureRun f.capturePos f.captureLen a, captureRun f.capturePos f.captureLen z) := by
        unfold captures
        dsimp only
        rw [if_neg h0, ha, hz]
      rw [hsome]
      exact e.symm
  have hdef : filledCodes f b sl own = if f.numberWidth = 0 ∨ b then caught
      else writeCodes f.numberPos (numberCodes f.numberWidth sl.pageNo) caught := by
    rw [← hcaught]
    rfl
  rw [hdef]
  rcases hn with ⟨h, e⟩ | ⟨h1, h2, e⟩
  · rw [if_pos h, e]
  · rw [if_neg (by simp [h1, h2]), e]

/-- The header template, filled and translated, stands among the strikes of the page closed (R107). -/
theorem template_mem_shut {k : Strike} {codes : List Byte} (hf : sl.firstClose = false) (hm : sl.fillMade = false)
    (htop : s.loadedForm.top s.loadedForm.headerLine < sl.copy.length)
    (hfind : sl.strikes.find? (fun k => k.template && decide (k.line = s.loadedForm.headerLine)) = some k)
    (hg : k.glyphs = none) (hcodes : filledCodes s.loadedForm (s.suppressed sl) sl k.codes = codes) :
    { k with codes := codes
             glyphs := some (codes.map fun c => (translateCode s.loadedForm s.directory k.typeface c).1) } ∈
      (s.shut sl).strikes := by
  have hmem : k ∈ sl.strikes := List.mem_of_find?_eq_some hfind
  have hseq : templateSeq s.loadedForm sl = some k.seq := by rw [templateSeq, hfind]; rfl
  have hfill : (s.filled sl).strikes = sl.strikes.map fun x =>
      if x.seq = k.seq then { x with codes := filledCodes s.loadedForm (s.suppressed sl) sl x.codes } else x := by
    unfold State.filled
    rw [if_pos (by simp [hm, htop])]
    simp only [Slot.fillHeader, hseq]
  rw [(shut_fields s hf).1, hfill, List.map_map]
  refine List.mem_map.mpr ⟨k, hmem, ?_⟩
  show s.translates (if k.seq = k.seq then { k with codes := filledCodes s.loadedForm (s.suppressed sl) sl k.codes } else k) = _
  rw [if_pos rfl, hcodes]
  simp only [State.translates, hg]
  rfl

end

end Sys2Proof.Machine
end
section
/-! PROOF. A LINE that turns pages, from its record to what shows of it (R30, R49 to R66, R83, R84, R99, R104 to R110). -/

namespace Sys2Proof.Machine

section
variable {s : State} {i : Fin 4} {n : Fin 8} {j : JobInfo} {h : RecordHeader} {b a : Carriage} {m1 m2 l1 l2 : Nat}

/-- What the settlement shows of a LINE that turns `m1` pages before its text and `m2` behind it. -/
theorem settle_lineTurns (hb : s.regs.resetBusy = false) (ho : s.owner = some n) (hcm : s.Composed)
    (hc : s.Composes i j) (ha : carriageOf h.after = some a)
    (hm1 : s.loadedForm.move (s.comp.cursor.getD 1) b = (m1, l1)) (hm2 : s.loadedForm.move l1 a = (m2, l2))
    (h1 : 1 ≤ m1 + m2)
    (hk : h.textCount ≠ 0 → s.store.poolUsed < 1024 ∧ (m1 = 0 → (s.slot i).strikesOn l1 < 4))
    (ht : ∀ k ∈ (s.slot i).strikes ++ s.lineAdded i h m1 l1, k.template = false ∨ k.line ≠ s.loadedForm.headerLine) :
    let t := State.settle s (s.lineBody n h b)
    let added := s.lineAdded i h m1 l1
    s.ShowsPages n j.tag i m1 added (m1 + m2) t ∧ s.LineShows i n h m1 (m1 + m2) added t ∧
    (∀ p, (s.pages i)[m1 + m2]? = some p →
      s.LineEnds i n h (m1 + m2) l2 (if m1 + m2 = m1 then added else []) p t) ∧
    ((s.pages i)[m1 + m2]? = none → t.comp.state = .waitSlot ∧ (t.stream n).take = (s.stream n).take ∧
      t.sc.buffer = s.sc.buffer ∧ (t.stream n).recordsTaken = (s.stream n).recordsTaken ∧
      (s.freeRing.length < m1 → t.comp.cursor = some l1 ∧ t.comp.waiting = some ⟨l1, m1 - s.freeRing.length - 1,
        ((s.slot i).pageNo + (s.freeRing.length + 1)) % 1000000, .strikeAndAfter⟩) ∧
      (m1 ≤ s.freeRing.length → t.comp.cursor = some l2 ∧ t.comp.waiting = some ⟨l2, m1 + m2 - s.freeRing.length - 1,
        ((s.slot i).pageNo + (s.freeRing.length + 1)) % 1000000, .nothing⟩)) := by
  have hpages : (s.pages i).length = s.freeRing.length + 1 := List.length_cons
  by_cases hf : s.freeRing.length < m1
  · obtain ⟨page, k1, k2, k3, k4⟩ := lineBody_waits (n := n) (h := h) hc hm1 hf m2 (s.lineAdded i h m1 l1)
    rw [Composer.behind, if_neg (by omega)] at k4
    obtain ⟨g1, g2, g3, g4, g5, g6, g7, g8⟩ := settle_lineWaits hb ho hcm hc.fresh h1 k1 k2 k3 ht (by omega) k4
    refine ⟨g1, g2, fun p hp => ?_, fun _ => ⟨g3, g6, g7, g8, fun _ => ⟨g4, g5⟩, fun h0 => absurd h0 (by omega)⟩⟩
    have := (List.getElem?_eq_some_iff.mp hp).1
    omega
  · obtain ⟨w, page, k1, k2, k3, k4, k5, k6⟩ := lineBody_places (n := n) hc hcm.waits ha hm1 hm2 (Nat.not_lt.mp hf) hk
    by_cases hle : m1 + m2 ≤ s.freeRing.length
    · obtain ⟨p, hp⟩ := pages_get (i := i) hle
      rw [Composer.behind, if_pos hle] at k4
      have hend : s.lineBody n h b = w.finishLine n h := by
        rw [k5, if_neg]
        rw [k4]
        simpa [Composer.waits] using hcm.waits
      obtain ⟨r1, r2⟩ := k6 hle
      rw [if_neg (by omega)] at r2
      obtain ⟨g1, g2, g3⟩ := settle_lineEnds hb ho hcm hc.fresh h1 k1 k2 k3 ht hp k4 ⟨r1, r2⟩
      rw [hend]
      refine ⟨g1, g2, fun q hq => ?_, fun hn => nomatch hp.symm.trans hn⟩
      obtain rfl : p = q := Option.some.inj (hp.symm.trans hq)
      exact g3
    · rw [Composer.behind, if_neg hle] at k4
      have hend : s.lineBody n h b = w := by
        rw [k5, if_pos]
        rw [k4]
        rfl
      obtain ⟨g1, g2, g3, g4, g5, g6, g7, g8⟩ := settle_lineWaits hb ho hcm hc.fresh h1 k1 k2 k3 ht (by omega) k4
      rw [hend]
      refine ⟨g1, g2, fun p hp => ?_, fun _ => ⟨g3, g6, g7, g8, fun h0 => absurd h0 hf, fun _ => ⟨g4, g5⟩⟩⟩
      have := (List.getElem?_eq_some_iff.mp hp).1
      omega

end

/-! ## A skip to the top of the form with no text (R54) -/

section
variable {s : State} {i : Fin 4} {n : Fin 8} {j : JobInfo} {h : RecordHeader}

theorem exec_line {b a : Carriage} (ho : s.owner = some n) (hr : s.regs.run = true) (hst : s.comp.state = .ready)
    (hj : s.comp.job = some j) (hjs : j.started = true) (hw : (s.stream n).atTake s.sc.buffer = .whole h)
    (hk : h.kind = .line) (hb : carriageOf h.before = some b) (ha : carriageOf h.after = some a)
    (hsb : s.loadedForm.hasStop b = true) (hsa : s.loadedForm.hasStop a = true) :
    exec .lineRecord s = .next (State.settle s (s.lineBody n h b)) := by
  rw [exec_lineRecord ho hr hst hw hk,
    takeLine_body ((jobInProgress_iff s.comp).mpr ⟨j, hj, hjs⟩) hb ha hsb hsa]

/-- What a skip to the top shows: the page in slot `i` closed, and the stream's substitutes counted. -/
structure State.SkipShows (s : State) (i : Fin 4) (n : Fin 8) (t : State) : Prop where
  page : t.slot i = s.shut (s.slot i)
  imaging : t.store.imaging = s.store.imaging ++ [i]
  pool : t.store.poolUsed = s.store.poolUsed
  cursor : t.comp.cursor = some 1
  substitutes : (t.stream n).substitutes = ((s.closeFinal i none).stream n).substitutes
  form : t.form = s.form
  hostMem : t.hostMem = s.hostMem

/-- With no slot FREE the next page waits. -/
theorem settle_skipWaits (hb : s.regs.resetBusy = false) (ho : s.owner = some n) (hcm : s.Composed) (hc : s.Composes i j)
    (hf : s.freeRing = []) (p : PendingOpen) (hp : p.line = 1) :
    let t := State.settle s ((s.closeFinal i none).waitSlot p)
    s.SkipShows i n t ∧ t.comp.state = .waitSlot ∧ (t.stream n).take = (s.stream n).take ∧
    (t.stream n).pageNo = (s.stream n).pageNo ∧ t.sc.buffer = s.sc.buffer := by
  have k := closeFinal_turned hc n hf p 0
  have hfree : ((s.closeFinal i none).waitSlot p).freeSlot = none := by
    rw [freeSlot_congr (t := (s.closeFinal i none).waitSlot p) (s := s.closeFinal i none) rfl, freeSlot_eq_head,
      hc.closeFinal_freeRing, hf]
    rfl
  have g := settle_stays s (u := (s.closeFinal i none).waitSlot p) (by rw [k.turns.regs]; exact hb)
    (by rw [k.turns.form]; exact hcm.noCheck) (k.turns.lists.fields.2.2.1.trans hcm.readFailed)
    (grantsNothing_owner ((owner_of_jobs k.turns.jobs).trans ho)) (.inl ⟨rfl, hfree⟩)
  obtain ⟨sub, hn⟩ := closeFinal_own s i n
  have gn : _ = ((s.closeFinal i none).stream n).core := g.core n
  obtain ⟨c1, c2, -⟩ := closeFinal_store s i none
  rw [hc.fresh.firstClose] at c1
  have ht : ((s.closeFinal i none).stream n).take = (s.stream n).take := by rw [hn]; rfl
  have hpn : ((s.closeFinal i none).stream n).pageNo = (s.stream n).pageNo := by rw [hn]; rfl
  refine ⟨⟨?_, ?_, ?_, ?_, core_substitutes gn, g.form.trans k.turns.form, g.hostMem.trans k.turns.hostMem⟩, ?_,
    (core_take gn).trans ht, (core_pageNo gn).trans hpn, g.buffer.trans k.turns.lists.fields.2.1⟩
  · exact (State.slot_congr g.store i).trans ((closeFinal_slots s i i).trans (if_pos rfl))
  · rw [g.store]
    exact c1
  · rw [g.store]
    exact c2
  · rw [g.comp, ← hp]
    rfl
  · rw [g.comp]
    rfl

/-- The next page open, with the cursor placed by the turn, and again by the movement behind the text. -/
def State.skipped (s : State) (i f : Fin 4) (n : Fin 8) : State := ((s.turned i f n).setCursor n 1).setCursor n 1

theorem skipped_turns (s : State) (i f : Fin 4) (n : Fin 8) : s.Turns (s.skipped i f n) :=
  ((turned_turns s i f n).trans (setCursor_turns _ n 1)).trans (setCursor_turns _ n 1)

theorem skipped_composing (s : State) (i f : Fin 4) (n : Fin 8) :
    (s.skipped i f n).composing = (s.turned i f n).composing := rfl

theorem skipped_slot (s : State) (i f : Fin 4) (n : Fin 8) (k : Fin 4) :
    (s.skipped i f n).slot k = (s.turned i f n).slot k := rfl

/-- With a slot FREE the next page opens in it, and the record ends. -/
theorem settle_skipOpens {f : Fin 4} {fs : List (Fin 4)} (hb : s.regs.resetBusy = false) (ho : s.owner = some n)
    (hcm : s.Composed) (hc : s.Composes i j) (hf : s.freeRing = f :: fs) :
    let t := State.settle s ((s.skipped i f n).finishLine n h)
    s.SkipShows i n t ∧
    t.slot f = { s.pageAt n j.tag i 1 with releaseOff := (s.stream n).after h.length } ∧ t.store.lastOpened = f ∧
    (t.stream n).pageNo = ((s.slot i).pageNo + 1) % 1000000 ∧ (t.stream n).take = (s.stream n).after h.length := by
  obtain ⟨hc', -⟩ := hc.turned n hf
  have hcomp : (s.skipped i f n).composing = some f := (skipped_composing ..).trans hc'.composing
  have hturns := skipped_turns s i f n
  have hslot := turned_slot (f := f) (i := i) (n := n) hc.job
  have hfi : f ≠ i := fun e => hc.occupied (e ▸ (freeRing_head hf).1)
  obtain ⟨sub, hn⟩ := closeFinal_own s i n
  have hsn : (s.skipped i f n).stream n =
      { (s.closeFinal i none).stream n with pageNo := ((s.slot i).pageNo + 1) % 1000000, cursorLine := 1 } := by
    rw [State.skipped, setCursor_stream, if_pos rfl, setCursor_stream, if_pos rfl, turned_stream, if_pos rfl]
  have hafter : ((s.skipped i f n).stream n).after h.length = (s.stream n).after h.length := by
    rw [hsn, hn]
    rfl
  let v := (s.skipped i f n).advanceTake n h.length
  have hjobs : v.jobs = s.jobs := (advanceTake_jobs _ n _).trans (hturns.jobs)
  have hread : v.sc.readFailed = s.sc.readFailed := (advanceTake_buffer _ n _).2.trans hturns.lists.fields.2.2.1
  have g : v.WentOn n (State.settle s ((s.skipped i f n).finishLine n h)) :=
    settle_goesOn s (v := v) (n := n) (by simpa [v, hturns.regs] using hb) ((owner_of_jobs hjobs).trans ho)
      (hread.trans hcm.readFailed) (by simpa [v, hturns.form] using hcm.noCheck) fun _ => by
        rw [advanceTake_composing, hcomp]; exact nofun
  have hts (x : Fin 4) := (State.slot_congr g.store x).trans (advanceTake_slot hcomp n h.length x)
  have gn := g.core n
  have hvn : v.stream n = ((s.skipped i f n).stream n).taken ((s.stream n).after h.length) := by
    rw [advanceTake_stream, if_pos rfl, hafter]
  rw [hvn, hsn] at gn
  obtain ⟨a1, a2, a3⟩ := advanceTake_store (s := s.skipped i f n) n h.length
  obtain ⟨o1, o2⟩ := turned_store (n := n) (f := f) hc.fresh.firstClose
  refine ⟨⟨?_, ?_, ?_, ?_, (core_substitutes gn).trans rfl, ?_, ?_⟩, ?_, ?_, (core_pageNo gn).trans rfl,
    (core_take gn).trans rfl⟩
  · rw [hts, if_neg hfi, skipped_slot, hslot, if_neg hfi, if_pos rfl]
  · rw [g.store]
    exact a2.trans o2
  · rw [g.store]
    exact a1.trans (closeFinal_store s i none).2.1
  · have hcv : v.comp = (s.skipped i f n).comp := by simp [v]
    rw [g.comp.cursor, hcv]
    rfl
  · exact g.form.trans ((by simp [v] : v.form = (s.skipped i f n).form).trans hturns.form)
  · exact g.hostMem.trans ((by simp [v] : v.hostMem = (s.skipped i f n).hostMem).trans hturns.hostMem)
  · rw [hts, if_pos rfl, skipped_slot, hslot, if_pos rfl, hafter]
  · rw [g.store]
    exact a3.trans o1

/-- A skip to the top with no text: one turn, and what follows it. -/
theorem lineBody_skips (hcm : s.Composed) (hc : s.Composes i j) (ha : carriageOf h.after = some (.space 0))
    (h0 : h.textCount = 0) (hl : 1 ≤ s.loadedForm.lines) :
    (s.freeRing = [] → s.lineBody n h .top =
      (s.closeFinal i none).waitSlot ⟨1, 0, ((s.slot i).pageNo + 1) % 1000000, .strikeAndAfter⟩) ∧
    ∀ f fs, s.freeRing = f :: fs → s.lineBody n h .top = (s.skipped i f n).finishLine n h := by
  have hbody : s.lineBody n h .top = (if (State.turnPages n 1 .strikeAndAfter 1 s).comp.waits
      then State.turnPages n 1 .strikeAndAfter 1 s else (State.turnPages n 1 .strikeAndAfter 1 s).lineStrike n h) := rfl
  refine ⟨fun hf => ?_, fun f fs hf => ?_⟩
  · rw [hbody, turnPages_waits hc hf]
    rfl
  · obtain ⟨hc', -⟩ := hc.turned n hf
    have ht : State.turnPages n 1 .strikeAndAfter 1 s = (s.turned i f n).setCursor n 1 :=
      turnPages_turn hc hf 1 .strikeAndAfter 0
    have hw : ((s.turned i f n).setCursor n 1).comp.waits = false := by
      rw [setCursor_comp, turned_comp]
      simpa [Composer.waits] using hcm.waits
    have hstruck : ((s.turned i f n).setCursor n 1).struck n f h = (s.turned i f n).setCursor n 1 := if_pos h0
    rw [hbody, ht, hw, if_neg Bool.false_ne_true, lineStrike_struck ((setCursor_composing ..).trans hc'.composing) hw
      (fun h => absurd h0 h), hstruck]
    have hmove : s.loadedForm.move 1 (.space 0) = (0, 1) := if_pos hl
    have hform : ((s.turned i f n).setCursor n 1).loadedForm = s.loadedForm := (turned_turns s i f n).loadedForm
    have hm : ((s.turned i f n).setCursor n 1).loadedForm.move (((s.turned i f n).setCursor n 1).comp.cursor.getD 1)
        (.space 0) = (0, 1) := by
      rw [hform, setCursor_comp]
      exact hmove
    rw [lineAfter_within ha hm hw]
    rfl

end

end Sys2Proof.Machine
end
section
/-! PROOF. LINE and its page turns (R30, R49 to R66, R83, R84, R91, R99, R104 to R110). -/

namespace Sys2Proof.Machine

/-- The next page of the job in progress open in slot `k`, behind a LINE taken to its end. -/
def State.NextOpen (s : State) (i : Fin 4) (n : Fin 8) (j : JobInfo) (h : RecordHeader) (k : Fin 4) (t : State) : Prop :=
  t.slot k = { s.pageAt n j.tag i 1 with releaseOff := (s.stream n).after h.length } ∧ t.store.lastOpened = k ∧
    (t.stream n).pageNo = ((s.slot i).pageNo + 1) % 1000000 ∧ (t.stream n).take = (s.stream n).after h.length

/-- The next page waits for a slot, the record not yet taken. -/
def State.NextWaits (s : State) (n : Fin 8) (t : State) : Prop :=
  t.comp.state = .waitSlot ∧ (t.stream n).take = (s.stream n).take ∧ (t.stream n).pageNo = (s.stream n).pageNo ∧
    t.sc.buffer = s.sc.buffer

theorem settle_skips {s : State} {i : Fin 4} {n : Fin 8} {j : JobInfo} {h : RecordHeader} (hb : s.regs.resetBusy = false)
    (ho : s.owner = some n) (hcm : s.Composed) (hc : s.Composes i j) (ha : carriageOf h.after = some (.space 0))
    (h0 : h.textCount = 0) (hl : 1 ≤ s.loadedForm.lines) : let t := State.settle s (s.lineBody n h .top)
    s.SkipShows i n t ∧ (∀ k, s.freeSlot = some k → s.NextOpen i n j h k t) ∧ (s.freeSlot = none → s.NextWaits n t) := by
  obtain ⟨w1, w2⟩ := lineBody_skips (n := n) hcm hc ha h0 hl
  cases hf : s.freeRing with
  | nil =>
    have hnone : s.freeSlot = none := by rw [freeSlot_eq_head, hf]; rfl
    rw [w1 hf]
    obtain ⟨g1, g2⟩ := settle_skipWaits hb ho hcm hc hf ⟨1, 0, ((s.slot i).pageNo + 1) % 1000000, .strikeAndAfter⟩ rfl
    exact ⟨g1, fun k hk => (nomatch hnone.symm.trans hk), fun _ => g2⟩
  | cons f fs =>
    have hsome : s.freeSlot = some f := (freeRing_head hf).2
    rw [w2 f fs hf]
    obtain ⟨g1, g2⟩ := settle_skipOpens (h := h) hb ho hcm hc hf
    refine ⟨g1, fun k hk => ?_, fun hn => (nomatch hsome.symm.trans hn)⟩
    obtain rfl : f = k := Option.some.inj (hsome.symm.trans hk)
    exact g2

/-- Settles O37: the codes, a LINE by the turns of its two movements, and a skip to the top by the close of its page. -/
theorem skipToTopTurnsThePage : Obligations.SkipToTopTurnsThePage := by
  unfold Obligations.SkipToTopTurnsThePage
  refine ⟨translateCode_cases, fun pos run codes hp => ⟨writeCodes_length run codes, writeCodes_getD hp run codes⟩,
    numberCodes_spec, ?_, ?_⟩
  · intro n i h b a m1 m2 l1 l2 j added s hb hr ho hcm hst hj hjs hw hk hcb hca hsb hsa hm1 hm2 h1 hi hmarks hstate hsplit
      hfirst htext hadded htempl l free pages turns number translated
    have hc : s.Composes i j := ⟨hi, hmarks, ⟨hstate, hsplit, hfirst⟩, hj⟩
    obtain rfl : added = s.lineAdded i h m1 l1 := hadded
    obtain ⟨g1, g2, g3, g4⟩ := settle_lineTurns hb ho hcm hc hca hm1 hm2 h1 htext htempl
    refine ⟨_, exec_line ho hr hst hj hjs hw hk hcb hca hsb hsa, g2.imaging, g1.closed, g1.opened, fun p hp => ?_, g4,
      g2.pool, g2.overrun, g1.other, g2.others, g2.form, g2.queue, g2.hostMem⟩
    obtain ⟨⟨p1, p2, p3, p4, p5, p6⟩, e2, ⟨e3, e4⟩, e5, ⟨e6, e7, e8⟩, e9⟩ := g3 p hp
    refine ⟨p1, p2, p3, p4, p5.trans ?_, p6, e2, e3, e4, e5, e6, e7, e8, e9⟩
    by_cases hm : m2 = 0
    · rw [if_pos hm, if_pos (by omega)]
    · rw [if_neg hm, if_neg (by omega)]
  · intro n i h j s hb hr ho hcm hst hj hjs hw hk hbef haft h0 hi hmarks hstate hsplit hfirst hlines
    have hc : s.Composes i j := ⟨hi, hmarks, ⟨hstate, hsplit, hfirst⟩, hj⟩
    have hexec := exec_line (b := .top) (a := .space 0) ho hr hst hj hjs hw hk (by rw [hbef]; exact carriageOf_values.2.1)
      (by rw [haft]; exact carriageOf_values.1 0 (by decide)) rfl rfl
    obtain ⟨⟨k1, k2, k3, k4, k5, k6, k7⟩, g2, g3⟩ :=
      settle_skips hb ho hcm hc (h := h) (by rw [haft]; exact carriageOf_values.1 0 (by decide)) h0 hlines
    obtain ⟨ks, ref, made, hshut⟩ := hc.fresh.shut s
    obtain ⟨f1, f2, f3⟩ := shut_fields s hfirst
    refine ⟨_, hexec, by rw [k1, hshut], by rw [k1, hshut], by rw [k1, hshut], by rw [k1, hshut], by rw [k1, hshut], k2, k3,
      k4, fun k hk => ?_, g3, by rw [k1, hshut], by rw [k1]; exact f3, by rw [k1]; exact f2, fun ht => ⟨?_, fun hn => ?_⟩,
      fun k caught codes hm htop hfind _ hg hcaught hcodes => ?_, k6, k7⟩
    · obtain ⟨e1, e2, e3, e4⟩ := g2 k hk
      rw [e1]
      exact ⟨rfl, rfl, rfl, rfl, rfl, rfl, rfl, rfl, rfl, rfl, rfl, e2, e3, e4⟩
    · rw [k1, f1, filled_strikes ht]
      rfl
    · rw [k5, closeFinal_stream, if_pos hn]
      exact congrArg (satAdd _) (closeSubstitutes_plain hfirst ht)
    · rw [k1]
      refine template_mem_shut hfirst hm htop hfind hg (filledCodes_eq hcaught ?_)
      rcases hcodes with ⟨h1, h2⟩ | ⟨h1, h2, h3⟩
      · exact .inl ⟨h1.imp id fun h => (Bool.and_eq_true _ _).mpr h, h2⟩
      · exact .inr ⟨h1, (Bool.and_eq_false_iff).mpr h2, h3⟩

end Sys2Proof.Machine
end
section
/-! SUPPORT. What the invariant of the strike pool looks at, and the changes of a page slot that keep it (R64, R97,
R100). -/

namespace Sys2Proof.Machine

/-! ## The entries the slots hold (R100) -/

/-- The strike pool entries that the slots hold. -/
def State.held (s : State) : Nat := (allSlots.map fun i => (s.slot i).strikes.length).sum

/-- Where one slot alone changes, the entries held change by what that slot holds more or less. -/
theorem held_change {s t : State} {i : Fin 4} (h : ∀ j, j ≠ i → t.slot j = s.slot j) :
    t.held + (s.slot i).strikes.length = s.held + (t.slot i).strikes.length := by
  simp only [State.held, allSlots, List.map_cons, List.map_nil, List.sum_cons, List.sum_nil]
  match i with
  | 0 => rw [h 1 (by decide), h 2 (by decide), h 3 (by decide)]; omega
  | 1 => rw [h 0 (by decide), h 2 (by decide), h 3 (by decide)]; omega
  | 2 => rw [h 0 (by decide), h 1 (by decide), h 3 (by decide)]; omega
  | 3 => rw [h 0 (by decide), h 1 (by decide), h 2 (by decide)]; omega

/-- The pool stays sound where one slot alone changes, with the count of the pool, and within the bounds. -/
theorem State.PoolSound.change {s t : State} {i : Fin 4} (hs : s.PoolSound) (ho : ∀ j, j ≠ i → t.slot j = s.slot j)
    (he : (t.slot i).FreeIsEmpty)
    (hp : t.store.poolUsed + (s.slot i).strikes.length = s.store.poolUsed + (t.slot i).strikes.length)
    (hb : t.store.poolUsed ≤ Config.poolSize) (hl : ∀ line, (t.slot i).strikesOn line ≤ Config.lineStrikes) :
    t.PoolSound := by
  obtain ⟨empty, used, -, lines⟩ := hs
  have used : s.store.poolUsed = s.held := used
  refine ⟨fun j => ?_, ?_, hb, fun j line => ?_⟩
  · by_cases hj : j = i
    · exact hj ▸ he
    · exact ho j hj ▸ empty j
  · have change := held_change ho
    show t.store.poolUsed = t.held
    omega
  · by_cases hj : j = i
    · exact hj ▸ hl line
    · exact ho j hj ▸ lines j line

/-! ## Slots that keep their strikes -/

/-- The slot `b` has come of `a` with the strikes of `a` on their lines, and it is not FREE, or as FREE as `a` was. -/
structure Slot.KeepsStrikes (a b : Slot) : Prop where
  lines : b.strikes.map (·.line) = a.strikes.map (·.line)
  free : b.state = .free → a.state = .free ∧ (a.mark = false → b.mark = false)

theorem Slot.KeepsStrikes.refl (a : Slot) : a.KeepsStrikes a := ⟨rfl, fun h => ⟨h, id⟩⟩

theorem Slot.KeepsStrikes.trans {a b c : Slot} (h : a.KeepsStrikes b) (k : b.KeepsStrikes c) : a.KeepsStrikes c :=
  ⟨k.lines.trans h.lines, fun hc =>
    ⟨(h.free (k.free hc).1).1, fun ha => (k.free hc).2 ((h.free (k.free hc).1).2 ha)⟩⟩

theorem Slot.KeepsStrikes.length {a b : Slot} (h : a.KeepsStrikes b) : b.strikes.length = a.strikes.length := by
  simpa using congrArg List.length h.lines

theorem strikesOn_eq_count (sl : Slot) (line : Nat) : sl.strikesOn line = (sl.strikes.map (·.line)).count line := by
  rw [Slot.strikesOn, List.count, List.countP_map]
  exact List.countP_congr fun k _ => by simp

theorem Slot.KeepsStrikes.strikesOn {a b : Slot} (h : a.KeepsStrikes b) (line : Nat) :
    b.strikesOn line = a.strikesOn line := by
  rw [strikesOn_eq_count, strikesOn_eq_count, h.lines]

theorem Slot.KeepsStrikes.freeIsEmpty {a b : Slot} (h : a.KeepsStrikes b) (ha : a.FreeIsEmpty) : b.FreeIsEmpty := by
  intro hb
  obtain ⟨hf, hm⟩ := h.free hb
  obtain ⟨he, hn⟩ := ha hf
  exact ⟨List.eq_nil_of_length_eq_zero (h.length.trans (by rw [he]; rfl)), hm hn⟩

/-- A strike keeps its line when it is translated (R109). -/
theorem translated_line (f : Form) (d : Directory) (k : Strike) : (k.translated f d).line = k.line := by
  unfold Strike.translated
  split <;> rfl

theorem fillHeader_keepsStrikes (f : Form) (b : Bool) (sl : Slot) : sl.KeepsStrikes (sl.fillHeader f b) := by
  unfold Slot.fillHeader
  split
  · refine ⟨?_, fun h => ⟨h, id⟩⟩
    rw [List.map_map]
    refine List.map_congr_left fun k _ => ?_
    rw [Function.comp_apply]
    split <;> rfl
  · exact ⟨rfl, fun h => ⟨h, id⟩⟩

/-- A close fills and translates strikes where they stand (R104). -/
theorem closedSlot_keepsStrikes (s : State) (row : Nat) (sl : Slot) : sl.KeepsStrikes (s.closedSlot row sl) := by
  have translate (a : Slot) (r : Option GlyphRef) : a.KeepsStrikes { a with
      strikes := a.strikes.map (·.translated s.loadedForm s.directory), ruleRef := r, firstClose := true } := by
    refine ⟨?_, fun h => ⟨h, id⟩⟩
    rw [List.map_map]
    exact List.map_congr_left fun k _ => translated_line _ _ k
  unfold State.closedSlot
  dsimp only
  split
  · exact (fillHeader_keepsStrikes _ _ sl).trans (translate _ _)
  · exact translate sl _

theorem finalEntry_keepsStrikes (sl : Slot) : sl.KeepsStrikes sl.finalEntry := by
  unfold Slot.finalEntry
  split
  · exact ⟨rfl, fun h => by dsimp only at h; split at h <;> cases h⟩
  · exact ⟨rfl, fun h => ⟨h, fun _ => rfl⟩⟩
  · exact ⟨rfl, fun h => ⟨h, fun _ => rfl⟩⟩

theorem flushEntry_keepsStrikes (row : Nat) (sl : Slot) : sl.KeepsStrikes (sl.flushEntry row) := by
  unfold Slot.flushEntry
  split
  · exact ⟨rfl, fun h => by dsimp only at h; split at h <;> cases h⟩
  · exact ⟨rfl, fun h => ⟨h, id⟩⟩
  · exact ⟨rfl, fun h => ⟨h, id⟩⟩

theorem reverted_keepsStrikes (sl : Slot) : sl.KeepsStrikes sl.reverted := by
  unfold Slot.reverted
  split
  · exact ⟨rfl, nofun⟩
  · exact ⟨rfl, nofun⟩
  · exact ⟨rfl, nofun⟩
  · split
    · exact ⟨rfl, fun h => ⟨h, id⟩⟩
    · exact .refl sl
  · exact .refl sl

/-- A message taken leaves its slot with the entry's rest, COMPOSING or SENT (R102, R133). -/
theorem advanced_keepsStrikes (m : Message) (sl : Slot) : sl.KeepsStrikes (sl.advanced m) := by
  unfold Slot.advanced
  split
  · exact .refl sl
  · split
    · split
      · exact ⟨rfl, fun h => ⟨h, id⟩⟩
      · exact ⟨rfl, fun h => by dsimp only at h; split at h <;> cases h⟩
    · exact ⟨rfl, fun h => ⟨h, id⟩⟩

end Sys2Proof.Machine
end
section
/-! SUPPORT. The operations on pages keep the strike pool sound: closes, openings, exits, reversions, discards, strikes
(R63, R64, R97, R99 to R104, R115 to R117). -/

namespace Sys2Proof.Machine

/-! ## Steps that keep the pool sound -/

/-- Between `s` and `t` the strike pool stayed sound. -/
structure State.PoolKept (s t : State) : Prop where
  sound : s.PoolSound → t.PoolSound

/-- The invariant of the pool is about the Page Store alone. -/
theorem State.PoolKept.of_store {s t : State} (h : t.store = s.store) : s.PoolKept t := by
  refine ⟨fun ⟨empty, used, bound, lines⟩ => ?_⟩
  have hs (i : Fin 4) : t.slot i = s.slot i := State.slot_congr h i
  exact ⟨fun i => hs i ▸ empty i, by simpa only [h, hs] using used, h ▸ bound, fun i line => hs i ▸ lines i line⟩

theorem State.PoolKept.refl (s : State) : s.PoolKept s := ⟨id⟩

theorem State.PoolKept.trans {a b c : State} (h : a.PoolKept b) (k : b.PoolKept c) : a.PoolKept c := ⟨k.sound ∘ h.sound⟩

/-- The step comes before changes that leave the Page Store. -/
theorem State.PoolKept.before {a b c : State} (h : a.PoolKept b) (k : c.store = b.store) : a.PoolKept c :=
  h.trans (.of_store k)

/-- The step comes after changes that leave the Page Store. -/
theorem State.PoolKept.after {a b c : State} (k : b.PoolKept c) (h : b.store = a.store) : a.PoolKept c :=
  (State.PoolKept.of_store h).trans k

theorem foldl_poolKept {α : Type} {f : State → α → State} (h : ∀ s a, State.PoolKept s (f s a)) (l : List α) (s : State) :
    s.PoolKept (l.foldl f s) := by
  induction l generalizing s with
  | nil => exact .refl s
  | cons a l ih => exact (h s a).trans (ih _)

/-! ## One slot changes -/

/-- A slot that keeps its strikes leaves the pool sound. -/
theorem modSlot_poolKept {s : State} {i : Fin 4} {f : Slot → Slot} (hf : (s.slot i).KeepsStrikes (f (s.slot i))) :
    s.PoolKept (s.modSlot i f) := by
  refine ⟨fun hs => ?_⟩
  have hi : (s.modSlot i f).slot i = f (s.slot i) := State.slot_modSlot_same s i f
  refine hs.change (i := i) (fun j hj => (State.slot_modSlot s i j f).trans (if_neg (Ne.symm hj)))
    (hi ▸ hf.freeIsEmpty (hs.1 i)) ?_ hs.2.2.1 fun line => ?_
  · rw [hi, hf.length]
    rfl
  · rw [hi, hf.strikesOn]
    exact hs.2.2.2 i line

/-- A slot that keeps its state, its mark and its strikes. -/
theorem modSlot_plain_poolKept (s : State) (i : Fin 4) {f : Slot → Slot}
    (hf : ∀ sl, (f sl).strikes = sl.strikes ∧ (f sl).state = sl.state ∧ (f sl).mark = sl.mark := by
      exact fun _ => ⟨rfl, rfl, rfl⟩) : s.PoolKept (s.modSlot i f) := by
  obtain ⟨h1, h2, h3⟩ := hf (s.slot i)
  exact modSlot_poolKept ⟨congrArg _ h1, fun h => ⟨h2.symm.trans h, fun hm => h3.trans hm⟩⟩

theorem modComposing_poolKept (s : State) {f : Slot → Slot}
    (hf : ∀ sl, (f sl).strikes = sl.strikes ∧ (f sl).state = sl.state ∧ (f sl).mark = sl.mark := by
      exact fun _ => ⟨rfl, rfl, rfl⟩) : s.PoolKept (s.modComposing f) := by
  unfold State.modComposing
  split
  · exact modSlot_plain_poolKept s _ hf
  · exact .refl s

/-- A slot that becomes FREE gives its strikes back to the pool (R97, R100). -/
theorem clearSlot_poolKept (s : State) (i : Fin 4) : s.PoolKept (s.clearSlot i) := by
  refine ⟨fun hs => ?_⟩
  have ho (j : Fin 4) (hj : j ≠ i) : (s.clearSlot i).slot j = s.slot j :=
    (State.slot_clearSlot s i j).trans (if_neg (Ne.symm hj))
  have hi : (s.clearSlot i).slot i = Slot.free := (State.slot_clearSlot s i i).trans (if_pos rfl)
  have used : s.store.poolUsed = s.held := hs.2.1
  have bound := hs.2.2.1
  have left : (s.clearSlot i).store.poolUsed = s.store.poolUsed - (s.slot i).strikes.length := rfl
  have change := held_change ho
  rw [hi] at change
  have none : Slot.free.strikes.length = 0 := rfl
  refine hs.change ho (hi ▸ fun _ => ⟨rfl, rfl⟩) ?_ ?_ fun line => ?_
  · rw [hi]
    omega
  · omega
  · rw [hi]
    exact Nat.zero_le _

/-- A page opens in a FREE slot, which holds no strike (R97, R99). -/
theorem openAt_poolKept {s : State} {i : Fin 4} (h : (s.slot i).state = .free) (n : Fin 8) (tag : Word32) (number : Nat)
    (first : Bool) : s.PoolKept (s.openAt i n tag number first) := by
  refine ⟨fun hs => ?_⟩
  have empty : (s.slot i).strikes = [] := (hs.1 i h).1
  have opens : s.PoolKept (s.modSlot i fun _ => s.openedSlot n tag number first) :=
    modSlot_poolKept ⟨by rw [empty]; rfl, nofun⟩
  exact ⟨(opens.sound hs).1, (opens.sound hs).2⟩

/-! ## Strikes (R63, R64) -/

/-- The slot of a strike placed holds it behind the others. -/
theorem placeStrike_slot (s : State) (n : Fin 8) (i : Fin 4) (h : RecordHeader) (line : Nat) (j : Fin 4) :
    (s.placeStrike n i h line).slot j = if i = j then { s.slot j with
      strikes := (s.slot j).strikes ++ [(s.slot j).newStrike h line s.loadedForm.positions (lineCodes h s.sc.buffer)]
      seqCount := (s.slot j).seqCount + 1 } else s.slot j :=
  State.slot_modSlot s i j fun sl =>
    { sl with
      strikes := sl.strikes ++ [sl.newStrike h line s.loadedForm.positions (lineCodes h s.sc.buffer)]
      seqCount := sl.seqCount + 1 }

theorem placeStrike_strikesOn (s : State) (n : Fin 8) (i : Fin 4) (h : RecordHeader) (line m : Nat) :
    ((s.placeStrike n i h line).slot i).strikesOn m = (s.slot i).strikesOn m + if line = m then 1 else 0 := by
  rw [placeStrike_slot, if_pos rfl, Slot.strikesOn, List.countP_append, List.countP_singleton]
  simp only [decide_eq_true_eq]
  rfl

/-- A strike that finds room on its line and in the pool keeps both bounds; its slot is not FREE. -/
theorem placeStrike_poolKept {s : State} {i : Fin 4} {line : Nat} (hm : (s.slot i).mark = true)
    (hl : (s.slot i).strikesOn line < Config.lineStrikes) (hp : s.store.poolUsed < Config.poolSize) (n : Fin 8)
    (h : RecordHeader) : s.PoolKept (s.placeStrike n i h line) := by
  refine ⟨fun hs => ?_⟩
  have slots (j : Fin 4) := placeStrike_slot s n i h line j
  have used : (s.placeStrike n i h line).store.poolUsed = s.store.poolUsed + 1 := rfl
  refine hs.change (i := i) (fun j hj => (slots j).trans (if_neg (Ne.symm hj))) (fun hf => ?_) ?_ ?_ fun m => ?_
  · rw [slots, if_pos rfl] at hf
    have unmarked := (hs.1 i hf).2
    rw [hm] at unmarked
    cases unmarked
  · rw [slots, if_pos rfl, used, List.length_append]
    exact Nat.add_right_comm ..
  · rw [used]
    exact hp
  · rw [placeStrike_strikesOn]
    by_cases e : line = m
    · subst e
      rw [if_pos rfl]
      exact hl
    · rw [if_neg e]
      exact hs.2.2.2 i m

theorem mark_of_composing {s : State} {i : Fin 4} (h : s.composing = some i) : (s.slot i).mark = true :=
  ((composing_iff s i).mp h).1

theorem free_of_freeSlot {s : State} {i : Fin 4} (h : s.freeSlot = some i) : (s.slot i).state = .free :=
  ((freeSlot_some_iff s i).mp h).1

theorem offerStrike_poolKept {s : State} {i : Fin 4} (hi : s.composing = some i) (n : Fin 8) (h : RecordHeader) :
    s.PoolKept (s.offerStrike n i h) := by
  unfold State.offerStrike
  dsimp only
  split
  · exact .of_store rfl
  · split
    · exact .of_store rfl
    · next hl =>
      split
      · exact .of_store rfl
      · next hp => exact placeStrike_poolKept (mark_of_composing hi) (Nat.not_le.mp hl) (Nat.not_le.mp hp) n h

/-! ## Closes (R104, R110, R111) -/

theorem closeSteps_poolKept (s : State) (i : Fin 4) (row : Nat) : s.PoolKept (s.closeSteps i row) := by
  unfold State.closeSteps
  dsimp only
  generalize hu : State.modSlot _ i (s.closedSlot row) = u
  have closed : s.PoolKept u := hu ▸ (modSlot_poolKept (closedSlot_keepsStrikes s row _)).after rfl
  split
  · exact closed
  · exact ⟨fun hs => ⟨(closed.sound hs).1, (closed.sound hs).2⟩⟩

theorem closeFinal_poolKept (s : State) (i : Fin 4) (e : Option JobEnd) : s.PoolKept (s.closeFinal i e) := by
  refine (closeSteps_poolKept s i _).trans (modSlot_poolKept ?_)
  exact ⟨(finalEntry_keepsStrikes _).lines, (finalEntry_keepsStrikes _).free⟩

theorem closeFlush_poolKept (s : State) (i : Fin 4) : s.PoolKept (s.closeFlush i) :=
  (closeSteps_poolKept s i _).trans (modSlot_poolKept (flushEntry_keepsStrikes _ _))

theorem releaseUnused_poolKept (s : State) (i : Fin 4) (e : Option JobEnd) : s.PoolKept (s.releaseUnused i e) := by
  unfold State.releaseUnused
  dsimp only
  split
  · next j _ =>
    let f : Slot → Slot := fun t =>
      { t with
        releaseOff := (s.slot i).releaseOff
        markTag := (s.slot i).markTag.or t.markTag
        jobEnds := t.jobEnds ++ e.toList }
    have passed : s.PoolKept (s.modSlot j f) := modSlot_plain_poolKept s j
    exact passed.trans ((clearSlot_poolKept _ i).after rfl)
  · exact (clearSlot_poolKept _ i).after (by simp)

theorem endPage_poolKept (s : State) (i : Fin 4) (e : JobEnd) : s.PoolKept (s.endPage i e) := by
  unfold State.endPage
  split
  · exact releaseUnused_poolKept s i _
  · exact closeFinal_poolKept s i _

/-! ## Exits (R103, R176) -/

theorem freeExited_poolKept (s : State) (i : Fin 4) : s.PoolKept (s.freeExited i) :=
  (((clearSlot_poolKept (s.pageExit (s.slot i).stream (s.slot i)) i).after (by simp))).before rfl

theorem takeExit_poolKept (s : State) (q : BitVec 8) : s.PoolKept (s.takeExit q) := by
  unfold State.takeExit
  split
  · next i _ =>
    have exits := foldl_poolKept freeExited_poolKept (s.exitNames i) s
    exact exits.before (by simp)
  · exact .refl s

/-! ## Reversions and discards (R116, R117) -/

theorem revertSlot_poolKept (s : State) (i : Fin 4) : s.PoolKept (s.revertSlot i) := by
  unfold State.revertSlot
  split
  · exact (modSlot_poolKept (reverted_keepsStrikes _)).before rfl
  · exact .refl s

theorem revertAll_poolKept (s : State) : s.PoolKept s.revertAll := by
  obtain ⟨v, e, -, hv, -⟩ := revertAll_cases s
  rw [e]
  exact (foldl_poolKept revertSlot_poolKept allSlots v).after hv

theorem raise_revertAll_poolKept (s : State) (b : BitVec 11) : s.PoolKept (s.raise b).revertAll :=
  (revertAll_poolKept _).after (by simp)

theorem takeJam_poolKept (s : State) : s.PoolKept s.takeJam := by
  unfold State.takeJam
  have h := raise_revertAll_poolKept { s with engine := { s.engine with state := .jammed } } operatorBit
  generalize (State.raise { s with engine := { s.engine with state := .jammed } } operatorBit).revertAll = u at h ⊢
  have kept : s.PoolKept u := h.after rfl
  exact kept.trans (.of_store rfl)

theorem enterOffline_poolKept (s : State) : s.PoolKept s.enterOffline := by
  unfold State.enterOffline
  have h := raise_revertAll_poolKept { s with engine := { s.engine with state := .offline } } offlineBit
  generalize (State.raise { s with engine := { s.engine with state := .offline } } offlineBit).revertAll = u at h ⊢
  have kept : s.PoolKept u := h.after rfl
  exact kept.trans (.of_store rfl)

theorem discardHalt_poolKept (s : State) : s.PoolKept s.discardHalt := by
  unfold State.discardHalt
  split
  · exact .refl s
  · exact (revertAll_poolKept _).after rfl

theorem discardSlots_poolKept (s : State) (n : Fin 8) : s.PoolKept (s.discardSlots n) := by
  let s1 : State := { s with engine := { s.engine with
    sent := s.engine.sent.filter fun m => !SentMsg.dropped (s.slotsOf n) m } }
  obtain ⟨u, hd, -, hu, -⟩ : ∃ u : State, s.discardSlots n =
      (if ((s.slotsOf n).any fun i => (s.slot i).onEngine) = true then ((s.slotsOf n).foldl State.clearSlot u).discardHalt
        else (s.slotsOf n).foldl State.clearSlot u) ∧
      u.sc = s1.sc ∧ u.store = s1.store ∧ u.linkOut = s1.linkOut ∧ u.engine = s1.engine :=
    ⟨_, rfl, dropOrStay_keeps _ _ s1⟩
  have cleared : s.PoolKept ((s.slotsOf n).foldl State.clearSlot u) := (foldl_poolKept clearSlot_poolKept _ u).after hu
  rw [hd]
  split
  · exact cleared.trans (discardHalt_poolKept _)
  · exact cleared

/-! ## Bands and messages (R123, R133, R171) -/

theorem startBand_poolKept (s : State) (i : Fin 4) (e : Entry) : s.PoolKept (s.startBand i e) := by
  have imaging (sl : Slot) : sl.KeepsStrikes { sl with state := if sl.state = .closed then .imaging else sl.state } := by
    refine ⟨rfl, fun h => ?_⟩
    dsimp only at h
    split at h
    · cases h
    · exact ⟨h, id⟩
  have begun : s.PoolKept ((s.takeSlot i e.first).modSlot i fun sl =>
      { sl with state := if sl.state = .closed then .imaging else sl.state }) :=
    (modSlot_poolKept (imaging _)).after (by simp)
  unfold State.startBand
  dsimp only
  split <;> exact begun.before rfl

theorem beginBand_poolKept (s : State) : s.PoolKept s.beginBand := by
  unfold State.beginBand
  split
  · split
    · split
      · exact startBand_poolKept s _ _
      · exact .refl s
    · exact .refl s
  · exact .refl s

theorem runBands_poolKept (k : Nat) (s : State) : s.PoolKept (State.runBands k s) := by
  induction k generalizing s with
  | zero => exact .refl s
  | succ k ih =>
    unfold State.runBands
    dsimp only
    split
    · exact ((beginBand_poolKept _).after (by simp)).trans (ih _)
    · exact .of_store (by simp)

theorem numberPage_poolKept (s : State) (i : Fin 4) (m : Message) : s.PoolKept (s.numberPage i m) := by
  unfold State.numberPage
  split
  · have numbered : s.PoolKept (s.modSlot i fun sl => { sl with pageSeq := some s.engine.pageSeq }) :=
      modSlot_plain_poolKept s i
    exact numbered.before rfl
  · exact .refl s

theorem takeMessage_poolKept (s : State) (m : Message) (i : Fin 4) (rest : List Message) :
    s.PoolKept (s.takeMessage m i rest) := by
  unfold State.takeMessage
  dsimp only
  generalize hu : ((s.alignFor m).numberPage i m).hand m _ = u
  have hu : s.PoolKept u := hu ▸ ((numberPage_poolKept (s.alignFor m) i m).after (by simp)).before (by simp)
  have taken : u.linger.PoolKept (u.linger.modSlot i (Slot.advanced m)) := modSlot_poolKept (advanced_keepsStrikes m _)
  exact (hu.trans (taken.after (by simp))).before (by simp)

theorem handOver_poolKept (s : State) : s.PoolKept s.handOver := by
  unfold State.handOver
  split
  · exact .refl s
  · split
    · split
      · exact .of_store (by simp)
      · exact .refl s
    · split
      · split
        · exact takeMessage_poolKept s _ _ _
        · exact .refl s
      · exact .refl s
    · exact .refl s

end Sys2Proof.Machine
end
section
/-! SUPPORT. Records, jobs, faults, loads, requests and frames keep the strike pool sound. -/

namespace Sys2Proof.Machine

/-! ## Page turns and the LINE record (R49, R58, R66) -/

theorem takeTo_poolKept (s : State) (n : Fin 8) (k : Nat) : s.PoolKept (s.takeTo n k) :=
  (modComposing_poolKept (s.modStream n fun r => { r with take := k, recordsTaken := satAdd r.recordsTaken 1 })
    (f := fun sl => { sl with releaseOff := k })).after rfl

theorem advanceTake_poolKept (s : State) (n : Fin 8) (len : Nat) : s.PoolKept (s.advanceTake n len) :=
  (takeTo_poolKept s n _).before rfl

theorem finishLine_poolKept (s : State) (n : Fin 8) (h : RecordHeader) : s.PoolKept (s.finishLine n h) :=
  (advanceTake_poolKept s n h.length).before (by simp [State.finishLine])

theorem turnPages_poolKept (n : Fin 8) (line : Nat) (rest : RecordRest) (k : Nat) (s : State) :
    s.PoolKept (State.turnPages n line rest k s) := by
  induction k generalizing s with
  | zero => exact .of_store rfl
  | succ k ih =>
    unfold State.turnPages
    split
    · exact .refl s
    · next i _ =>
      dsimp only
      have closed := closeFinal_poolKept s i none
      split
      · next j hj => exact (closed.trans (openAt_poolKept (free_of_freeSlot hj) ..)).trans (ih _)
      · exact closed.before rfl

theorem moveCarriage_poolKept (s : State) (n : Fin 8) (c : Carriage) (rest : RecordRest) :
    s.PoolKept (s.moveCarriage n c rest) := turnPages_poolKept ..

theorem lineAfter_poolKept (s : State) (n : Fin 8) (h : RecordHeader) : s.PoolKept (s.lineAfter n h) := by
  unfold State.lineAfter
  split
  · next c _ =>
    dsimp only
    split
    · exact moveCarriage_poolKept s n c .nothing
    · exact (moveCarriage_poolKept s n c .nothing).trans (finishLine_poolKept _ n h)
  · exact .refl s

theorem lineStrike_poolKept (s : State) (n : Fin 8) (h : RecordHeader) : s.PoolKept (s.lineStrike n h) := by
  unfold State.lineStrike
  split
  · exact .refl s
  · next i hi =>
    have struck : s.PoolKept (if h.textCount = 0 then s else s.offerStrike n i h) := by
      split
      · exact .refl s
      · exact offerStrike_poolKept hi n h
    dsimp only
    generalize (if h.textCount = 0 then s else s.offerStrike n i h) = u at struck ⊢
    split
    · exact struck
    · exact struck.trans (lineAfter_poolKept u n h)

theorem lineBody_poolKept (s : State) (n : Fin 8) (h : RecordHeader) (c : Carriage) : s.PoolKept (s.lineBody n h c) := by
  unfold State.lineBody
  dsimp only
  split
  · exact moveCarriage_poolKept s n c .strikeAndAfter
  · exact (moveCarriage_poolKept s n c .strikeAndAfter).trans (lineStrike_poolKept _ n h)

/-! ## Faults (R41, R68) -/

theorem faultPage_poolKept (s : State) (n : Fin 8) (c : FaultCode) : s.PoolKept (s.faultPage n c) := by
  unfold State.faultPage
  split
  · split
    · exact .of_store (by simp)
    · exact .refl s
  · next j _ =>
    dsimp only
    split
    · split
      · exact (endPage_poolKept s _ _).before rfl
      · split
        · next k _ =>
          have ended : s.PoolKept (s.modSlot k fun sl => { sl with jobEnds := sl.jobEnds ++ [⟨j.tag, .faulted⟩] }) :=
            modSlot_plain_poolKept s k
          exact ended.before rfl
        · exact .of_store rfl
    · exact .of_store rfl

theorem faultActive_poolKept (s : State) (n : Fin 8) (c : FaultCode) : s.PoolKept (s.faultActive n c) :=
  ((faultPage_poolKept s.abandonLoad n c).after (by simp)).before (faultActive_store s n c)

/-! ## Records (R37 to R40, R76) -/

theorem takeLine_poolKept (s : State) (n : Fin 8) (h : RecordHeader) : s.PoolKept (s.takeLine n h) := by
  unfold State.takeLine
  split
  · split
    · split
      · exact lineBody_poolKept s n h _
      · exact faultActive_poolKept s n _
    · exact faultActive_poolKept s n _
  · exact faultActive_poolKept s n _

theorem takeJob_poolKept (s : State) (n : Fin 8) : s.PoolKept (s.takeJob n) := by
  unfold State.takeJob
  split
  · exact faultActive_poolKept s n _
  · dsimp only
    split
    · exact (faultActive_poolKept _ n _).after rfl
    · exact .of_store rfl

theorem endJobPage_poolKept (s : State) (e : JobEnd) : s.PoolKept (s.endJobPage e) := by
  unfold State.endJobPage
  split
  · exact endPage_poolKept s _ e
  · exact .refl s

theorem takeEnd_poolKept (s : State) (n : Fin 8) (h : RecordHeader) : s.PoolKept (s.takeEnd n h) := by
  by_cases hj : s.comp.jobInProgress = true
  · rw [takeEnd_eq hj]
    obtain ⟨-, -, -, -, -, store, -⟩ := leaveJob_leaves
      ((s.advanceTake n h.length).endJobPage ⟨(s.comp.job.map (·.tag)).getD 0, .done⟩) n
    exact ((advanceTake_poolKept s n h.length).trans (endJobPage_poolKept _ _)).before store
  · rw [State.takeEnd, if_neg hj]
    exact faultActive_poolKept s n _

theorem takeMark_poolKept (s : State) (n : Fin 8) (h : RecordHeader) : s.PoolKept (s.takeMark n h) := by
  unfold State.takeMark
  split
  · have marked := modComposing_poolKept (s.advanceTake n h.length) (f := fun sl =>
      { sl with markTag := some (shortTag s.sc.buffer) })
    exact ((advanceTake_poolKept s n h.length).trans marked).before (by simp)
  · exact faultActive_poolKept s n _

theorem takeWrap_poolKept (s : State) (n : Fin 8) : s.PoolKept (s.takeWrap n) := by
  unfold State.takeWrap
  dsimp only
  refine (takeTo_poolKept s n 0).before ?_
  split <;> simp

theorem startJob_poolKept {s : State} {i : Fin 4} (hi : (s.slot i).state = .free) (n : Fin 8) (j : JobInfo) :
    s.PoolKept (s.startJob i n j) := by
  have opened := openAt_poolKept hi n j.tag (j.firstPage % Config.pageNumbers) true
  unfold State.startJob
  dsimp only
  generalize hu : State.modStream _ n _ = u
  have started : s.PoolKept u := opened.before (hu ▸ rfl)
  exact (started.trans (advanceTake_poolKept u n 16)).before (by simp)

theorem openJob_poolKept (s : State) (n : Fin 8) : s.PoolKept (s.openJob n) := by
  unfold State.openJob
  split
  · exact .refl s
  · split
    · next hi => exact startJob_poolKept (free_of_freeSlot hi) n _
    · exact .of_store rfl

theorem resumeRecord_poolKept (s : State) (n : Fin 8) (rest : RecordRest) : s.PoolKept (s.resumeRecord n rest) := by
  cases rest with
  | openJob => exact .refl s
  | strikeAndAfter => exact lineStrike_poolKept s n _
  | nothing => exact finishLine_poolKept s n _

theorem takeRecord_poolKept (s : State) (k : RecordKind) {act : Fin 8 → RecordHeader → State}
    (hact : ∀ n h, s.PoolKept (act n h)) : s.PoolKept (s.takeRecord k act) := by
  rcases takeRecord_cases s k act with e | ⟨n, -, -, -, ⟨_, -, -, e⟩ | ⟨h, -, -, e⟩⟩ <;> rw [e]
  · exact .refl s
  · exact faultActive_poolKept s n _
  · exact hact n h

/-- A wait ends with a slot FREE, or with an entry of the pool (R65 to R67). -/
theorem resumeWait_poolKept (s : State) : s.PoolKept s.resumeWait := by
  unfold State.resumeWait
  split
  · exact .refl s
  · next n _ =>
    split
    · next p _ _ =>
      split
      · exact .refl s
      · next i hi =>
        split
        · exact openJob_poolKept s n
        · let v : State := { s with comp := { s.comp with state := .ready, waiting := none } }
          have opens : v.PoolKept (v.openNext i n p.pageNo) := openAt_poolKept (s := v) (free_of_freeSlot hi) ..
          have opened : s.PoolKept (v.openNext i n p.pageNo) := opens.after rfl
          dsimp only
          split
          · exact opened.trans (turnPages_poolKept ..)
          · exact (opened.trans (turnPages_poolKept ..)).trans (resumeRecord_poolKept _ n _)
    · split
      · exact (lineStrike_poolKept _ n _).after rfl
      · exact .refl s
    · exact .refl s

theorem memReadFault_poolKept (s : State) : s.PoolKept s.memReadFault := by
  unfold State.memReadFault
  split
  · split
    · exact faultActive_poolKept s _ _
    · exact .refl s
  · exact .refl s

theorem endLoad_poolKept (s : State) (c : FaultCode) : s.PoolKept (s.endLoad c) := by
  unfold State.endLoad
  dsimp only
  split
  · exact (faultActive_poolKept _ _ c).after rfl
  · exact .of_store rfl

theorem checkForm_poolKept (s : State) : s.PoolKept s.checkForm := by
  rcases checkForm_cases s with ⟨e, -⟩ | ⟨_, _, -, -, -, ⟨-, e⟩ | ⟨-, e⟩⟩ <;> rw [e]
  · exact .refl s
  · exact .of_store rfl
  · exact endLoad_poolKept s _

theorem takeFormBytes_poolKept (s : State) (b : List Byte) : s.PoolKept (s.takeFormBytes b) := by
  unfold State.takeFormBytes
  split
  · dsimp only
    split
    · split
      · exact (openJob_poolKept _ _).after rfl
      · exact .of_store rfl
    · exact .of_store rfl
  · exact .refl s

theorem flushExpired_poolKept (s : State) : s.PoolKept s.flushExpired := by
  unfold State.flushExpired
  dsimp only
  split
  · split
    · exact (closeFlush_poolKept _ _).after rfl
    · exact .of_store rfl
  · exact .of_store rfl

/-! ## Requests and descriptors (R24 to R28, R71) -/

theorem checkFill_poolKept (s : State) (n : Fin 8) (p : Nat) : s.PoolKept (s.checkFill n p) := by
  rcases checkFill_cases s n p with ⟨-, e⟩ | ⟨-, -, e⟩ | ⟨-, -, e⟩ | ⟨-, -, e⟩ <;> rw [e]
  · exact .refl s
  · exact .of_store (by simp)
  · exact .of_store (by simp)
  · exact faultActive_poolKept s n _

theorem takeFields_poolKept (s : State) (n : Fin 8) (t : Taken) : s.PoolKept (s.takeFields n t) :=
  (checkFill_poolKept s n t.fill).before (by simp [State.takeFields])

theorem takeFields_scan_poolKept (s : State) (n : Fin 8) (t : Taken) : s.PoolKept ((s.takeFields n t).scanAfter n) :=
  (takeFields_poolKept s n t).before (by simp)

theorem takeDescriptor_poolKept (s : State) (n : Fin 8) (b : List Byte) : s.PoolKept (s.takeDescriptor n b) := by
  unfold State.takeDescriptor
  dsimp only
  split
  · exact .of_store rfl
  · split
    · exact takeFields_scan_poolKept s n _
    · exact .of_store rfl
    · exact .of_store rfl

theorem requestFieldWritten_poolKept (s : State) (n : Fin 8) (c : Bool) : s.PoolKept (s.requestFieldWritten n c) := by
  unfold State.requestFieldWritten State.actionEnds
  split
  · exact (takeFields_scan_poolKept _ _ _).after (by simp)
  · exact .of_store (by simp)

theorem cancelStream_poolKept (s : State) (n : Fin 8) : s.PoolKept (s.cancelStream n) := by
  unfold State.cancelStream
  split
  · split
    · exact (discardSlots_poolKept s n).before (by simp [State.cancelActive])
    · exact .of_store (by simp)
  · split
    · exact .refl s
    · exact .of_store (by simp)

theorem doCancel_poolKept (s : State) (n : Fin 8) (t : Taken) : s.PoolKept (s.doCancel n t) := by
  unfold State.doCancel
  split
  · exact (cancelStream_poolKept s n).before (by simp)
  · exact (cancelStream_poolKept s n).before (by simp)
  · exact .of_store (by simp)
  · exact .of_store (by simp)

theorem doReset_poolKept (s : State) (n : Fin 8) (t : Taken) : s.PoolKept (s.doReset n t) := by
  have closed : s.PoolKept (s.resetStream n) := by
    unfold State.resetStream
    dsimp only
    split
    · exact (discardSlots_poolKept s n).before (by simp)
    · exact (discardSlots_poolKept s n).before (by simp)
  unfold State.doReset
  split
  · exact .of_store (by simp)
  · exact closed.before (by simp)

theorem onRequest_poolKept (s : State) (c : RequestCode) {act : Fin 8 → Taken → State} (h : ∀ n t, s.PoolKept (act n t)) :
    s.PoolKept (s.onRequest c act) := by
  rcases onRequest_cases s c act with e | ⟨n, t, -, -, -, -, e⟩ <;> rw [e]
  · exact .refl s
  · exact h n t

/-! ## Fills (R146, R147) -/

theorem takeSubBlock_poolKept (s : State) (b : List Byte) : s.PoolKept (s.takeSubBlock b) := by
  unfold State.takeSubBlock
  split
  · exact .refl s
  · dsimp only
    split
    · exact .of_store rfl
    · split
      · exact (runBands_poolKept _ _).after (by simp)
      · split
        · exact (runBands_poolKept _ _).after rfl
        · exact .of_store rfl

theorem failSubBlock_poolKept (s : State) : s.PoolKept s.failSubBlock := by
  unfold State.failSubBlock
  split
  · exact .refl s
  · dsimp only
    split
    · exact (runBands_poolKept _ _).after (by simp)
    · split
      · exact (runBands_poolKept _ _).after rfl
      · exact .of_store rfl

/-! ## Frames received (R165, R175 to R177) -/

theorem takeRefusal_poolKept (s : State) (q : BitVec 16) : s.PoolKept (s.takeRefusal q) := by
  unfold State.takeRefusal
  dsimp only
  split
  · exact .of_store rfl
  · split
    · have jammed (u : State) : u.PoolKept u.takeJam.sendHalt := (takeJam_poolKept u).before (by simp)
      exact (jammed _).after rfl
    · split
      · exact .of_store rfl
      · split
        · exact .of_store (by simp)
        · exact .of_store rfl

theorem takeStatus_poolKept (s : State) (c : Condition) : s.PoolKept (s.takeStatus c) := by
  have jam (u : State) : u.PoolKept (u.statusJam c) := by
    unfold State.statusJam
    split
    · exact takeJam_poolKept u
    · exact .refl u
  have exit (u : State) : u.PoolKept (u.statusExit c) := by
    unfold State.statusExit
    dsimp only
    split
    · split
      · exact (takeExit_poolKept _ _).after rfl
      · exact .of_store rfl
    · exact .of_store rfl
  have lost (u : State) (a : Bool) : u.PoolKept (u.lostRefusal a) := by
    unfold State.lostRefusal
    split
    · split
      · exact takeRefusal_poolKept _ _
      · exact .refl u
    · exact .refl u
  unfold State.takeStatus
  dsimp only
  split
  · split
    · exact .of_store (by simp)
    · exact .refl s
  · have held (u : State) : u.PoolKept (u.statusNotReady c) := .of_store (by simp)
    have ends (u : State) : u.PoolKept (u.statusHalt c).owedAdvance := .of_store (by simp)
    have taken : s.PoolKept ((s.answerPoll.takeCondition c).takeAcceptance c.lastAccepted) := .of_store (by simp)
    exact ((((taken.trans (jam _)).trans (held _)).trans (exit _)).trans (lost _ _)).trans (ends _)

theorem receive_poolKept (s : State) (f : RxFrame) : s.PoolKept (s.receive f) := by
  have seq : (s.takeSequence f.seq).store = s.store := by simp
  unfold State.receive
  dsimp only
  split
  · exact .refl s
  · split
    · exact .of_store rfl
    · split
      · exact (takeStatus_poolKept _ _).after seq
      · split
        · exact .of_store seq
        · split
          · exact (takeExit_poolKept _ _).after seq
          · exact (takeRefusal_poolKept _ _).after seq

end Sys2Proof.Machine
end
section
/-! PROOF. The strike pool stays sound through every command (R64, R97, R100). -/

namespace Sys2Proof.Machine

/-! ## The settlement -/

theorem settleImaging_poolKept (s : State) : s.PoolKept s.settleImaging := (checkForm_poolKept _).after (by simp)

theorem settleComposer_poolKept (s : State) : s.PoolKept s.settleComposer :=
  ((resumeWait_poolKept s).trans (memReadFault_poolKept _)).before (by simp [State.settleComposer])

/-- What follows a command keeps the pool sound. -/
theorem settle_poolKept (old s : State) : s.PoolKept (State.settle old s) := by
  unfold State.settle
  split
  · exact .refl s
  · exact ((settleImaging_poolKept s).trans (settleComposer_poolKept _)).before (by simp [State.settleEngine])

theorem State.PoolKept.settles {s t : State} (h : s.PoolKept t) (old : State) : s.PoolKept (State.settle old t) :=
  h.trans (settle_poolKept old t)

/-! ## What the bus ends -/

theorem completed_poolKept (s : State) (p : TransferKind → Bool) (data : List Byte)
    {act : TransferKind → State → State} (h : ∀ k u, State.PoolKept u (act k u)) :
    s.PoolKept (s.completed p data act) := by
  rcases completed_cases s p data act with e | ⟨t, -, -, -, u, hu, ⟨-, -, e⟩ | ⟨-, e⟩⟩ <;> rw [e]
  · exact .refl s
  · exact (h _ u).after (by rw [hu]; rfl)
  · exact .of_store (by rw [hu]; rfl)

theorem failed_poolKept (s : State) {act : TransferKind → State → State} (h : ∀ k u, State.PoolKept u (act k u)) :
    s.PoolKept (s.failed act) := by
  rcases failed_cases s act with ⟨-, e⟩ | ⟨t, -, u, hu, ⟨-, e⟩ | ⟨-, -, e⟩ | ⟨-, -, e⟩⟩ <;> rw [e]
  · exact .refl s
  · exact .of_store (by rw [hu]; rfl)
  · exact (h _ _).after (by simp [hu, State.endTransfer])
  · exact .of_store (by simp [hu, State.endTransfer])

/-- Of the failures, those of a form load and of a sub-block read come to pages, and that of a request field write to the
fill pointer. -/
theorem failureOf_poolKept (k : TransferKind) (s : State) : s.PoolKept (failureOf k s) := by
  cases k with
  | formRecord | vft | translate => exact endLoad_poolKept s _
  | subBlock => exact failSubBlock_poolKept s
  | requestField n => exact (requestFieldWritten_poolKept _ n true).after (by simp)
  | areaHeader | descriptor n | openRead n | ring n | discardRing n | fontDirectory | flushDirectory | descriptorWrite n
  | deviceRecord | deviceRecordHigh => exact .of_store (by simp [failureOf])

theorem missPoll_poolKept (s : State) : s.PoolKept s.missPoll := by
  unfold State.missPoll
  dsimp only
  split
  · exact (enterOffline_poolKept _).after rfl
  · exact .of_store rfl

/-! ## Registers and the panel -/

/-- An empty Page Store is sound. -/
theorem poolSound_initial {s : State} (h : s.store = PageStore.initial) : s.PoolSound := by
  have hs (i : Fin 4) : s.slot i = Slot.free := slot_initial h i
  refine ⟨fun i => hs i ▸ fun _ => ⟨rfl, rfl⟩, ?_, by rw [h]; decide, fun i line => hs i ▸ Nat.zero_le _⟩
  simp only [hs, h]
  rfl

theorem writeControl_poolKept (s : State) (v : Word32) : s.PoolKept (s.writeControl v) := by
  unfold State.writeControl
  split
  · exact .refl s
  · split
    · exact ⟨fun _ => poolSound_initial rfl⟩
    · exact (State.PoolKept.of_store (plainControl_frame s v).store).settles s

theorem writeRegister_poolKept (s : State) (o : Nat) (v : Word32) : s.PoolKept (s.writeRegister o v) := by
  unfold State.writeRegister
  split
  · exact writeControl_poolKept s v
  · refine .of_store ?_
    repeat' split
    all_goals simp

theorem press_poolKept (s : State) (b : Button) {act : State → State} (h : ∀ u : State, (act u).store = u.store) :
    s.PoolKept (s.press b act) := by
  rcases press_cases s b act with ⟨-, e⟩ | ⟨-, -, e⟩ | ⟨-, -, e⟩ <;> rw [e]
  · exact .refl s
  · exact .of_store rfl
  · exact .of_store (h _)

/-! ## The commands -/

/-- Every command keeps the strike pool sound. -/
theorem exec_poolKept {c : Instr} {s t : State} (h : exec c s = .next t) : s.PoolKept t := by
  have bus : ∀ (late : Bool) {u : State}, s.PoolKept u → s.PoolKept (s.answered late u) := fun late u k => by
    cases late
    · exact k.settles s
    · exact .refl s
  have frames : ∀ f, s.PoolKept (State.settle s (s.receive f)) := fun f => (receive_poolKept s f).settles s
  cases c with
  | powerOn => cases h; exact ⟨fun _ => poolSound_initial rfl⟩
  | runSet w | runClear w | deviceReset w | glyphFlush w | sweepInterval w => cases h; exact writeControl_poolKept s _
  | attention w | eventsWrite w | eventMaskWrite w | areaBaseWrite w => cases h; exact writeRegister_poolKept s _ _
  | registerWriteIgnored k w => cases h; exact writeRegister_poolKept s _ _
  | deviceResetDone =>
    cases h
    split <;> exact .of_store rfl
  | sweepTimerExpiry =>
    simp only [exec, execSweepTimerExpiry] at h
    split at h <;> cases h <;> exact .of_store (by simp)
  | areaHeaderRead data late =>
    cases h
    exact bus late (completed_poolKept s _ _ fun _ u => .of_store (by simp [State.takeHeader, afterHeader_keeps]))
  | descriptorRead data late =>
    cases h
    refine bus late (completed_poolKept s _ _ fun k u => ?_)
    unfold State.takeDescriptorRead
    split
    · exact takeDescriptor_poolKept u _ data
    · exact .of_store (by simp)
    · exact .refl u
  | openRequest =>
    simp only [exec, execOpen] at h
    repeat' split at h
    all_goals cases h
    · exact (State.PoolKept.of_store (by simp)).settles s
    · exact .refl s
    · exact .refl s
  | closeRequest => cases h; exact (onRequest_poolKept s _ fun n x => .of_store (by simp)).settles s
  | cancelRequest => cases h; exact (onRequest_poolKept s _ (doCancel_poolKept s)).settles s
  | rushRequest => cases h; exact (onRequest_poolKept s _ fun n x => .of_store (by simp)).settles s
  | resetRequest => cases h; exact (onRequest_poolKept s _ (doReset_poolKept s)).settles s
  | badRequest => cases h; exact (onRequest_poolKept s _ fun n x => .of_store (by simp)).settles s
  | fontDirectoryRead data late | deviceRecordWrite late | flushDirectoryRead data late =>
    cases h
    exact bus late (completed_poolKept s _ _ fun _ u => .of_store (by simp))
  | ringRead data late =>
    cases h
    refine bus late (completed_poolKept s _ _ fun k u => ?_)
    unfold State.takeRingRead
    split <;> exact .of_store rfl
  | lineRecord => cases h; exact (takeRecord_poolKept s _ (takeLine_poolKept s)).settles s
  | jobRecord => cases h; exact (takeRecord_poolKept s _ fun n _ => takeJob_poolKept s n).settles s
  | endRecord => cases h; exact (takeRecord_poolKept s _ (takeEnd_poolKept s)).settles s
  | markRecord => cases h; exact (takeRecord_poolKept s _ (takeMark_poolKept s)).settles s
  | wrapRecord => cases h; exact (takeRecord_poolKept s _ fun n _ => takeWrap_poolKept s n).settles s
  | discardRecord => cases h; exact (State.PoolKept.of_store (by simp)).settles s
  | formTransfer data late => cases h; exact bus late (completed_poolKept s _ _ fun _ u => takeFormBytes_poolKept u data)
  | flushTimerExpiry =>
    simp only [exec, execFlushTimerExpiry] at h
    split at h <;> cases h
    · exact ((flushExpired_poolKept _).after (by simp)).settles s
    · exact .refl s
  | descriptorWrite late =>
    cases h
    refine bus late (completed_poolKept s _ _ fun k u => ?_)
    unfold State.takeDescriptorWrite
    split <;> exact .of_store (by simp)
  | requestFieldWrite late =>
    cases h
    refine bus late (completed_poolKept s _ _ fun k u => ?_)
    unfold State.takeRequestField
    split
    · exact requestFieldWritten_poolKept u _ false
    · exact .refl u
  | busError late => cases h; exact bus late (failed_poolKept s failureOf_poolKept)
  | limitTimerExpiry =>
    simp only [exec, execLimitTimerExpiry] at h
    split at h <;> cases h
    · exact ((failed_poolKept _ failureOf_poolKept).after (by simp)).settles s
    · exact .refl s
  | bandBegin =>
    simp only [exec, execBandBegin] at h
    split at h <;> cases h
    · exact ((beginBand_poolKept s).trans (runBands_poolKept _ _)).settles s
    · exact .refl s
  | subBlockRead data late => cases h; exact bus late (completed_poolKept s _ _ fun _ u => takeSubBlock_poolKept u data)
  | messageHandover =>
    simp only [exec, execMessageHandover] at h
    split at h <;> cases h
    · exact .refl s
    · exact (handOver_poolKept s).settles s
  | pollTimerExpiry =>
    simp only [exec, execPollTimerExpiry] at h
    repeat' split at h
    all_goals cases h; exact .of_store (by simp)
  | answerTimerExpiry =>
    simp only [exec, execAnswerTimerExpiry] at h
    repeat' split at h
    all_goals cases h
    · exact .refl s
    · exact ((missPoll_poolKept _).after (by simp)).settles s
    · exact .refl s
  | status f | exitFrame f | refusedFrame f | badFrame f => cases h; exact frames f
  | startButton => cases h; exact (press_poolKept s .start fun u => by simp).settles s
  | stopButton => cases h; exact (press_poolKept s .stop fun u => by simp).settles s
  | topOfForm => cases h; exact press_poolKept s .topOfForm fun u => by simp
  | lineButton => cases h; exact press_poolKept s .line fun u => by simp
  | lampTest => cases h; exact press_poolKept s .lampTest fun _ => rfl
  | buttonRelease b =>
    cases h
    split <;> exact .of_store (by simp)
  | repeatTimerExpiry =>
    simp only [exec, execRepeatTimerExpiry] at h
    split at h <;> cases h <;> exact .of_store (by simp)
  | lingerTimerExpiry =>
    simp only [exec, execLingerTimerExpiry] at h
    split at h <;> cases h <;> exact .of_store rfl
  | blinkHalf => cases h; exact .of_store rfl

/-- A step runs the command at the front of the queue, or lets a millisecond pass. -/
theorem step_poolKept {s t : State} (h : step s = .next t) : s.PoolKept t := by
  unfold step at h
  split at h
  · next rest _ =>
    have queued : s.PoolKept (s.withPending rest) := .of_store rfl
    exact queued.trans (exec_poolKept h)
  · cases h
    exact .of_store rfl

/-- Settles O8: a strike is placed in a slot that is not FREE, where its line and the pool have room; the other
operations keep a slot's strikes on their lines, or give them back to the pool with the slot. -/
theorem strikePoolStaysSound : Obligations.StrikePoolStaysSound := by
  unfold Obligations.StrikePoolStaysSound
  exact fun s t hs hstep => (step_poolKept hstep).sound hs

end Sys2Proof.Machine
end
section
/-! PROOF. The carriage movements (R51 to R54, R56). -/

namespace Sys2Proof.Machine

/-- The first line from `lo` on that carries a stop. -/
theorem firstStop_eq_some_iff {f : Form} {s lo l : Nat} : f.firstStop s lo = some l ↔
    lo ≤ l ∧ l ≤ f.lines ∧ f.carries s l = true ∧ ∀ k, lo ≤ k → k < l → f.carries s k = false := by
  simp only [Form.firstStop, Form.linesFrom, List.find?_range'_eq_some, List.mem_range'_1, Bool.not_eq_true']
  constructor
  · rintro ⟨hc, ⟨h1, h2⟩, hk⟩
    exact ⟨h1, by omega, hc, hk⟩
  · rintro ⟨h1, h2, hc, hk⟩
    exact ⟨hc, ⟨h1, by omega⟩, hk⟩

theorem firstStop_eq_none_iff {f : Form} {s lo : Nat} : f.firstStop s lo = none ↔
    ∀ k, lo ≤ k → k ≤ f.lines → f.carries s k = false := by
  simp only [Form.firstStop, Form.linesFrom, List.find?_eq_none, List.mem_range'_1, Bool.not_eq_true]
  exact ⟨fun h k h1 h2 => h k ⟨h1, by omega⟩, fun h k hk => h k hk.1 (by omega)⟩

/-- A space over the end of a form of `lines` lines: as many whole forms as leave a line of the last one (R52). -/
theorem space_over {lines reach : Nat} (h0 : 1 ≤ lines) (h : lines < reach) : 1 ≤ (reach - 1) / lines ∧
    1 ≤ reach - (reach - 1) / lines * lines ∧ reach - (reach - 1) / lines * lines ≤ lines ∧
    (reach - 1) / lines * lines + (reach - (reach - 1) / lines * lines) = reach := by
  have hturn : 1 ≤ (reach - 1) / lines := Nat.div_pos (by omega) h0
  have hsplit := Nat.div_add_mod' (reach - 1) lines
  have hrest : (reach - 1) % lines < lines := Nat.mod_lt _ h0
  exact ⟨hturn, by omega, by omega, by omega⟩

/-- Settles O34: a space by its reach, a skip by the first line that carries its stop, below the cursor or on the next
form. -/
theorem carriageMovements : Obligations.CarriageMovements := by
  unfold Obligations.CarriageMovements
  intro f c h1 hc
  refine ⟨fun k hk => if_pos hk, fun k hk => ?_, fun stop l hl hlast hcarry hfirst => ?_,
    fun stop l hbelow hl hlast hcarry hfirst => ?_, rfl⟩
  · obtain ⟨o1, o2, o3, o4⟩ := space_over (by omega) hk
    exact ⟨_, _, if_neg (by omega), o1, o2, o3, o4⟩
  · have here : f.firstStop stop (c + 1) = some l := firstStop_eq_some_iff.mpr ⟨hl, hlast, hcarry, hfirst⟩
    rw [Form.move, here]
  · have below : f.firstStop stop (c + 1) = none := firstStop_eq_none_iff.mpr hbelow
    have first : f.firstStop stop 1 = some l := firstStop_eq_some_iff.mpr ⟨hl, hlast, hcarry, hfirst⟩
    rw [Form.move, below, first]
    rfl

end Sys2Proof.Machine
end
section
/-! PROOF. A LINE whose strike is dropped, or waits for a strike entry (R63 to R65). -/

namespace Sys2Proof.Machine

/-! ## The strike is dropped and counted (R63, R64) -/

/-- Strikes dropped for their row and for their line are counted on stream `n`. -/
def State.countDrops (s : State) (n : Fin 8) (late excess : Nat) : State :=
  s.modStream n fun r => { r with late := satAdd r.late late, excess := satAdd r.excess excess }

theorem countDrops_stream (s : State) (n : Fin 8) (late excess : Nat) (m : Fin 8) :
    (s.countDrops n late excess).stream m = if n = m then
      { s.stream m with late := satAdd (s.stream m).late late, excess := satAdd (s.stream m).excess excess }
    else s.stream m := State.stream_modStream s n m _

section
variable {s : State} {n : Fin 8} {i : Fin 4} {h : RecordHeader}

/-- A strike whose line begins above the split row comes too late. -/
theorem offerStrike_late (hl : (s.slot i).copy.top (s.comp.cursor.getD 1) < (s.slot i).split) :
    s.offerStrike n i h = s.countDrops n 1 0 := by
  simp only [State.offerStrike, State.countDrops, satAdd_zero, if_pos hl]

/-- A line holds four strikes. -/
theorem offerStrike_excess (hl : (s.slot i).split ≤ (s.slot i).copy.top (s.comp.cursor.getD 1))
    (h4 : 4 ≤ (s.slot i).strikesOn (s.comp.cursor.getD 1)) : s.offerStrike n i h = s.countDrops n 0 1 := by
  have h4 : Config.lineStrikes ≤ (s.slot i).strikesOn (s.comp.cursor.getD 1) := h4
  simp only [State.offerStrike, State.countDrops, satAdd_zero, if_neg (Nat.not_lt.mpr hl), if_pos h4]

/-- A strike that belongs on its line waits for an entry of the pool. -/
theorem offerStrike_waits (hl : (s.slot i).split ≤ (s.slot i).copy.top (s.comp.cursor.getD 1))
    (h4 : (s.slot i).strikesOn (s.comp.cursor.getD 1) < 4) (hp : 1024 ≤ s.store.poolUsed) :
    s.offerStrike n i h = { s with comp := { s.comp with state := .waitStrike } } := by
  have h4 : ¬ Config.lineStrikes ≤ (s.slot i).strikesOn (s.comp.cursor.getD 1) := Nat.not_le.mpr h4
  have hp : Config.poolSize ≤ s.store.poolUsed := hp
  simp only [State.offerStrike, if_neg (Nat.not_lt.mpr hl), if_neg h4, if_pos hp]

end

/-- The state in which a LINE within its page whose strike was dropped has been taken. -/
def State.lineDropped (s : State) (n : Fin 8) (late excess : Nat) (h : RecordHeader) (l1 l2 : Nat) : State :=
  (((s.setCursor n l1).countDrops n late excess).setCursor n l2).advanceTake n h.length

theorem lineDropped_stream (s : State) (n : Fin 8) (late excess : Nat) (h : RecordHeader) (l1 l2 : Nat) (m : Fin 8) :
    (s.lineDropped n late excess h l1 l2).stream m = if n = m then
      { (s.stream m).taken ((s.stream n).after h.length) with
        late := satAdd (s.stream m).late late, excess := satAdd (s.stream m).excess excess, cursorLine := l2 }
    else s.stream m := by
  simp only [State.lineDropped, advanceTake_stream, setCursor_stream, countDrops_stream, if_true]
  by_cases hm : n = m
  · simp only [if_pos hm]
    rfl
  · simp only [if_neg hm]

theorem lineDropped_jobs (s : State) (n : Fin 8) (late excess : Nat) (h : RecordHeader) (l1 l2 : Nat) :
    (s.lineDropped n late excess h l1 l2).jobs = s.jobs :=
  (advanceTake_jobs _ n _).trans ((setCursor_jobs _ n l2).trans (jobs_modStream (setCursor_jobs s n l1) n))

theorem lineDropped_composing (s : State) (n : Fin 8) (late excess : Nat) (h : RecordHeader) (l1 l2 : Nat) :
    (s.lineDropped n late excess h l1 l2).composing = s.composing :=
  advanceTake_composing (((s.setCursor n l1).countDrops n late excess).setCursor n l2) n h.length

/-- The page that loses the strike follows take with its release offset, as every record's page does (R30). -/
theorem lineDropped_slot {s : State} {i : Fin 4} (hi : s.composing = some i) (n : Fin 8) (late excess : Nat)
    (h : RecordHeader) (l1 l2 : Nat) (j : Fin 4) : (s.lineDropped n late excess h l1 l2).slot j =
      if i = j then { s.slot j with releaseOff := (s.stream n).after h.length } else s.slot j := by
  let w := ((s.setCursor n l1).countDrops n late excess).setCursor n l2
  have take : (w.stream n).after h.length = (s.stream n).after h.length := by
    simp only [w, setCursor_stream, countDrops_stream, if_true]
    rfl
  have moved := advanceTake_slot (s := w) hi n h.length j
  rw [take] at moved
  exact moved

theorem lineDropped_keeps (s : State) (n : Fin 8) (late excess : Nat) (h : RecordHeader) (l1 l2 : Nat) :
    let v := s.lineDropped n late excess h l1 l2
    v.regs = s.regs ∧ v.form = s.form ∧ v.hostMem = s.hostMem ∧ v.comp = { s.comp with cursor := some l2 } ∧
      v.sc.readFailed = s.sc.readFailed ∧ v.store.poolUsed = s.store.poolUsed := by
  let w := ((s.setCursor n l1).countDrops n late excess).setCursor n l2
  have taken : s.lineDropped n late excess h l1 l2 = w.advanceTake n h.length := rfl
  have comp : (w.advanceTake n h.length).comp = w.comp := by simp
  intro v
  rw [show v = _ from taken]
  exact ⟨by simp; rfl, by simp; rfl, by simp; rfl, comp, (advanceTake_buffer w n _).2, (advanceTake_store n _).1⟩

section
variable {s t : State} {n : Fin 8} {i : Fin 4} {h : RecordHeader} {b a : Carriage} {l1 l2 : Nat}

/-- Of a LINE that places no strike on its page `i`: the page holds what it held, and the other pages and streams are as
they were. -/
structure State.PlacesNone (s : State) (n : Fin 8) (i : Fin 4) (t : State) : Prop where
  strikes : (t.slot i).strikes = (s.slot i).strikes
  pool : t.store.poolUsed = s.store.poolUsed
  overrun : (t.stream n).overrun = (s.stream n).overrun
  slots : ∀ j, j ≠ i → t.slot j = s.slot j
  others : ∀ m, m ≠ n → (t.stream m).core = (s.stream m).core
  form : t.form = s.form
  queue : t.sc.queue = s.sc.queue
  hostMem : t.hostMem = s.hostMem

/-- The record is taken although its strike was dropped, which the stream counts. -/
structure State.Drops (s : State) (n : Fin 8) (late excess : Nat) (h : RecordHeader) (line : Nat) (t : State) : Prop where
  late : (t.stream n).late = satAdd (s.stream n).late late
  excess : (t.stream n).excess = satAdd (s.stream n).excess excess
  cursor : t.comp.cursor = some line
  take : (t.stream n).take = (s.stream n).after h.length

/-- Steps 2 and 3 of R49 where the strike is dropped: the record goes on. -/
theorem lineBody_drops {late excess : Nat} (hc : s.comp.state = .ready) (hi : s.composing = some i)
    (hm1 : s.loadedForm.move (s.comp.cursor.getD 1) b = (0, l1)) (ha : carriageOf h.after = some a)
    (hm2 : s.loadedForm.move l1 a = (0, l2)) (h0 : h.textCount ≠ 0)
    (hd : (s.setCursor n l1).offerStrike n i h = (s.setCursor n l1).countDrops n late excess) :
    s.lineBody n h b = (s.lineDropped n late excess h l1 l2).afterTake n := by
  have hw := waits_of_ready hc
  have hw1 : ((s.setCursor n l1).countDrops n late excess).comp.waits = false := hw
  rw [lineBody_within hm1 hw, State.lineStrike, setCursor_composing, hi]
  dsimp only
  rw [if_neg h0, hd, if_neg (by rw [hw1]; decide),
    lineAfter_within (s := (s.setCursor n l1).countDrops n late excess) ha hm2 hw1]
  rfl

theorem settle_lineDropped (hb : s.regs.resetBusy = false) (ho : s.owner = some n) (hcm : s.Composed)
    (hi : s.composing = some i) (late excess : Nat) (h : RecordHeader) (l1 l2 : Nat) :
    let t := State.settle s ((s.lineDropped n late excess h l1 l2).afterTake n)
    s.PlacesNone n i t ∧ s.Drops n late excess h l2 t := by
  intro t
  obtain ⟨regs, form, hostMem, comp, readFailed, pool⟩ := lineDropped_keeps s n late excess h l1 l2
  have k : (s.lineDropped n late excess h l1 l2).WentOn n t :=
    settle_goesOn s (by rw [regs]; exact hb) ((owner_of_jobs (lineDropped_jobs ..)).trans ho)
      (readFailed.trans hcm.readFailed) (by rw [form]; exact hcm.noCheck)
      fun _ => by rw [lineDropped_composing, hi]; exact nofun
  have kn := k.core n
  rw [lineDropped_stream, if_pos rfl] at kn
  have slots (j : Fin 4) := (State.slot_congr k.store j).trans (lineDropped_slot hi n late excess h l1 l2 j)
  refine ⟨⟨by rw [slots, if_pos rfl], by rw [k.store]; exact pool, (core_overrun kn).trans rfl,
    fun j hj => (slots j).trans (if_neg (Ne.symm hj)),
    fun m hm => by rw [k.core, lineDropped_stream, if_neg (Ne.symm hm)], k.form.trans form,
    k.queue.trans (queue_of_jobs (lineDropped_jobs ..)), k.hostMem.trans hostMem⟩,
    core_late kn, core_excess kn, k.comp.cursor.trans (by rw [comp]), (core_take kn).trans rfl⟩

/-! ## The strike waits for an entry of the pool (R65) -/

/-- The state in which a LINE's strike waits for an entry. -/
def State.lineWaits (s : State) (n : Fin 8) (line : Nat) : State :=
  { s.setCursor n line with comp := { (s.setCursor n line).comp with state := .waitStrike } }

theorem lineBody_waitsStrike (hc : s.comp.state = .ready) (hi : s.composing = some i)
    (hm1 : s.loadedForm.move (s.comp.cursor.getD 1) b = (0, l1)) (h0 : h.textCount ≠ 0)
    (hl : (s.slot i).split ≤ (s.slot i).copy.top l1) (h4 : (s.slot i).strikesOn l1 < 4)
    (hp : 1024 ≤ s.store.poolUsed) : s.lineBody n h b = s.lineWaits n l1 := by
  rw [lineBody_within hm1 (waits_of_ready hc), State.lineStrike, setCursor_composing, hi]
  dsimp only
  rw [if_neg h0, offerStrike_waits (s := s.setCursor n l1) hl h4 hp]
  exact if_pos rfl

theorem settle_lineWaitsStrike (hb : s.regs.resetBusy = false) (ho : s.owner = some n) (hcm : s.Composed)
    (hp : 1024 ≤ s.store.poolUsed) (i : Fin 4) (l : Nat) : let t := State.settle s (s.lineWaits n l)
    s.PlacesNone n i t ∧ t.comp.state = .waitStrike ∧ t.comp.cursor = some l ∧ (t.stream n).take = (s.stream n).take ∧
      t.sc.buffer = s.sc.buffer := by
  intro t
  have hstream (m : Fin 8) := setCursor_stream s n l m
  have hj : (s.lineWaits n l).jobs = s.jobs := setCursor_jobs s n l
  have k : (s.lineWaits n l).Settled t := settle_stays s hb hcm.noCheck hcm.readFailed
    (grantsNothing_owner ((owner_of_jobs hj).trans ho)) (.inr ⟨rfl, hp⟩)
  have slots (j : Fin 4) : t.slot j = s.slot j := State.slot_congr k.store j
  have kn : (t.stream n).core = ((s.setCursor n l).stream n).core := k.core n
  rw [hstream, if_pos rfl] at kn
  refine ⟨⟨by rw [slots], by rw [k.store]; rfl, (core_overrun kn).trans rfl, fun j _ => slots j, fun m hm => ?_, k.form,
    k.queue, k.hostMem⟩, by rw [k.comp]; rfl, by rw [k.comp]; rfl, (core_take kn).trans rfl, k.buffer⟩
  have km : (t.stream m).core = ((s.setCursor n l).stream m).core := k.core m
  rw [km, hstream, if_neg (Ne.symm hm)]

end

/-- Settles O36: a dropped strike is counted and its record taken; with the pool full the record waits; a strike that is
placed leaves the rest as O35 says. -/
theorem lineDropsItsStrike : Obligations.LineDropsItsStrike := by
  unfold Obligations.LineDropsItsStrike
  refine ⟨fun sl line => List.countP_eq_length_filter, ?_⟩
  intro n i h b a l1 l2 s hb hr ho hcm hst hj hw hk hbef haft hsb hsa hi hm1 hm2 h0
  have hexec : exec .lineRecord s = .next (State.settle s (s.lineBody n h b)) := by
    rw [exec_lineRecord ho hr hst hw hk, takeLine_body hj hbef haft hsb hsa]
  by_cases hl : (s.slot i).copy.top l1 < (s.slot i).split
  · obtain ⟨k, d⟩ := settle_lineDropped hb ho hcm hi 1 0 h l1 l2
    rw [lineBody_drops hst hi hm1 haft hm2 h0 (offerStrike_late (s := s.setCursor n l1) hl)] at hexec
    have excess := d.excess.trans (satAdd_zero _)
    exact ⟨_, hexec, fun _ => ⟨d.late, excess, d.cursor, d.take⟩, fun h' => absurd hl (by omega),
      fun h' => absurd hl (by omega), fun _ => ⟨k.strikes, k.pool, k.overrun⟩, k.slots, k.others, k.form, k.queue,
      k.hostMem⟩
  · have hl' := Nat.not_lt.mp hl
    by_cases h4 : 4 ≤ (s.slot i).strikesOn l1
    · obtain ⟨k, d⟩ := settle_lineDropped hb ho hcm hi 0 1 h l1 l2
      rw [lineBody_drops hst hi hm1 haft hm2 h0 (offerStrike_excess (s := s.setCursor n l1) hl' h4)] at hexec
      have late := d.late.trans (satAdd_zero _)
      exact ⟨_, hexec, fun h' => absurd h' hl, fun _ _ => ⟨d.excess, late, d.cursor, d.take⟩,
        fun _ h' => absurd h4 (by omega), fun _ => ⟨k.strikes, k.pool, k.overrun⟩, k.slots, k.others, k.form, k.queue,
        k.hostMem⟩
    · by_cases hp : 1024 ≤ s.store.poolUsed
      · obtain ⟨k, waits⟩ := settle_lineWaitsStrike (n := n) hb ho hcm hp i l1
        rw [lineBody_waitsStrike hst hi hm1 h0 hl' (by omega) hp] at hexec
        exact ⟨_, hexec, fun h' => absurd h' hl, fun _ h' => absurd h' h4, fun _ _ _ => waits,
          fun _ => ⟨k.strikes, k.pool, k.overrun⟩, k.slots, k.others, k.form, k.queue, k.hostMem⟩
      · have places := linePlacesAStrike
        unfold Obligations.LinePlacesAStrike at places
        obtain ⟨-, -, -, -, -, -, -, -, places⟩ := places
        obtain ⟨t, ht, -, -, -, -, -, -, -, -, -, -, -, -, -, -, slots, others, -, -, -, -, -, form, queue, -, hostMem⟩ :=
          places n i h b a l1 l2 s hb hr ho hcm hst hj hw hk hbef haft hsb hsa hi hm1 hm2
            fun _ => ⟨hl', by omega, by omega⟩
        exact ⟨t, ht, fun h' => absurd h' hl, fun _ h' => absurd h' h4, fun _ _ h' => absurd h' hp,
          fun h' => absurd h' (by omega), slots, others, form, queue, hostMem⟩

end Sys2Proof.Machine
end
section
/-! PROOF. The flush timer's expiry (R70, R89, R104, R111, R120). -/

namespace Sys2Proof.Machine

/-! ## The row at which a flush ends (R89, R120) -/

/-- The greatest of some numbers. -/
theorem foldl_max_eq {l : List Nat} {m : Nat} (hm : m ∈ l) (h : ∀ k ∈ l, k ≤ m) : l.foldl max 0 = m := by
  rw [List.foldl_eq_foldr]
  exact le_antisymm (List.max_le_of_forall_le l m h) (List.le_max_of_le hm le_rfl)

/-- A flush ends at the top row of the line below the last struck one, or at the form's length. -/
theorem flushRow_eq {sl : Slot} {m : Nat} (hm : ∃ k ∈ sl.strikes, k.line = m) (h : ∀ k ∈ sl.strikes, k.line ≤ m) :
    sl.flushRow = if sl.copy.lines ≤ m then sl.copy.length else sl.copy.topMargin + 300 * m / sl.copy.pitch := by
  have last : (sl.strikes.map (·.line)).foldl max 0 = m :=
    foldl_max_eq (List.mem_map.mpr hm) (List.forall_mem_map.mpr h)
  rw [Slot.flushRow, last]
  rfl

theorem unsent_iff (sl : Slot) : sl.unsent = true ↔ ∃ k ∈ sl.strikes, sl.split ≤ sl.copy.top k.line := by
  simp [Slot.unsent]

/-! ## The slot that a flush leaves (R111) -/

theorem flushEntry_composing {sl : Slot} (h : sl.state = .composing) (row : Nat) : sl.flushEntry row =
    { sl with entry := some ⟨sl.split, row⟩, split := row, state := if sl.split = 0 then .closed else .imaging } := by
  simp [Slot.flushEntry, h]

/-- A page flushed before keeps the row at which its entry begins. -/
theorem flushEntry_extended {sl : Slot} {e : Entry} (h : sl.state ≠ .composing) (he : sl.entry = some e) (row : Nat) :
    sl.flushEntry row = { sl with entry := some ⟨e.first, row⟩, split := row } := by
  unfold Slot.flushEntry
  split
  · next hs => exact absurd hs h
  · next e' he' _ =>
    obtain rfl : e = e' := Option.some.inj (he.symm.trans he')
    rfl
  · next he' _ => cases he.symm.trans he'

theorem flushEntry_keeps (row : Nat) (sl : Slot) : (sl.flushEntry row).mark = sl.mark ∧
    (sl.flushEntry row).pageNo = sl.pageNo ∧ (sl.flushEntry row).releaseOff = sl.releaseOff ∧
    (sl.flushEntry row).firstClose = sl.firstClose := by
  unfold Slot.flushEntry
  split <;> exact ⟨rfl, rfl, rfl, rfl⟩

/-- What steps 1 to 4 of a flush leave of page `i` has its entry and its state changed last. -/
theorem closeFlush_slot (s : State) (i : Fin 4) : ∃ ks ref made, (s.closeFlush i).slot i =
    ({ s.slot i with strikes := ks, ruleRef := ref, fillMade := made, firstClose := true } : Slot).flushEntry
      (s.slot i).flushRow := by
  obtain ⟨ks, ref, made, -, h⟩ := closedSlot_eq s (s.slot i).flushRow (s.slot i)
  refine ⟨ks, ref, made, ?_⟩
  rw [State.closeFlush, State.slot_modSlot_same, closeSteps_slot, h]

theorem closeFlush_slot_other (s : State) {i k : Fin 4} (h : k ≠ i) : (s.closeFlush i).slot k = s.slot k := by
  rw [State.closeFlush, State.slot_modSlot, if_neg (Ne.symm h), closeSteps_slot_other s h]

/-- The first close of a page puts it at the tail of the imaging list; a later flush leaves it where it is. -/
theorem closeFlush_store (s : State) (i : Fin 4) :
    (s.closeFlush i).store.imaging =
      (if (s.slot i).firstClose then s.store.imaging else s.store.imaging ++ [i]) ∧
    (s.closeFlush i).store.poolUsed = s.store.poolUsed := by
  obtain ⟨h1, h2, -⟩ := closeSteps_store s i (s.slot i).flushRow
  exact ⟨h1, h2⟩

theorem closeFlush_pagesOnly (s : State) (i : Fin 4) : s.PagesOnly (s.closeFlush i) :=
  (closeSteps_pagesOnly s i _).modSlot i _

/-- What a flush shows: of page `i` what R111 gives, of the others and of the pool nothing. -/
structure State.Flushes (s : State) (i : Fin 4) (t : State) : Prop where
  composing : (s.slot i).state = .composing →
    (t.slot i).entry = some ⟨(s.slot i).split, (s.slot i).flushRow⟩ ∧ (t.slot i).split = (s.slot i).flushRow ∧
      (t.slot i).state = (if (s.slot i).split = 0 then .closed else .imaging)
  extended : ∀ e, (s.slot i).state ≠ .composing → (s.slot i).entry = some e →
    (t.slot i).entry = some ⟨e.first, (s.slot i).flushRow⟩ ∧ (t.slot i).split = (s.slot i).flushRow ∧
      (t.slot i).state = (s.slot i).state
  firstClose : (t.slot i).firstClose = true
  mark : (t.slot i).mark = (s.slot i).mark
  pageNo : (t.slot i).pageNo = (s.slot i).pageNo
  releaseOff : (t.slot i).releaseOff = (s.slot i).releaseOff
  others : ∀ k, k ≠ i → t.slot k = s.slot k
  imaging : t.store.imaging = (if (s.slot i).firstClose then s.store.imaging else s.store.imaging ++ [i])
  pool : t.store.poolUsed = s.store.poolUsed

theorem closeFlush_flushes (s : State) (i : Fin 4) : s.Flushes i (s.closeFlush i) := by
  obtain ⟨ks, ref, made, h⟩ := closeFlush_slot s i
  obtain ⟨mark, pageNo, releaseOff, firstClose⟩ := flushEntry_keeps (s.slot i).flushRow
    { s.slot i with strikes := ks, ruleRef := ref, fillMade := made, firstClose := true }
  obtain ⟨imaging, pool⟩ := closeFlush_store s i
  refine ⟨fun hs => ?_, fun e hs he => ?_, by rw [h, firstClose], by rw [h, mark], by rw [h, pageNo],
    by rw [h, releaseOff], fun k hk => closeFlush_slot_other s hk, imaging, pool⟩
  · rw [h, flushEntry_composing (by exact hs)]
    exact ⟨rfl, rfl, rfl⟩
  · rw [h, flushEntry_extended (by exact hs) (by exact he)]
    exact ⟨rfl, rfl, rfl⟩

theorem State.Flushes.congr {s s' t t' : State} {i : Fin 4} (h : s.Flushes i t) (hs : s'.store = s.store)
    (ht : t'.store = t.store) : s'.Flushes i t' := by
  have before (j : Fin 4) : s'.slot j = s.slot j := State.slot_congr hs j
  have after (j : Fin 4) : t'.slot j = t.slot j := State.slot_congr ht j
  obtain ⟨composing, extended, firstClose, mark, pageNo, releaseOff, others, imaging, pool⟩ := h
  constructor <;> simpa only [before, after, hs, ht]

/-! ## The expiry (R70) -/

/-- The flush timer stands expired. -/
def State.timedOut (s : State) : State := { s with comp := { s.comp with flush := .expired } }

theorem flushExpired_cases {s : State} {i : Fin 4} (hi : s.composing = some i) :
    ((s.slot i).unsent = true ∧ s.flushExpired = s.timedOut.closeFlush i) ∨
      ((s.slot i).unsent = false ∧ s.flushExpired = s.timedOut) := by
  unfold State.flushExpired
  dsimp only
  split
  · next j hj =>
    obtain rfl : j = i := Option.some.inj (hj.symm.trans hi)
    split
    · next hu => exact .inl ⟨hu, rfl⟩
    · next hu => exact .inr ⟨Bool.eq_false_iff.mpr hu, rfl⟩
  · next hn => cases hi.symm.trans hn

theorem flushExpired_comp {s : State} {i : Fin 4} (hi : s.composing = some i) :
    s.flushExpired.comp = { s.comp with flush := .expired } := by
  rcases flushExpired_cases hi with ⟨-, e⟩ | ⟨-, e⟩ <;> rw [e]
  · exact (by simp : (s.timedOut.closeFlush i).comp = s.timedOut.comp)
  · rfl

theorem flushExpired_pagesOnly {s : State} {i : Fin 4} (hi : s.composing = some i) : s.PagesOnly s.flushExpired := by
  rcases flushExpired_cases hi with ⟨-, e⟩ | ⟨-, e⟩ <;> rw [e]
  · exact (closeFlush_pagesOnly s.timedOut i).after rfl
  · exact .of_eq rfl

theorem exec_flushTimerExpiry {s : State} {ms : Nat} (h : s.comp.flush = .running ms) :
    exec .flushTimerExpiry s = .next (State.settle s (s.elapse ms).flushExpired) := by
  simp only [exec, execFlushTimerExpiry, h]

/-- The command that finds the timer running shows what the expiry leaves. -/
theorem settle_flushExpired (old : State) {s : State} {i : Fin 4} {n : Fin 8} (hb : s.regs.resetBusy = false)
    (ho : s.owner = some n) (hc : s.Composed) (hi : s.composing = some i) :
    s.flushExpired.Settled (State.settle old s.flushExpired) := by
  have comp := flushExpired_comp hi
  obtain ⟨-, -, readFailed, -⟩ := (flushExpired_pagesOnly hi).lists.fields
  exact settle_settled old (by simpa using hb)
    ⟨by rw [comp]; exact hc.waits, readFailed.trans hc.readFailed, by simpa using hc.noCheck⟩
    (grantsNothing_owner ((owner_of_jobs (flushExpired_jobs s)).trans ho))

/-- Settles O45: the page is closed where it holds an unsent strike, and stays else; the rest is the timer's. -/
theorem flushTimerClosesTheUnsentRows : Obligations.FlushTimerClosesTheUnsentRows := by
  unfold Obligations.FlushTimerClosesTheUnsentRows
  intro ms n i s hb hf ho hcm hi
  have hcm : (s.elapse ms).Composed := ⟨hcm.waits, hcm.readFailed, hcm.noCheck⟩
  have k := settle_flushExpired s (s := s.elapse ms) (i := i) hb ho hcm hi
  have comp := k.comp.trans (flushExpired_comp (s := s.elapse ms) hi)
  refine ⟨_, exec_flushTimerExpiry hf, by rw [comp], by rw [comp]; rfl, by rw [comp]; rfl, by simp; rfl, ?_⟩
  generalize State.settle s (s.elapse ms).flushExpired = t at k
  have streams (m : Fin 8) : (t.stream m).take = (s.stream m).take ∧ (t.stream m).state = (s.stream m).state := by
    have pages := (flushExpired_pagesOnly (s := s.elapse ms) hi).bare m
    exact ⟨(core_take (k.core m)).trans (congrArg StreamRec.take pages :),
      (core_state (k.core m)).trans (congrArg StreamRec.state pages :)⟩
  have form : t.form = s.form := k.form.trans (by simp)
  have view : t.sc.view = s.sc.view := k.view.trans (by simp)
  have hostMem : t.hostMem = s.hostMem := k.hostMem.trans (by simp)
  rcases flushExpired_cases (s := s.elapse ms) hi with ⟨hu, e⟩ | ⟨hu, e⟩
  · have flush : s.Flushes i t := (closeFlush_flushes (s.elapse ms).timedOut i).congr rfl (k.store.trans (by rw [e]))
    obtain ⟨q, hq, hrow⟩ := (unsent_iff (s.slot i)).mp hu
    refine ⟨fun _ hs => ?_, fun m => flushRow_eq, fun e _ => flush.extended e, fun hsent => ?_, flush.mark, flush.pageNo,
      flush.releaseOff, flush.others, streams, flush.pool, form, view, hostMem⟩
    · obtain ⟨entry, split, state⟩ := flush.composing hs
      exact ⟨entry, split, state, flush.imaging, flush.firstClose⟩
    · exact absurd (hsent q hq) (Nat.not_lt.mpr hrow)
  · have store : t.store = s.store := k.store.trans (by rw [e]; rfl)
    have slots (j : Fin 4) : t.slot j = s.slot j := State.slot_congr store j
    have sent : ¬ ∃ q ∈ (s.slot i).strikes, (s.slot i).split ≤ (s.slot i).copy.top q.line := fun h => by
      have hu : (s.slot i).unsent = false := hu
      rw [(unsent_iff _).mpr h] at hu
      cases hu
    exact ⟨fun h => absurd h sent, fun m => flushRow_eq, fun _ h => absurd h sent, fun _ => store, by rw [slots],
      by rw [slots], by rw [slots], fun j _ => slots j, streams, by rw [store], form, view, hostMem⟩

end Sys2Proof.Machine
end
